-- ==== Sys2Proof/Word.lean ====
section
/-! DEFINITION. The byte: the unit of the links, of image text and of the counts that wrap at 256. -/

namespace Sys2Proof

/-- One byte: a character of a link or of image text, a stamp (R4), a reader sequence number (R97),
a frame tag (R164). Its arithmetic wraps at 256, as the manual says of each of these. -/
abbrev Byte := BitVec 8

end Sys2Proof
end

