-- ==== Sys2Proof/Config.lean ====
section
/-! DEFINITION. The capacities and limits the manual fixes for every part, and the values it leaves
open. An open value is an opaque constant: no proof can see what it is. -/

namespace Sys2Proof.Config

/-- Slots the Set Schedule holds at most (R1). -/
def windowCapacity : Nat := 128

/-- The largest set index (R1). -/
def maxSetIndex : Nat := 4294967295

/-- Sequence values in one block (R26). -/
def blockSize : Nat := 16384

/-- One above the largest sequence value: "a value beyond block 63" (Table 2-2). -/
def sequenceEnd : Nat := 1048576

/-- Entries of a staging queue at most (R73). -/
def stagingDepth : Nat := 4

/-- Entries of the make-up list at most (R135). -/
def makeupCapacity : Nat := 256

/-- Entries of the make-up list at which binding from the cursor is held (R136). -/
def makeupHigh : Nat := 128

/-- Notices the notice queue holds at most (R173). -/
def noticeCapacity : Nat := 48

/-- Replies a link's reply queue holds at most (R167). -/
def replyCapacity : Nat := 8

/-- Payload bytes of a frame at most (R164). -/
def maxPayload : Nat := 240

/-- The largest placement error of an impression (R91). -/
def maxError : Nat := 65535

/-- The largest value of a discard counter (R170). -/
def maxCounter : Nat := 65535

/-- The largest value of a 32-bit tally (R117). -/
def maxTally : Nat := 4294967295

/-- The largest pass number (Table 2-2, R146). -/
def maxPass : Nat := 65535

/-- The firmware level, "two numbers 0..255" (R170). The manual names no numbers: a free value,
assumption log 7. -/
opaque firmware : Byte × Byte

/-- What a 32-bit tally that R117 does not say saturates holds after it is raised at 4294967295,
by the number of the tally in Table 6-2. The manual states no value: a free value, assumption
log 8. -/
opaque tallyPast : Nat → BitVec 32

end Sys2Proof.Config
end

