-- ==== Sys2Proof/Syntax.lean ====
section
/-! DEFINITION. The commands of the FNC-6: one constructor per row of spec/opcode_table.json, in the
table's order, with the operands its rule names. -/

namespace Sys2Proof

/-- The six plies, P0..P5. -/
inductive Ply | p0 | p1 | p2 | p3 | p4 | p5
deriving DecidableEq, Repr

/-- The two serial links (R163). -/
inductive Link | press | service
deriving DecidableEq, Repr

/-- The four rates a rate strap selects, in baud (R163). -/
inductive Rate | b19200 | b38400 | b57600 | b115200
deriving DecidableEq, Repr

/-- An edge of an encoder input (R57).
`line` is an edge of the shared line encoder, counted by every active ply set to LINE.
`lineOn p` is the share of such an edge that falls to ply `p` alone: a line edge may also be
delivered ply by ply, so that other events can come between (assumption log 4).
`web p` is an edge of the web encoder of ply `p`, counted by `p` when it is set to WEB. -/
inductive Edge
  | line
  | lineOn (p : Ply)
  | web (p : Ply)
deriving DecidableEq, Repr

/-- What arrives on a reader port (R97): a record with its sequence number and a text, a record
that says nothing legible was found, or a record that cannot be decoded. A text that is empty or
longer than 16 characters makes the record unreadable. -/
inductive ReaderRecord
  | text (seq : Byte) (chars : List Byte)
  | noRead (seq : Byte)
  | unreadable
deriving DecidableEq, Repr

/-- The commands. A request carries the link it came on, the TAG of its frame and the payload
bytes, as a complete frame with a good CRC has delivered them (R166, assumption log 6). -/
inductive Instr
  -- R174: power comes on, with the two rate straps as they then stand
  | powerOn (pressStrap serviceStrap : Rate)
  -- Chapters 3 to 6: the press side
  | forwardCount (e : Edge)
  | reverseCount (e : Edge)
  | guardExpiry (p : Ply)
  | markPulse (p : Ply)
  | spliceEvent (p : Ply)
  | setCutoff
  | readerRecord (p : Ply) (r : ReaderRecord)
  -- Chapters 2 and 4: staging, rendering, the head port
  | stageNextSlot (p : Ply)
  | renderGrant
  | renderCompletion
  | loadStart (p : Ply)
  | accept (p : Ply) (stamp : Byte)
  | reject (p : Ply) (stamp cause : Byte)
  | loadTimerExpiry (p : Ply)
  -- Chapter 9: frames
  | frameLengthDiscard (l : Link) (len : Byte)
  | frameGapExpiry (l : Link)
  | frameCrcDiscard (l : Link) (last : Byte)
  | badKind (l : Link) (kind tag : Byte) (payload : List Byte)
  | replyTransmit (l : Link)
  | noticeTransmit (l : Link)
  -- Table 9-2: queries
  | identify (l : Link) (tag : Byte) (payload : List Byte)
  | readStatus (l : Link) (tag : Byte) (payload : List Byte)
  | readPly (l : Link) (tag : Byte) (payload : List Byte)
  | readSlots (l : Link) (tag : Byte) (payload : List Byte)
  | readTally (l : Link) (tag : Byte) (payload : List Byte)
  | readCursor (l : Link) (tag : Byte) (payload : List Byte)
  | readMakeups (l : Link) (tag : Byte) (payload : List Byte)
  | readBlock (l : Link) (tag : Byte) (payload : List Byte)
  | readLayout (l : Link) (tag : Byte) (payload : List Byte)
  | readSegment (l : Link) (tag : Byte) (payload : List Byte)
  | readLink (l : Link) (tag : Byte) (payload : List Byte)
  -- Table 9-2: control
  | takeControl (l : Link) (tag : Byte) (payload : List Byte)
  | releaseControl (l : Link) (tag : Byte) (payload : List Byte)
  -- Table 9-2: configuration
  | setPly (l : Link) (tag : Byte) (payload : List Byte)
  | setLayout (l : Link) (tag : Byte) (payload : List Byte)
  | setBlock (l : Link) (tag : Byte) (payload : List Byte)
  | setSegment (l : Link) (tag : Byte) (payload : List Byte)
  | setTrim (l : Link) (tag : Byte) (payload : List Byte)
  | clearMakeups (l : Link) (tag : Byte) (payload : List Byte)
  -- Table 9-2: the run
  | startRun (l : Link) (tag : Byte) (payload : List Byte)
  | hold (l : Link) (tag : Byte) (payload : List Byte)
  | release (l : Link) (tag : Byte) (payload : List Byte)
  | continueRun (l : Link) (tag : Byte) (payload : List Byte)
  | endRun (l : Link) (tag : Byte) (payload : List Byte)
  | abortRun (l : Link) (tag : Byte) (payload : List Byte)
  | runMakeups (l : Link) (tag : Byte) (payload : List Byte)
  | clearFault (l : Link) (tag : Byte) (payload : List Byte)
  | withdrawSet (l : Link) (tag : Byte) (payload : List Byte)
  | restart (l : Link) (tag : Byte) (payload : List Byte)
  -- R174, R165, R164
  | restartPerformed (pressStrap serviceStrap : Rate)
  | frameByteReceived (l : Link) (b : Byte)
  | lastByteSent (l : Link)
deriving DecidableEq, Repr

/-- The request kinds of Table 9-2. -/
inductive Request
  | identify | readStatus | readPly | readSlots | readTally | readCursor | readMakeups | readBlock
  | readLayout | readSegment | readLink | takeControl | releaseControl | setPly | setLayout
  | setBlock | setSegment | setTrim | clearMakeups | startRun | hold | release | continueRun
  | endRun | abortRun | runMakeups | clearFault | withdrawSet | restart
deriving DecidableEq, Repr

end Sys2Proof
end

