-- ==== Sys2Proof/WellFormed.lean ====
section
/-! DEFINITION. Which commands are well formed: the limits a command's operands keep on the wire or
on its port. Every command has a meaning, well formed or not. -/

namespace Sys2Proof

/-- The KIND codes that Table 9-2 defines. -/
def requestCodes : List Byte :=
  [0x10, 0x11, 0x12, 0x13, 0x14, 0x15, 0x16, 0x17, 0x18, 0x19, 0x1A, 0x20, 0x21, 0x30, 0x31,
   0x32, 0x33, 0x34, 0x35, 0x40, 0x41, 0x42, 0x43, 0x44, 0x45, 0x46, 0x47, 0x48, 0x4F]

/-- A record a reader can send with its text readable holds 1..16 characters (R97). -/
def ReaderRecord.wellFormed : ReaderRecord → Bool
  | .text _ chars => decide (1 ≤ chars.length ∧ chars.length ≤ 16)
  | .noRead _ => true
  | .unreadable => true

/-- A frame's payload is at most 240 bytes (R164). -/
def payloadFits (payload : List Byte) : Bool := decide (payload.length ≤ Config.maxPayload)

/-- Well-formedness of a command: its operands are ones the wire can carry (R164), the record is
one the port can decode (R97), a discarded LEN is above 240 (R165), a BAD_KIND frame's KIND is no
request (R166). -/
def Instr.wellFormed : Instr → Bool
  | .powerOn _ _ => true
  | .forwardCount _ => true
  | .reverseCount _ => true
  | .guardExpiry _ => true
  | .markPulse _ => true
  | .spliceEvent _ => true
  | .setCutoff => true
  | .readerRecord _ r => r.wellFormed
  | .stageNextSlot _ => true
  | .renderGrant => true
  | .renderCompletion => true
  | .loadStart _ => true
  | .accept _ _ => true
  | .reject _ _ _ => true
  | .loadTimerExpiry _ => true
  | .frameLengthDiscard _ len => decide (Config.maxPayload < len.toNat)
  | .frameGapExpiry _ => true
  | .frameCrcDiscard _ _ => true
  | .badKind _ kind _ payload => !requestCodes.contains kind && payloadFits payload
  | .replyTransmit _ => true
  | .noticeTransmit _ => true
  | .identify _ _ payload => payloadFits payload
  | .readStatus _ _ payload => payloadFits payload
  | .readPly _ _ payload => payloadFits payload
  | .readSlots _ _ payload => payloadFits payload
  | .readTally _ _ payload => payloadFits payload
  | .readCursor _ _ payload => payloadFits payload
  | .readMakeups _ _ payload => payloadFits payload
  | .readBlock _ _ payload => payloadFits payload
  | .readLayout _ _ payload => payloadFits payload
  | .readSegment _ _ payload => payloadFits payload
  | .readLink _ _ payload => payloadFits payload
  | .takeControl _ _ payload => payloadFits payload
  | .releaseControl _ _ payload => payloadFits payload
  | .setPly _ _ payload => payloadFits payload
  | .setLayout _ _ payload => payloadFits payload
  | .setBlock _ _ payload => payloadFits payload
  | .setSegment _ _ payload => payloadFits payload
  | .setTrim _ _ payload => payloadFits payload
  | .clearMakeups _ _ payload => payloadFits payload
  | .startRun _ _ payload => payloadFits payload
  | .hold _ _ payload => payloadFits payload
  | .release _ _ payload => payloadFits payload
  | .continueRun _ _ payload => payloadFits payload
  | .endRun _ _ payload => payloadFits payload
  | .abortRun _ _ payload => payloadFits payload
  | .runMakeups _ _ payload => payloadFits payload
  | .clearFault _ _ payload => payloadFits payload
  | .withdrawSet _ _ payload => payloadFits payload
  | .restart _ _ payload => payloadFits payload
  | .restartPerformed _ _ => true
  | .frameByteReceived _ _ => true
  | .lastByteSent _ => true

end Sys2Proof
end

