-- ==== Sys2Proof/Machine/State.lean ====
section
/-! DEFINITION. The state of the FNC-6: every record, table, queue, counter and output the manual
names, as plain data, and the state right after power-on. Each type cites the table or rule it
follows. A field that the manual says exists only in some states is carried by the constructor of
that state, so that its presence cannot be wrong. -/

namespace Sys2Proof.Machine

/-- One value for each ply. -/
structure PerPly (α : Type) where
  p0 : α
  p1 : α
  p2 : α
  p3 : α
  p4 : α
  p5 : α
deriving DecidableEq, Repr

/-- The same value for every ply. -/
def PerPly.all {α : Type} (a : α) : PerPly α := ⟨a, a, a, a, a, a⟩

/-- One value for each link. -/
structure PerLink (α : Type) where
  press : α
  service : α
deriving DecidableEq, Repr

/-! ## The Set Schedule (Chapter 1) -/

/-- The reasons a spoil can carry (section 1.2). -/
inductive Reason
  | miss | misplace | inhibited | mismatch | noread | noresult | splice | align
deriving DecidableEq, Repr

/-- A spoil's reason and the ply on which it was found (R6). -/
structure SpoilMark where
  reason : Reason
  ply : Ply
deriving DecidableEq, Repr

/-- Why a slot is VOID (R6). -/
inductive VoidReason
  | spoil (mark : SpoilMark)
  | collateral
  | abort
deriving DecidableEq, Repr

/-- Cursor-before: the bind cursor as it stood before the binding (R5). -/
structure CursorBefore where
  segment : Nat
  pass : Nat
  next : Nat
  issued : Nat
deriving DecidableEq, Repr

/-- The fields of a binding (R3). Make-up is no exactly when Cursor-before is present (R5). -/
structure Binding where
  value : Nat
  serial : Nat
  segment : Nat
  pass : Nat
  before : Option CursorBefore
deriving DecidableEq, Repr

/-- A slot's disposition with the fields Table 1-5 says exist in it. `opened` is the manual's OPEN.
A VOID slot had always been BOUND (Table 1-7), so it carries the fields of a binding. -/
inductive Disposition
  | opened
  | bound (b : Binding) (spoilPending : Option SpoilMark)
  | skip
  | void (b : Binding) (reason : VoidReason)
deriving DecidableEq, Repr

/-- What a ply's head has done with the form (R7). -/
inductive PrintState
  | pending | printed | missed | inhibited | notPrinted | none
deriving DecidableEq, Repr

/-- What a ply's reader has reported for the form (R8). -/
inductive VerifyState
  | absent | notDue | await | isMatch | mismatch | noread | noresult | seen
deriving DecidableEq, Repr

/-- A ply sub-record (Table 1-6). -/
structure SubRecord where
  print : PrintState
  fired : Nat
  error : Option Nat
  misplaced : Bool
  verify : VerifyState
  splice : Bool
  second : Option Reason
deriving DecidableEq, Repr

/-- A slot (Table 1-5). Its set index is its place in the window, counted from the marriage slot.
A sub-record stands for each ply active at START-RUN. -/
structure Slot where
  disp : Disposition
  stamp : Byte
  subs : PerPly (Option SubRecord)
deriving DecidableEq, Repr

/-! ## The Number Engine (Chapter 2) -/

/-- The direction of a block (R26). -/
inductive Direction | asc | desc
deriving DecidableEq, Repr

/-- A VALID entry of the block table (R26). -/
structure Block where
  base : Nat
  dir : Direction
  count : Nat
deriving DecidableEq, Repr

/-- How leading zeros are printed (Table 2-1). -/
inductive Fill | zero | space
deriving DecidableEq, Repr

/-- The ten-rule of MOD11W (R32). -/
inductive TenRule | x | skip
deriving DecidableEq, Repr

/-- A layout's check method; MOD11W, and it only, has a ten-rule (Table 2-1). -/
inductive CheckMethod
  | none
  | mod10w31
  | mod11w (rule : TenRule)
  | mod7r
deriving DecidableEq, Repr

/-- A layout's overflow rule (R28). -/
inductive Overflow | roll | stop
deriving DecidableEq, Repr

/-- A DEFINED layout (Table 2-1). Field B is PRESENT exactly when it has a phase. -/
structure Layout where
  prefixText : List Byte
  width : Nat
  fill : Fill
  check : CheckMethod
  separator : Option Byte
  phaseA : Nat
  phaseB : Option Nat
  maskA : PerPly Bool
  maskB : PerPly Bool
  tolerance : Nat
  overflow : Overflow
deriving DecidableEq, Repr

/-- The cursor's states (Table 2-3). -/
inductive CursorState | active | paused | chainEnd | exhausted | closed
deriving DecidableEq, Repr

/-- The bind cursor (Table 2-2), the batch flag apart. `next` is the next value, and while the
cursor is EXHAUSTED, when the next value is absent, it is the resume value (R41, assumption
log 37). -/
structure Cursor where
  state : CursorState
  segment : Nat
  pass : Nat
  next : Nat
  issued : Nat
deriving DecidableEq, Repr

/-- The impression selects (R38). -/
inductive Select | a1 | a2 | b1 | b2
deriving DecidableEq, Repr

/-- An image: what an IMAGE entry carries (R73). -/
structure Image where
  slot : Nat
  stamp : Byte
  fieldA : List Byte
  fieldB : List Byte
  splitA : Bool
  splitB : Bool
  impressions : List (Select × List Byte)
deriving DecidableEq, Repr

/-- The render the render unit is busy with: the ply and slot served, and the stamp the slot had at
the grant (R49, R50). -/
structure Render where
  ply : Ply
  slot : Nat
  stamp : Byte
deriving DecidableEq, Repr

/-! ## Plies: records, Position Units, Head Controllers, checkers, captures (Chapters 3, 4, 5, 8) -/

/-- The position source of a ply (R57). -/
inductive PositionSource | line | web
deriving DecidableEq, Repr

/-- The head class of a ply (R38). -/
inductive HeadClass | narrow | wide
deriving DecidableEq, Repr

/-- The five kinds of fault (section 8.7). -/
inductive FaultKind | markLoss | reverseOverrun | headReject | headTimeout | alignment
deriving DecidableEq, Repr

/-- A ply's inhibit set: any subset of the five fault kinds (Table 3-1). -/
structure InhibitSet where
  markLoss : Bool
  reverseOverrun : Bool
  headReject : Bool
  headTimeout : Bool
  alignment : Bool
deriving DecidableEq, Repr

/-- A ply record as stored (Table 3-1). `splice` is the splice distance K where a sensor is
present. -/
structure PlyRecord where
  active : Bool
  source : PositionSource
  pathLength : Nat
  readerDistance : Nat
  splice : Option Nat
  markPhase : Nat
  markWindow : Nat
  reverseAllowance : Nat
  headClass : HeadClass
  splitPitch : Nat
  guardLimit : Nat
  loadTimeout : Nat
  inhibitSet : InhibitSet
  trim : Int
deriving DecidableEq, Repr

/-- The values of R53, which every ply record holds at power-on. -/
def PlyRecord.default : PlyRecord where
  active := false
  source := .line
  pathLength := 1
  readerDistance := 0
  splice := none
  markPhase := 0
  markWindow := 1
  reverseAllowance := 0
  headClass := .wide
  splitPitch := 1
  guardLimit := 0
  loadTimeout := 20
  inhibitSet := ⟨true, true, true, true, true⟩
  trim := 0

/-- The values in force during a run, derived at START-RUN (R54). -/
structure RunValues where
  window : Nat
  allowance : Nat
  guardLimit : Nat
  trim : Int
deriving DecidableEq, Repr

/-- The registration states (Table 3-3). -/
inductive Registration | off | search | locked | coast | lost
deriving DecidableEq, Repr

/-- The live state of a Position Unit (section 3.2). -/
structure PositionUnit where
  position : Nat
  owed : Nat
  registration : Registration
  headSlot : Nat
  markTaken : Bool
  spliceWatch : Option Nat
deriving DecidableEq, Repr

/-- An entry of a staging queue (R73): a BLANK, or an IMAGE whose load mark is TAKEN or WAITING. -/
inductive Entry
  | blank (slot : Nat)
  | image (img : Image) (taken : Bool)
deriving DecidableEq, Repr

/-- The load state with the head image, present in LOADING and LOADED. The load timer runs exactly
in LOADING (Table 4-1). -/
inductive Load
  | empty
  | loading (img : Image)
  | loaded (img : Image)
deriving DecidableEq, Repr

/-- The states of an impression of the plan (section 4.5). -/
inductive ImpressionState | waiting | deferred | fired | dropped
deriving DecidableEq, Repr

/-- An impression of the plan (Table 4-1). -/
structure Impression where
  select : Select
  phase : Nat
  state : ImpressionState
  error : Nat
deriving DecidableEq, Repr

/-- The state of a Head Controller (Table 4-1), the trim in force apart, which is a run value.
`plan` is in plan order and is that of the head slot; `deferred` lists the DEFERRED impressions in
the order they fell due (R87). -/
structure HeadController where
  queue : List Entry
  load : Load
  plan : List Impression
  deferred : List Select
  guardCount : Nat
  pendingTrim : Option Int
  inhibit : Bool
deriving DecidableEq, Repr

/-- The Readback Checker's own state for a ply (R98). -/
structure Checker where
  synced : Bool
  expected : Byte
deriving DecidableEq, Repr

/-- A held fault capture (R158). -/
structure Capture where
  kind : FaultKind
  index : Nat
  position : Nat
  more : Bool
deriving DecidableEq, Repr

/-- Everything the part holds for one ply. -/
structure PlyState where
  record : PlyRecord
  run : Option RunValues
  unit : PositionUnit
  head : HeadController
  checker : Checker
  capture : Option Capture
deriving DecidableEq, Repr

/-- A Position Unit at power-on and after RESTART (R56). -/
def PositionUnit.initial : PositionUnit := ⟨0, 0, .off, 0, false, none⟩

/-- A Head Controller at power-on and after RESTART (R72). -/
def HeadController.initial : HeadController := ⟨[], .empty, [], [], 0, none, false⟩

/-- A checker at power-on and after RESTART (R98). -/
def Checker.initial : Checker := ⟨false, 0⟩

/-- A ply at power-on (R53, R56, R72, R98, R158). -/
def PlyState.initial : PlyState :=
  ⟨PlyRecord.default, none, PositionUnit.initial, HeadController.initial, Checker.initial, none⟩

/-! ## The Marriage Unit and the Recovery Logic (Chapters 6 and 7) -/

/-- The outcome of a married set (Table 6-1). -/
inductive SetOutcome | good | spoiled | void | blank
deriving DecidableEq, Repr

/-- The nine run tallies (Table 6-2). -/
structure Tallies where
  retired : Nat
  good : Nat
  spoiled : Nat
  void : Nat
  blank : Nat
  withdrawn : Nat
  makeupGood : Nat
  skipped : Nat
  rollbacks : Nat
deriving DecidableEq, Repr

/-- The tallies at power-on, after RESTART and at START-RUN (R117). -/
def Tallies.zero : Tallies := ⟨0, 0, 0, 0, 0, 0, 0, 0, 0⟩

/-- The last-marriage record (R118): the binding where the slot carried one, and the spoil where
the outcome is SPOILED. -/
structure LastMarriage where
  index : Nat
  outcome : SetOutcome
  binding : Option Binding
  spoil : Option SpoilMark
deriving DecidableEq, Repr

/-- The spoil policy (R123). -/
inductive Policy | rollback | defer
deriving DecidableEq, Repr

/-- The end make-ups option (R123). -/
inductive EndMakeups | auto | manual
deriving DecidableEq, Repr

/-- An entry of the make-up list (Table 7-2). -/
structure MakeupEntry where
  value : Nat
  segment : Nat
  pass : Nat
  origin : Option Nat
deriving DecidableEq, Repr

/-! ## The Run Controller (Chapter 8) -/

/-- The run states (Table 8-2). -/
inductive RunState | idle | running | held | draining
deriving DecidableEq, Repr

/-- The hold causes (R148). -/
inductive HoldCause | host | fault | sequence | makeups
deriving DecidableEq, Repr

/-- The set of hold causes (R148). -/
structure HoldCauses where
  host : Bool
  fault : Bool
  sequence : Bool
  makeups : Bool
deriving DecidableEq, Repr

/-- No hold cause. -/
def HoldCauses.empty : HoldCauses := ⟨false, false, false, false⟩

/-- The drain kind, where it is not absent (R148). -/
inductive DrainKind | ended | abort
deriving DecidableEq, Repr

/-- The fault action (R148). -/
inductive FaultAction | spoil | hold
deriving DecidableEq, Repr

/-- The run parameters the Run Controller holds for the run last started (R148). -/
structure RunParams where
  cutoff : Nat
  firstSegment : Nat
  faultAction : FaultAction
deriving DecidableEq, Repr

/-- What a segment's pass does at its end (R144). -/
inductive EndAction | carryOn | pause
deriving DecidableEq, Repr

/-- A DEFINED segment (R144). `start` absent is CONTINUE; `next` absent is END. -/
structure Segment where
  layout : Nat
  quantity : Nat
  start : Option Nat
  endAction : EndAction
  next : Option Nat
deriving DecidableEq, Repr

/-! ## The Link Interface (Chapter 9) -/

/-- The owner of control (R168). -/
inductive Owner | none | press | service
deriving DecidableEq, Repr

/-- The refusal reasons of Table 9-4. -/
inductive RefusalReason
  | badKind | badLength | badField | notOwner | heldByOther | wrongState | inUse | listHigh
  | duplicate | inFlight | faultPending | exhausted | config
deriving DecidableEq, Repr

/-- What answers a request (R167): DONE with its result, or REFUSED with its reason and two detail
bytes. -/
inductive Answer
  | done (result : List Byte)
  | refused (reason : RefusalReason) (detail1 detail2 : Byte)
deriving DecidableEq, Repr

/-- A reply waiting in a reply queue: the TAG and KIND of the request answered, and the answer. -/
structure Reply where
  tag : Byte
  kind : Byte
  answer : Answer
deriving DecidableEq, Repr

/-- The way a run ended (R157). -/
inductive RunEnd | complete | drained | abandoned
deriving DecidableEq, Repr

/-- The action a SPOIL notice reports (R125). -/
inductive SpoilAction | voided | listed | duplicate | listFull
deriving DecidableEq, Repr

/-- The cause of a STRAY notice (R107), with the sequence number received where one counts. -/
inductive StrayCause
  | old (seq : Byte)
  | unmatched (seq : Byte)
  | format
deriving DecidableEq, Repr

/-- The cause of a SEGMENT-PAUSE notice (R146). -/
inductive PauseCause | endAction | segmentEmpty | layoutUnfit
deriving DecidableEq, Repr

/-- The cause of a RESTARTED notice (R174). -/
inductive RestartCause | power | request
deriving DecidableEq, Repr

/-- What a fault carries to the Run Controller (R158): the head's cause for HEAD REJECT, and for a
force-retire the slot as it was retired, by its disposition and whether it was touched. -/
structure FaultReport where
  kind : FaultKind
  index : Nat
  position : Nat
  cause : Option Byte
  retired : Option (Disposition × Bool)
deriving DecidableEq, Repr

/-- What a rewind did (R126, R134): slots made VOID, SKIP and OPEN; values given back to the
make-up list and values not added; list entries removed. -/
structure RewindCounts where
  voided : Nat
  skipped : Nat
  opened : Nat
  returned : Nat
  notAdded : Nat
  removed : Nat
deriving DecidableEq, Repr

/-- The notices of Table 9-5 with what each carries. -/
inductive Notice
  | runState (state : RunState) (causes : HoldCauses) (drain : Option DrainKind)
  | spoil (index : Nat) (mark : SpoilMark) (b : Binding) (action : SpoilAction)
  | rollback (index : Nat) (mark : SpoilMark) (counts : RewindCounts) (cursor : Option Cursor)
  | skipInsert (ply : Ply) (target : Nat)
      (undone : Option (Binding × RewindCounts × Option Cursor))
  | plyFault (ply : Ply) (report : FaultReport) (first inhibited : Bool)
  | segmentPause (segment pass : Nat) (next : Option Nat) (cause : PauseCause)
  | segmentDone (index : Nat) (b : Binding) (outcome : SetOutcome)
  | stray (ply : Ply) (cause : StrayCause) (expected : Byte)
  | exhausted (resume : Nat)
  | makeupHigh (entries : Nat) (batch : Bool)
  | control (new old : Owner) (requester : Link)
  | runEnd (way : RunEnd) (tallies : Tallies) (cursor : Option Cursor) (batch : Bool)
      (makeups : Nat)
  | restarted (cause : RestartCause) (firmware : Byte × Byte) (press service : Rate)
deriving DecidableEq, Repr

/-- Where a notice goes (R173): to a fixed link, or to whoever owns control when a transmitter
looks at it. -/
inductive Destination
  | fixed (l : Link)
  | owner
deriving DecidableEq, Repr

/-- An entry of the notice queue. -/
structure QueuedNotice where
  notice : Notice
  dest : Destination
deriving DecidableEq, Repr

/-- A link's discard counters (R170). -/
structure DiscardCounters where
  length : Nat
  gap : Nat
  crc : Nat
  overrun : Nat
deriving DecidableEq, Repr

/-- Everything the Link Interface holds for one link. `rx` is absent while the receiver hunts, and
while it receives it holds the bytes taken since the frame's SYNC (R165). `tx` is the frame being
sent, absent while the transmitter is free (R164). -/
structure LinkState where
  rate : Rate
  rx : Option (List Byte)
  replies : List Reply
  tx : Option (List Byte)
  counters : DiscardCounters
  noticeCount : Byte
deriving DecidableEq, Repr

/-- A link at power-on, at the rate its strap selects (R163, R165, R170, R174). -/
def LinkState.initial (rate : Rate) : LinkState := ⟨rate, none, [], none, ⟨0, 0, 0, 0⟩, 0⟩

/-- How far a RESTART that was taken has come (R174): its DONE waits on the link that sent it, is
being sent, or has been sent. -/
inductive RestartPhase
  | none
  | queued (l : Link)
  | sending (l : Link)
  | sent
deriving DecidableEq, Repr

/-- What a LOAD carries (R76). -/
structure LoadMessage where
  stamp : Byte
  slotLow : Byte
  fieldA : List Byte
  fieldB : List Byte
  splitA : Bool
  splitB : Bool
deriving DecidableEq, Repr

/-- What the part sends to the outside on lines that hold no state: a LOAD on a head port (R76), a
pulse on a fire line (R86), a frame begun on a link (R164). -/
inductive Output
  | load (p : Ply) (m : LoadMessage)
  | fire (p : Ply) (select : Select)
  | frame (l : Link) (bytes : List Byte)
deriving DecidableEq, Repr

/-! ## The whole machine -/

/-- The state of the FNC-6. `pending` and `out` are the model's own: the commands still to be
taken, and what has been sent, newest first (assumption logs 1 and 26). -/
structure State where
  -- Run Controller
  runState : RunState
  causes : HoldCauses
  drain : Option DrainKind
  params : Option RunParams
  runPlies : PerPly Bool
  segments : Vector (Option Segment) 32
  -- Set Schedule
  marriageSlot : Nat
  slots : List Slot
  -- Number Engine
  blocks : Vector (Option Block) 64
  layouts : Vector (Option Layout) 8
  cursor : Option Cursor
  batch : Bool
  render : Option Render
  lastGranted : Ply
  -- per ply
  plies : PerPly PlyState
  -- Marriage Unit
  marker : Bool
  tallies : Tallies
  lastMarriage : Option LastMarriage
  -- Recovery Logic
  policy : Option Policy
  endMakeups : Option EndMakeups
  makeups : List MakeupEntry
  -- Link Interface
  links : PerLink LinkState
  owner : Owner
  notices : List QueuedNotice
  withheld : Bool
  restart : RestartPhase
  -- the model's own
  pending : List Instr
  out : List Output
deriving DecidableEq, Repr

/-- Reasons a command stops the machine with a fault: none. The manual gives every command an
effect in every state (assumption log 38). -/
inductive Fault
deriving DecidableEq, Repr

/-- Reasons a command is refused. -/
inductive Refusal
  /-- Raised by exec for a command that has no meaning yet; no arm of exec raises it. Safe: the
  model stops where the part goes on. -/
  | notModelled (mnemonic : String)
deriving DecidableEq, Repr

/-- The part right after power-on: every block in its power-on state and RESTARTED with cause POWER
queued for PRESS (R174). Both rate straps are taken as 19 200 baud (assumption log 3), no ply counts
as active at a START-RUN (log 24), the receivers hunt and the transmitters are free (log 25). -/
def State.reset : State where
  runState := .idle
  causes := HoldCauses.empty
  drain := none
  params := none
  runPlies := PerPly.all false
  segments := Vector.replicate 32 none
  marriageSlot := 0
  slots := []
  blocks := Vector.replicate 64 none
  layouts := Vector.replicate 8 none
  cursor := none
  batch := false
  render := none
  lastGranted := .p5
  plies := PerPly.all PlyState.initial
  marker := false
  tallies := Tallies.zero
  lastMarriage := none
  policy := none
  endMakeups := none
  makeups := []
  links := ⟨LinkState.initial .b19200, LinkState.initial .b19200⟩
  owner := .none
  notices := [⟨.restarted .power Config.firmware .b19200 .b19200, .fixed .press⟩]
  withheld := false
  restart := .none
  pending := []
  out := []

end Sys2Proof.Machine
end

