-- ==== Sys2Proof/Machine/Ops.lean ====
section
/-! DEFINITION. The named operations over the state's parts: per-ply and per-link records, the slots
of the window, the notice queue, and what the Run Controller does with a hold cause and a fault.
There is no exception entry: raising a fault is `raiseFault`, an effect on the state (R158, R159). -/

namespace Sys2Proof.Machine

/-! ## Plies and links -/

/-- The six plies in the order P0..P5. -/
def plyOrder : List Ply := [.p0, .p1, .p2, .p3, .p4, .p5]

/-- A ply's number, 0..5. -/
def plyNumber : Ply → Nat
  | .p0 => 0 | .p1 => 1 | .p2 => 2 | .p3 => 3 | .p4 => 4 | .p5 => 5

/-- The ply of a number, where there is one. -/
def plyOfNumber : Nat → Option Ply
  | 0 => some .p0 | 1 => some .p1 | 2 => some .p2 | 3 => some .p3 | 4 => some .p4 | 5 => some .p5
  | _ => none

/-- The value held for a ply. -/
def PerPly.get {α : Type} (v : PerPly α) : Ply → α
  | .p0 => v.p0 | .p1 => v.p1 | .p2 => v.p2 | .p3 => v.p3 | .p4 => v.p4 | .p5 => v.p5

/-- The value held for one ply replaced. -/
def PerPly.set {α : Type} (v : PerPly α) (p : Ply) (a : α) : PerPly α :=
  match p with
  | .p0 => { v with p0 := a } | .p1 => { v with p1 := a } | .p2 => { v with p2 := a }
  | .p3 => { v with p3 := a } | .p4 => { v with p4 := a } | .p5 => { v with p5 := a }

/-- A function applied to the value of every ply. -/
def PerPly.map {α β : Type} (f : Ply → α → β) (v : PerPly α) : PerPly β :=
  ⟨f .p0 v.p0, f .p1 v.p1, f .p2 v.p2, f .p3 v.p3, f .p4 v.p4, f .p5 v.p5⟩

/-- The value held for a link. -/
def PerLink.get {α : Type} (v : PerLink α) : Link → α
  | .press => v.press | .service => v.service

/-- The value held for one link replaced. -/
def PerLink.set {α : Type} (v : PerLink α) (l : Link) (a : α) : PerLink α :=
  match l with
  | .press => { v with press := a } | .service => { v with service := a }

/-- What the part holds for a ply. -/
def State.ply (s : State) (p : Ply) : PlyState := s.plies.get p

/-- What the part holds for one ply changed. -/
def State.modPly (s : State) (p : Ply) (f : PlyState → PlyState) : State :=
  { s with plies := s.plies.set p (f (s.plies.get p)) }

/-- A ply's Position Unit changed. -/
def State.modUnit (s : State) (p : Ply) (f : PositionUnit → PositionUnit) : State :=
  s.modPly p fun ps => { ps with unit := f ps.unit }

/-- A ply's Head Controller changed. -/
def State.modHead (s : State) (p : Ply) (f : HeadController → HeadController) : State :=
  s.modPly p fun ps => { ps with head := f ps.head }

/-- What the part holds for a link. -/
def State.link (s : State) (l : Link) : LinkState := s.links.get l

/-- What the part holds for one link changed. -/
def State.modLink (s : State) (l : Link) (f : LinkState → LinkState) : State :=
  { s with links := s.links.set l (f (s.links.get l)) }

/-- A ply is active when its ply record says so (section 3.1). -/
def State.active (s : State) (p : Ply) : Bool := (s.ply p).record.active

/-- The active plies in the order P0..P5. -/
def State.activePlies (s : State) : List Ply := plyOrder.filter s.active

/-- Press events reach the blocks while the run is RUNNING, HELD or DRAINING (Table 8-2). -/
def State.inRun (s : State) : Bool := decide (s.runState ≠ .idle)

/-- The cutoff C of the run. -/
def State.cutoff (s : State) : Nat := (s.params.map (·.cutoff)).getD 0

/-! ## Slots -/

/-- The Schedule's answer for a set index (R1). -/
inductive SlotAnswer
  | retired
  | notCreated
  | held (slot : Slot)
deriving DecidableEq, Repr

/-- One above the top: the set index that the next slot created takes. -/
def State.windowEnd (s : State) : Nat := s.marriageSlot + s.slots.length

/-- R1: the slot for an index within the window, RETIRED below the marriage slot, NOT-CREATED above
the top. -/
def State.lookup (s : State) (j : Nat) : SlotAnswer :=
  if j < s.marriageSlot then .retired
  else match s.slots[j - s.marriageSlot]? with
    | some slot => .held slot
    | none => .notCreated

/-- The slot held at a set index, where the window holds one. -/
def State.slotAt (s : State) (j : Nat) : Option Slot :=
  match s.lookup j with
  | .held slot => some slot
  | .retired => none
  | .notCreated => none

/-- The binding and slot of a BOUND slot at a set index. -/
def State.boundAt (s : State) (j : Nat) : Option (Slot × Binding) :=
  match s.slotAt j with
  | some slot =>
    match slot.disp with
    | .bound b _ => some (slot, b)
    | .opened => none
    | .skip => none
    | .void _ _ => none
  | none => none

/-- R2: a change to the slot at an index, discarded where the window does not hold it. -/
def State.modSlot (s : State) (j : Nat) (f : Slot → Slot) : State :=
  if j < s.marriageSlot then s
  else { s with slots := s.slots.modify (j - s.marriageSlot) f }

/-- A change to one ply's sub-record of a slot, where it has one. -/
def Slot.modSub (slot : Slot) (p : Ply) (f : SubRecord → SubRecord) : Slot :=
  { slot with subs := slot.subs.set p ((slot.subs.get p).map f) }

/-- A change to one ply's sub-record of the slot at an index (R2). -/
def State.modSub (s : State) (j : Nat) (p : Ply) (f : SubRecord → SubRecord) : State :=
  s.modSlot j fun slot => slot.modSub p f

/-- One ply's sub-record of the slot at an index. -/
def State.subAt (s : State) (j : Nat) (p : Ply) : Option SubRecord :=
  (s.slotAt j).bind fun slot => slot.subs.get p

/-- Every print state of a slot changed alike. -/
def Slot.mapPrint (slot : Slot) (f : PrintState → PrintState) : Slot :=
  { slot with subs := slot.subs.map fun _ o => o.map fun r => { r with print := f r.print } }

/-! ## Outputs and notices -/

/-- What is sent on a line that holds no state is recorded, newest first. -/
def State.emit (s : State) (o : Output) : State := { s with out := o :: s.out }

/-- R173: a notice joins the queue with its destination; with 48 queued it is lost and the withheld
flag is set. -/
def State.queueNotice (s : State) (n : Notice) (dest : Destination) : State :=
  if s.notices.length < Config.noticeCapacity then
    { s with notices := s.notices ++ [⟨n, dest⟩] }
  else { s with withheld := true }

/-- R173: a notice for the owner, as it is when a transmitter looks. -/
def State.notify (s : State) (n : Notice) : State := s.queueNotice n .owner

/-- R148: the RUN-STATE notice with the state, the causes and the drain kind as they stand. -/
def State.notifyRunState (s : State) : State :=
  s.notify (.runState s.runState s.causes s.drain)

/-! ## Hold causes -/

/-- Whether a cause is in the set. -/
def HoldCauses.has (c : HoldCauses) : HoldCause → Bool
  | .host => c.host | .fault => c.fault | .sequence => c.sequence | .makeups => c.makeups

/-- The set with a cause joined. -/
def HoldCauses.join (c : HoldCauses) : HoldCause → HoldCauses
  | .host => { c with host := true }
  | .fault => { c with fault := true }
  | .sequence => { c with sequence := true }
  | .makeups => { c with makeups := true }

/-- R151: a cause given while RUNNING makes the run HELD; given while HELD it joins the set, with a
notice if it was not there; in DRAINING and IDLE it is not recorded. -/
def State.giveCause (s : State) (c : HoldCause) : State :=
  match s.runState with
  | .running => { s with causes := s.causes.join c, runState := .held }.notifyRunState
  | .held =>
    if s.causes.has c then s else { s with causes := s.causes.join c }.notifyRunState
  | .draining => s
  | .idle => s

/-! ## Faults -/

/-- Whether a kind is in an inhibit set. -/
def InhibitSet.has (i : InhibitSet) : FaultKind → Bool
  | .markLoss => i.markLoss
  | .reverseOverrun => i.reverseOverrun
  | .headReject => i.headReject
  | .headTimeout => i.headTimeout
  | .alignment => i.alignment

/-- R158: a clear capture becomes held with the fault's kind, set index and position; a held one
keeps them and sets its more-faults flag. -/
def recordCapture (c : Option Capture) (r : FaultReport) : Capture :=
  match c with
  | none => ⟨r.kind, r.index, r.position, false⟩
  | some held => { held with more := true }

/-- R158, R159: a fault on a ply reaches the Run Controller. It is captured; a kind in the ply's
inhibit set inhibits the head; PLY-FAULT is sent; and under fault action HOLD a fault that inhibits
gives the cause FAULT. -/
def State.raiseFault (s : State) (p : Ply) (r : FaultReport) : State :=
  let first := decide ((s.ply p).capture = none)
  let inhibits := (s.ply p).record.inhibitSet.has r.kind
  let s1 := s.modPly p fun ps =>
    { ps with
      capture := some (recordCapture ps.capture r)
      head := { ps.head with inhibit := ps.head.inhibit || inhibits } }
  let s2 := s1.notify (.plyFault p r first inhibits)
  if inhibits && decide (s2.params.map (·.faultAction) = some .hold) then s2.giveCause .fault
  else s2

/-! ## Tallies -/

/-- A 32-bit tally raised by one (R117). Past 4294967295 the manual states no value (log 8);
`n` is the tally's number in Table 6-2. -/
def raiseTally (n : Nat) (t : Nat) : Nat :=
  if t < Config.maxTally then t + 1 else (Config.tallyPast n).toNat

/-- R117: Skipped serials and Rollbacks stay at 4294967295 once they reach it. -/
def raiseSaturating (t more : Nat) : Nat := min (t + more) Config.maxTally

/-- Retired and Void raised for a slot retired without marriage (R19, R156). -/
def Tallies.retireVoid (t : Tallies) : Tallies :=
  { t with retired := raiseTally 0 t.retired, void := raiseTally 3 t.void }

/-- Skipped serials raised by the candidates a normalisation passed over (R40). -/
def State.countSkips (s : State) (n : Nat) : State :=
  { s with tallies := { s.tallies with skipped := raiseSaturating s.tallies.skipped n } }

end Sys2Proof.Machine
end

