-- ==== Sys2Proof/Machine/Flags.lean ====
section
/-! DEFINITION. The conditions the manual derives from the state and reads as flags: touched, the
currency test, registration that fires, the alarm level, what is in use, the binding gate. -/

namespace Sys2Proof.Machine

/-- Print states that touch a slot (R11) and are final (R7). -/
def PrintState.final : PrintState → Bool
  | .printed => true | .missed => true | .inhibited => true
  | .pending => false | .notPrinted => false | .none => false

/-- R11, for one sub-record: an impression has fired, or the form is PRINTED, MISSED or
INHIBITED. -/
def SubRecord.touches (r : SubRecord) : Bool := decide (0 < r.fired) || r.print.final

/-- R11: a slot is touched when one of its sub-records is. -/
def Slot.touched (slot : Slot) : Bool :=
  plyOrder.any fun p => match slot.subs.get p with
    | some r => r.touches
    | none => false

/-- R4: the currency test. What was prepared for slot `j` with stamp `k` is current when the slot is
held, BOUND, and has that stamp. -/
def State.current (s : State) (j : Nat) (k : Byte) : Bool :=
  match s.boundAt j with
  | some (slot, _) => decide (slot.stamp = k)
  | none => false

/-- The fields of a binding a slot carries: BOUND, or VOID having been bound (Table 1-5). -/
def Slot.binding (slot : Slot) : Option Binding :=
  match slot.disp with
  | .bound b _ => some b
  | .void b _ => some b
  | .opened => none
  | .skip => none

/-- Whether a slot is BOUND. -/
def Slot.isBound (slot : Slot) : Bool :=
  match slot.disp with
  | .bound _ _ => true
  | .void _ _ => false
  | .opened => false
  | .skip => false

/-- Whether a slot is BOUND or VOID. -/
def Slot.isNumbered (slot : Slot) : Bool := slot.binding.isSome

/-- Whether a slot is BOUND and not spoil-pending. -/
def Slot.holdsGood (slot : Slot) : Bool :=
  match slot.disp with
  | .bound _ none => true
  | .bound _ (some _) => false
  | .void _ _ => false
  | .opened => false
  | .skip => false

/-- A binding is a make-up's when it has no Cursor-before (R5). -/
def Binding.makeup (b : Binding) : Bool := b.before.isNone

/-- R67: the head fires, and the gate may open, in LOCKED and COAST. -/
def Registration.trusted : Registration → Bool
  | .locked => true | .coast => true
  | .off => false | .search => false | .lost => false

/-- R161: the alarm output is active while any capture is held or the run is HELD. -/
def State.alarm (s : State) : Bool :=
  decide (s.runState = .held) || plyOrder.any fun p => (s.ply p).capture.isSome

/-- Whether an index lies above every active head slot (R12). -/
def State.aboveHeads (s : State) (j : Nat) : Bool :=
  s.activePlies.all fun p => decide ((s.ply p).unit.headSlot < j)

/-- R44: the binding gate. -/
def State.gateOpen (s : State) : Bool :=
  decide (s.runState = .running)
  && (decide (s.cursor.map (·.state) = some .active) || (s.batch && !s.makeups.isEmpty))
  && s.activePlies.all (fun p => (s.ply p).unit.registration.trusted)
  && s.activePlies.all (fun p => !(s.ply p).head.inhibit)

/-! ## Tables, and what holds their entries in use -/

/-- The VALID entry of a block, where there is one. -/
def State.block (s : State) (i : Nat) : Option Block := (s.blocks[i]?).join

/-- The DEFINED layout of an index, where there is one. -/
def State.layout (s : State) (i : Nat) : Option Layout := (s.layouts[i]?).join

/-- The DEFINED segment of an index, where there is one. -/
def State.segment (s : State) (i : Nat) : Option Segment := (s.segments[i]?).join

/-- The layout that a segment names, where both are DEFINED. -/
def State.segmentLayout (s : State) (i : Nat) : Option Layout :=
  (s.segment i).bind fun g => s.layout g.layout

/-- R27: a block is in use through the cursor (unless EXHAUSTED), a held binding or a make-up. -/
def State.blockInUse (s : State) (i : Nat) : Bool :=
  (match s.cursor with
    | some c => decide (c.state ≠ .exhausted) && decide (c.next / Config.blockSize = i)
    | none => false)
  || s.slots.any (fun slot => match slot.binding with
    | some b => decide (b.value / Config.blockSize = i)
    | none => false)
  || s.makeups.any (fun e => decide (e.value / Config.blockSize = i))

/-- Whether a segment names a layout. -/
def State.names (s : State) (seg lay : Nat) : Bool :=
  decide ((s.segment seg).map (·.layout) = some lay)

/-- R35: a layout is in use through the segment of the cursor, of a held binding or of a make-up. -/
def State.layoutInUse (s : State) (i : Nat) : Bool :=
  (match s.cursor with
    | some c => s.names c.segment i
    | none => false)
  || s.slots.any (fun slot => match slot.binding with
    | some b => s.names b.segment i
    | none => false)
  || s.makeups.any (fun e => s.names e.segment i)

/-- R144: a segment is in use through the cursor, a held binding or a make-up. -/
def State.segmentInUse (s : State) (i : Nat) : Bool :=
  (match s.cursor with
    | some c => decide (c.segment = i)
    | none => false)
  || s.slots.any (fun slot => match slot.binding with
    | some b => decide (b.segment = i)
    | none => false)
  || s.makeups.any (fun e => decide (e.segment = i))

end Sys2Proof.Machine
end

