-- ==== Sys2Proof/Machine/Numbers.lean ====
section
/-! DEFINITION. Number generation without the cursor (Chapter 2): serials, check digits, the
composition of images, the issuability test and normalisation. -/

namespace Sys2Proof.Machine

/-! ## Serials (section 2.2) -/

/-- R28: base plus offset in an ASC block, base minus offset in a DESC block. -/
def Block.serial (blk : Block) (offset : Nat) : Int :=
  match blk.dir with
  | .asc => (blk.base : Int) + offset
  | .desc => (blk.base : Int) - offset

/-- R28: the largest serial in range, 10^W − 1. -/
def Layout.maxSerial (lay : Layout) : Nat := 10 ^ lay.width - 1

/-- R28, R29: an in-range serial is printed as it is; an out-of-range one mod 10^W, by the floor
modulus. -/
def Layout.printedSerial (lay : Layout) (serial : Int) : Nat :=
  (serial % (10 ^ lay.width : Nat)).toNat

/-! ## Check digits (section 2.3) -/

/-- The digits of a serial from the rightmost, `w` of them (section 5: leading zeros count). -/
def digitsFromRight : Nat → Nat → List Nat
  | 0, _ => []
  | w + 1, n => n % 10 :: digitsFromRight w (n / 10)

/-- The sum of digits weighted from the rightmost by the weights as they come. -/
def weightedSum (weights digits : List Nat) : Nat :=
  (List.zipWith (· * ·) weights digits).sum

/-- R31: the weights 3, 1, 3, 1, … from the right, for the 10 digits a field can have. -/
def weightsMod10 : List Nat := [3, 1, 3, 1, 3, 1, 3, 1, 3, 1]

/-- R32: the weights 2..7, beginning again at 2, from the right. -/
def weightsMod11 : List Nat := [2, 3, 4, 5, 6, 7, 2, 3, 4, 5]

/-- R31, R32, R33: the check value of a printed serial in W digits; none under method NONE. -/
def Layout.checkValue (lay : Layout) (printed : Nat) : Option Nat :=
  match lay.check with
  | .none => none
  | .mod10w31 => some ((10 - weightedSum weightsMod10 (digitsFromRight lay.width printed) % 10) % 10)
  | .mod11w _ => some ((11 - weightedSum weightsMod11 (digitsFromRight lay.width printed) % 11) % 11)
  | .mod7r => some (printed % 7)

/-- R32: the value is passed over under MOD11W with ten-rule SKIP when its check value is 10. -/
def Layout.skipsCheck (lay : Layout) (printed : Nat) : Bool :=
  match lay.check with
  | .mod11w .skip => decide (lay.checkValue printed = some 10)
  | .mod11w .x => false
  | .none => false
  | .mod10w31 => false
  | .mod7r => false

/-! ## Image composition (section 2.5) -/

/-- The code of a decimal digit. -/
def digitChar (d : Nat) : Byte := BitVec.ofNat 8 (0x30 + d)

/-- The check character: a digit, or X for 10 (R32). -/
def checkChar (v : Nat) : Byte := if v = 10 then 0x58 else digitChar v

/-- The W digits of a serial as characters, leftmost first, with leading zeros (R36). -/
def digitText (w n : Nat) : List Byte := ((digitsFromRight w n).map digitChar).reverse

/-- Each leading zero replaced by a space, except that the rightmost digit stays (R36). -/
def spaceFill : List Byte → List Byte
  | [] => []
  | [d] => [d]
  | d :: e :: ds => if d = 0x30 then 0x20 :: spaceFill (e :: ds) else d :: e :: ds

/-- The W digits of a serial under the layout's fill (R36, R37). -/
def Layout.numberText (lay : Layout) (printed : Nat) : List Byte :=
  match lay.fill with
  | .zero => digitText lay.width printed
  | .space => spaceFill (digitText lay.width printed)

/-- The separator and check character of field A, where the method is not NONE (R36). -/
def Layout.checkText (lay : Layout) (printed : Nat) : List Byte :=
  match lay.checkValue printed with
  | none => []
  | some v => lay.separator.toList ++ [checkChar v]

/-- R36: the text of field A. -/
def Layout.textA (lay : Layout) (printed : Nat) : List Byte :=
  lay.prefixText ++ lay.numberText printed ++ lay.checkText printed

/-- R37: the text of field B. -/
def Layout.textB (lay : Layout) (printed : Nat) : List Byte := lay.numberText printed

/-- R36: the length of field A. -/
def Layout.lengthA (lay : Layout) : Nat :=
  lay.prefixText.length + lay.width
    + (match lay.check with
      | .none => 0
      | .mod10w31 => lay.separator.toList.length + 1
      | .mod11w _ => lay.separator.toList.length + 1
      | .mod7r => lay.separator.toList.length + 1)

/-- R37: whether a layout gives a ply a field. -/
def Layout.givesField (lay : Layout) (p : Ply) : Bool := lay.maskA.get p || lay.maskB.get p

/-- R38: whether a field of this length is split on a head of this class. -/
def splitOn (c : HeadClass) (length : Nat) : Bool :=
  match c with
  | .narrow => decide (8 < length)
  | .wide => false

/-- R38: the selects of an image for a ply, field A before field B and each field's first part
before its second. -/
def Layout.selects (lay : Layout) (p : Ply) (c : HeadClass) : List Select :=
  (if lay.maskA.get p then
    (if splitOn c lay.lengthA then [.a1, .a2] else [.a1]) else [])
  ++ (if lay.maskB.get p then
    (if splitOn c lay.width then [.b1, .b2] else [.b1]) else [])

/-- R38: the part of a field's text that a select prints. -/
def fieldPart (text : List Byte) (split first : Bool) : List Byte :=
  if split then (if first then text.take 8 else text.drop 8) else text

/-- R36, R37, R38: the image of a slot for a ply. A field the ply does not print is empty. -/
def composeImage (lay : Layout) (p : Ply) (c : HeadClass) (slot : Nat) (stamp : Byte)
    (printed : Nat) : Image :=
  let a := if lay.maskA.get p then lay.textA printed else []
  let b := if lay.maskB.get p then lay.textB printed else []
  let splitA := lay.maskA.get p && splitOn c lay.lengthA
  let splitB := lay.maskB.get p && splitOn c lay.width
  { slot := slot, stamp := stamp, fieldA := a, fieldB := b, splitA := splitA, splitB := splitB
    impressions := (lay.selects p c).map fun sel =>
      (sel, match sel with
        | .a1 => fieldPart a splitA true
        | .a2 => fieldPart a splitA false
        | .b1 => fieldPart b splitB true
        | .b2 => fieldPart b splitB false) }

/-- R103: the verify field of a ply: field A where it is in mask A, and otherwise field B. -/
def Layout.verifyText (lay : Layout) (p : Ply) (printed : Nat) : List Byte :=
  if lay.maskA.get p then lay.textA printed else lay.textB printed

/-! ## Issuability and normalisation (R30, R40) -/

/-- What the two checks of R40 say of a candidate. -/
inductive CandidateTest
  | passes
  | moves (target : Nat)
  | blockRejected
  | checkRejected
deriving DecidableEq, Repr

/-- Check 2 of R40: the check value of the printed serial. -/
def Layout.testCheck (lay : Layout) (serial : Int) : CandidateTest :=
  if lay.skipsCheck (lay.printedSerial serial) then .checkRejected else .passes

/-- Checks 1 and 2 of R40 on one candidate. The offset base − (10^W − 1) to which a candidate of a
DESC block moves may lie beyond the block's 16 384 values; no sequence value is there, and the
candidate is rejected as it stands (assumption log 41). -/
def testCandidate (blocks : Vector (Option Block) 64) (lay : Layout) (c : Nat) : CandidateTest :=
  let offset := c % Config.blockSize
  match (blocks[c / Config.blockSize]?).join with
  | none => .blockRejected
  | some blk =>
    if blk.count ≤ offset then .blockRejected
    else
      let serial := blk.serial offset
      match lay.overflow with
      | .roll => lay.testCheck serial
      | .stop =>
        if serial < 0 then .blockRejected
        else if (lay.maxSerial : Int) < serial then
          match blk.dir with
          | .asc => .blockRejected
          | .desc =>
            if blk.base - lay.maxSerial < Config.blockSize then
              .moves (c / Config.blockSize * Config.blockSize + (blk.base - lay.maxSerial))
            else .blockRejected
        else lay.testCheck serial

/-- R30: a sequence value is issuable under a layout when both checks of R40 pass it: its block is
VALID, its offset is below the count, under STOP its serial is in range, and its check value is not
one that ten-rule SKIP passes over. -/
def issuable (blocks : Vector (Option Block) 64) (lay : Layout) (v : Nat) : Bool :=
  decide (testCandidate blocks lay v = .passes)

/-- How a normalisation ends: at an issuable value, or EXHAUSTED with its resume value (R41), each
with the number of candidates passed over for their check. -/
inductive Normalised
  | found (value skips : Nat)
  | exhausted (resume skips : Nat)
deriving DecidableEq, Repr

/-- R40: the two checks repeated from a candidate. `first` is the first candidate rejected for its
block, the resume value of R41. Every repetition raises the candidate, so fuel for each candidate up
to 1 048 576 is enough. -/
def normaliseFrom (blocks : Vector (Option Block) 64) (lay : Layout) :
    Nat → Nat → Option Nat → Nat → Normalised
  | 0, c, first, skips => .exhausted (first.getD c) skips
  | fuel + 1, c, first, skips =>
    match testCandidate blocks lay c with
    | .passes => .found c skips
    | .moves target => normaliseFrom blocks lay fuel target first skips
    | .checkRejected => normaliseFrom blocks lay fuel (c + 1) first (skips + 1)
    | .blockRejected =>
      if 63 ≤ c / Config.blockSize then .exhausted (first.getD c) skips
      else normaliseFrom blocks lay fuel ((c / Config.blockSize + 1) * Config.blockSize)
        (some (first.getD c)) skips

/-- R40, R42: normalisation from a candidate under a layout. Under an EMPTY layout no candidate
passes, and the candidate is the resume value. -/
def normalise (blocks : Vector (Option Block) 64) (lay : Option Layout) (c : Nat) : Normalised :=
  match lay with
  | none => .exhausted c 0
  | some lay => normaliseFrom blocks lay (Config.sequenceEnd + 1 - c) c none 0

/-- The printed serial a sequence value carries under a layout, where its block gives one
(R28, R29). -/
def serialUnder (blocks : Vector (Option Block) 64) (lay : Layout) (v : Nat) : Option Nat :=
  ((blocks[v / Config.blockSize]?).join).map fun blk =>
    lay.printedSerial (blk.serial (v % Config.blockSize))

/-- The printed serial a sequence value carries in a segment (R46, R47, R138). -/
def State.serialIn (s : State) (seg v : Nat) : Option Nat :=
  (s.segmentLayout seg).bind fun lay => serialUnder s.blocks lay v

end Sys2Proof.Machine
end

