-- ==== Sys2Proof/Machine/Schedule.lean ====
section
/-! DEFINITION. The Set Schedule (Chapter 1): creation, the changes of disposition with what each
leaves in the sub-records, retirement, the lead-in. -/

namespace Sys2Proof.Machine

/-! ## Creation (section 1.6) -/

/-- Table 1-8, the sub-record of an active ply in a created slot. -/
def freshSub (record : PlyRecord) : SubRecord where
  print := .pending
  fired := 0
  error := none
  misplaced := false
  verify := if record.readerDistance = 0 then .absent else .notDue
  splice := false
  second := none

/-- Table 1-8: a created slot, with a sub-record for each active ply. -/
def State.freshSlot (s : State) : Slot where
  disp := .opened
  stamp := 0
  subs := s.plies.map fun _ ps => if ps.record.active then some (freshSub ps.record) else none

/-- R16: there is room to create slots up to `j` when the window would not pass 128 slots and the
top would not pass the largest set index. In IDLE no creation is taken (R24). -/
def State.hasRoom (s : State) (j : Nat) : Bool :=
  s.inRun && decide (j ≤ Config.maxSetIndex) && decide (j + 1 ≤ s.marriageSlot + Config.windowCapacity)

/-- R16: a creation for set index `j` creates the slots from the one above the top up to `j`, where
there is room; for an index within or below the window it creates nothing. -/
def State.create (s : State) (j : Nat) : State :=
  if s.hasRoom j then
    { s with slots := s.slots ++ List.replicate (j + 1 - s.windowEnd) s.freshSlot }
  else s

/-! ## The staging need (section 1.6.1) -/

/-- The slot an entry is for. -/
def Entry.slot : Entry → Nat
  | .blank j => j
  | .image img _ => img.slot

/-- Section 2.8: a ply's next needed slot: one above its last staging entry, or its head slot when
the queue is empty. -/
def PlyState.nextNeeded (ps : PlyState) : Nat :=
  match ps.head.queue.getLast? with
  | some e => e.slot + 1
  | none => ps.unit.headSlot

/-- R48: the Head Controller of an active ply acts on its next needed slot during a run, while its
queue has room and the render unit is not serving it. -/
def State.stages (s : State) (p : Ply) : Bool :=
  s.inRun && s.active p && decide ((s.ply p).head.queue.length < Config.stagingDepth)
    && decide (s.render.map (·.ply) ≠ some p)

/-- R17: a Head Controller asks for its next needed slot: where that slot is NOT-CREATED it is
created if there is room, and otherwise the need waits, which is no change. -/
def State.askSlot (s : State) (p : Ply) : State :=
  if s.stages p && decide (s.lookup (s.ply p).nextNeeded = .notCreated) then
    s.create (s.ply p).nextNeeded
  else s

/-- R17: a staging need waits: the next needed slot is NOT-CREATED and there is no room for it
(assumption log 42). -/
def State.needWaits (s : State) (p : Ply) : Bool :=
  s.stages p && decide (s.lookup (s.ply p).nextNeeded = .notCreated)
    && !s.hasRoom (s.ply p).nextNeeded

/-! ## Changes of disposition (R10) -/

/-- R10: PENDING and NONE become NOT-PRINTED when a slot becomes SKIP. -/
def PrintState.atSkip : PrintState → PrintState
  | .pending => .notPrinted | .none => .notPrinted
  | .printed => .printed | .missed => .missed | .inhibited => .inhibited
  | .notPrinted => .notPrinted

/-- R10: NONE returns to PENDING when a slot becomes OPEN. -/
def PrintState.atOpen : PrintState → PrintState
  | .none => .pending
  | .pending => .pending | .printed => .printed | .missed => .missed | .inhibited => .inhibited
  | .notPrinted => .notPrinted

/-- R10: PENDING becomes NOT-PRINTED when a slot becomes VOID; NONE stays NONE. (R108 says of the
same change that NONE becomes NOT-PRINTED; the model follows R10, whose changes these are by section
4.7: DEDUCED, log 45.) -/
def PrintState.atVoid : PrintState → PrintState
  | .pending => .notPrinted
  | .none => .none | .printed => .printed | .missed => .missed | .inhibited => .inhibited
  | .notPrinted => .notPrinted

/-- A slot becomes SKIP: the fields of its binding and any Spoil-pending go (R3, R6), the stamp
stays (R4). -/
def Slot.makeSkip (slot : Slot) : Slot :=
  { slot.mapPrint PrintState.atSkip with disp := .skip }

/-- A BOUND slot becomes OPEN again (R3, R6, R10). -/
def Slot.makeOpen (slot : Slot) : Slot :=
  { slot.mapPrint PrintState.atOpen with disp := .opened }

/-- A BOUND slot becomes VOID: it keeps the fields of its binding (R3) and loses any Spoil-pending
(R6). A slot that is not BOUND is left as it is. -/
def Slot.makeVoid (slot : Slot) (r : VoidReason) : Slot :=
  match slot.disp with
  | .bound b _ => { slot.mapPrint PrintState.atVoid with disp := .void b r }
  | .opened => slot
  | .skip => slot
  | .void _ _ => slot

/-- A slot is bound: the stamp is raised by one, 255 becoming 0 (R4), and the sub-records of plies
that the layout gives no field become NONE (R10). -/
def Slot.bind (slot : Slot) (b : Binding) (lay : Layout) : Slot where
  disp := .bound b none
  stamp := slot.stamp + 1
  subs := slot.subs.map fun p o => o.map fun r =>
    if lay.givesField p then r else { r with print := .none }

/-- R13: a slot that a boundary, a splice or a marriage reaches while it is OPEN becomes SKIP. -/
def Slot.skipIfOpen (slot : Slot) : Slot :=
  match slot.disp with
  | .opened => slot.makeSkip
  | .bound _ _ => slot
  | .skip => slot
  | .void _ _ => slot

/-! ## Retirement (section 1.7) -/

/-- R22: the slot at the marriage slot leaves the table, and the marriage slot becomes one higher. -/
def State.dropSlot (s : State) : State :=
  { s with marriageSlot := s.marriageSlot + 1, slots := s.slots.drop 1 }

/-- R22: a retirement: the slot leaves the table, and the Head Controllers whose staging need was
waiting ask again (R17), in the order P0..P5 (assumption log 42). -/
def State.retireSlot (s : State) : State :=
  (plyOrder.filter s.needWaits).foldl State.askSlot s.dropSlot

/-! ## The lead-in (section 1.8) -/

/-- R23: the sub-record of a ply in lead-in slot `j`. The forms between the head and the reader at
the start are AWAIT. -/
def leadInSub (record : PlyRecord) (j : Nat) : SubRecord where
  print := .notPrinted
  fired := 0
  error := none
  misplaced := false
  verify :=
    if record.readerDistance = 0 then .absent
    else if record.pathLength + 1 ≤ j + record.readerDistance ∧ j + 1 ≤ record.pathLength then .await
    else .notDue
  splice := false
  second := none

/-- R23: lead-in slot `j`. -/
def State.leadInSlot (s : State) (j : Nat) : Slot where
  disp := .skip
  stamp := 0
  subs := s.plies.map fun _ ps => if ps.record.active then some (leadInSub ps.record j) else none

/-- The largest path length of an active ply, Dmax (Table 1-2). -/
def State.dmax (s : State) : Nat :=
  (s.activePlies.map fun p => (s.ply p).record.pathLength).foldl max 0

/-- R23: the lead-in, slots 0..Dmax as SKIP, built into an empty table. -/
def State.buildLeadIn (s : State) : State :=
  { s with marriageSlot := 0, slots := (List.range (s.dmax + 1)).map s.leadInSlot }

end Sys2Proof.Machine
end

