-- ==== Sys2Proof/Machine/Recovery.lean ====
section
/-! DEFINITION. The Recovery Logic (Chapter 7): the make-up list, the rewind and its bookkeeping,
spoils under the two policies, splices, the abort's bookkeeping. -/

namespace Sys2Proof.Machine

/-! ## The make-up list (section 7.6) -/

/-- How a join turned out (R125, R135). -/
inductive JoinResult | joined | duplicate | full
deriving DecidableEq, Repr

/-- An entry placed among the others in ascending order of sequence value (R135). -/
def insertEntry (e : MakeupEntry) : List MakeupEntry → List MakeupEntry
  | [] => [e]
  | x :: xs => if e.value < x.value then e :: x :: xs else x :: insertEntry e xs

/-- Whether the list holds an entry with a sequence value, whatever its segment (R135). -/
def State.listed (s : State) (v : Nat) : Bool := s.makeups.any fun e => decide (e.value = v)

/-- R136: what follows a join, by the number of entries the list then holds. With 128 or more and
the batch flag clear the cause MAKEUPS is given; a join that brings the list to 128 sends
MAKEUP-HIGH. The notice carries the batch flag as it stood before the join: where the third case of R137
then sets it, it is sent as clear (DEDUCED, unsafe, log 47). -/
def State.afterJoin (s : State) : State :=
  let n := s.makeups.length
  let s1 := if decide (Config.makeupHigh ≤ n) && !s.batch then s.giveCause .makeups else s
  if n = Config.makeupHigh then s1.notify (.makeupHigh n s1.batch) else s1

/-- R137, third case: with the option AUTO and the cursor CHAIN-END, a value that joins while the
batch flag is clear sets it, in whatever run state (assumption log 14). -/
def State.batchAtJoin (s : State) : State :=
  if decide (s.endMakeups = some .auto) && decide (s.cursor.map (·.state) = some .chainEnd) then
    { s with batch := true }
  else s

/-- R135: a value joins the list, unless an entry already holds its sequence value or the list
holds 256 entries. -/
def State.joinMakeup (s : State) (e : MakeupEntry) : JoinResult × State :=
  if s.listed e.value then (.duplicate, s)
  else if Config.makeupCapacity ≤ s.makeups.length then (.full, s)
  else (.joined, ({ s with makeups := insertEntry e s.makeups }.afterJoin).batchAtJoin)

/-- The action a SPOIL notice reports for a join (R125). -/
def JoinResult.action : JoinResult → SpoilAction
  | .joined => .listed
  | .duplicate => .duplicate
  | .full => .listFull

/-! ## Bookkeeping of a rewind and of an abort (R130, R131, R141) -/

/-- A slot taken out of BOUND, or an initiating slot, as it stood: its binding and whether it was
spoil-pending. -/
structure Undone where
  binding : Binding
  spoilPending : Bool
deriving DecidableEq, Repr

/-- R130: the values recalled, each with its segment: those that are not make-ups. -/
def recalledValues (us : List Undone) : List (Nat × Nat) :=
  us.filterMap fun u =>
    if u.binding.makeup then none else some (u.binding.value, u.binding.segment)

/-- R130 step 2: the make-ups that give their value back: not those spoil-pending, and not those
whose value and segment are recalled. -/
def givenBack (us : List Undone) : List MakeupEntry :=
  us.filterMap fun u =>
    if u.binding.makeup && !u.spoilPending
        && !(recalledValues us).contains (u.binding.value, u.binding.segment) then
      some ⟨u.binding.value, u.binding.segment, u.binding.pass, none⟩
    else none

/-- The entries given back join one after another, that of the initiating slot first and the others
in set-index order (assumption log 46); the numbers returned and not added are counted. -/
def State.joinAll : List MakeupEntry → State → Nat × Nat × State
  | [], s => (0, 0, s)
  | e :: es, s =>
    match s.joinMakeup e with
    | (.joined, s1) => let (r, n, s2) := State.joinAll es s1; (r + 1, n, s2)
    | (.duplicate, s1) => let (r, n, s2) := State.joinAll es s1; (r, n + 1, s2)
    | (.full, s1) => let (r, n, s2) := State.joinAll es s1; (r, n + 1, s2)

/-- R130 step 1, R137: the entries whose value and segment are recalled are removed, and the batch
flag is cleared when that leaves the list empty. -/
def State.removeRecalled (s : State) (us : List Undone) : State :=
  let kept := s.makeups.filter fun e => !(recalledValues us).contains (e.value, e.segment)
  { s with makeups := kept, batch := s.batch && !kept.isEmpty }

/-- R131: the cursor put back to a Cursor-before. It becomes ACTIVE, except that a CLOSED cursor
stays CLOSED. -/
def State.restoreCursor (s : State) (cb : CursorBefore) : State :=
  { s with cursor := s.cursor.map fun c =>
    { state := if c.state = .closed then .closed else .active
      segment := cb.segment, pass := cb.pass, next := cb.next, issued := cb.issued } }

/-- R131: the restore point: the first of the slots undone whose Make-up is no, the initiating slot
standing first and the others in set-index order. -/
def restorePoint (us : List Undone) : Option CursorBefore :=
  us.findSome? fun u => u.binding.before

/-- R130, R131: the list corrected and then the cursor restored (an order that shows in the batch
flag alone, assumption log 47), with what was returned, not added and removed. -/
def State.bookkeeping (s : State) (us : List Undone) : State × Nat × Nat × Nat :=
  let s1 := s.removeRecalled us
  let (returned, notAdded, s2) := State.joinAll (givenBack us) s1
  let s3 := match restorePoint us with
    | some cb => s2.restoreCursor cb
    | none => s2
  (s3, returned, notAdded, s.makeups.length - s1.makeups.length)

/-! ## The rewind (section 7.4) -/

/-- R129: what a rewind makes of a BOUND slot. -/
def Slot.rewound (slot : Slot) (aboveHeads : Bool) : Slot :=
  if slot.isBound then
    if slot.touched then slot.makeVoid .collateral
    else if aboveHeads then slot.makeOpen
    else slot.makeSkip
  else slot

/-- The slots of the window with their set indexes. -/
def State.indexed (s : State) : List (Slot × Nat) := s.slots.zipIdx s.marriageSlot

/-- The BOUND slots at or above an index, with their set indexes. -/
def State.boundFrom (s : State) (u : Nat) : List (Slot × Nat) :=
  s.indexed.filter fun x => decide (u ≤ x.2) && x.1.isBound

/-- A BOUND slot as the bookkeeping reads it. -/
def Slot.undone (slot : Slot) : Option Undone :=
  match slot.disp with
  | .bound b m => some ⟨b, m.isSome⟩
  | .opened => none
  | .skip => none
  | .void _ _ => none

/-- R74, R80: a Head Controller flushed from `u`: the entries for `u` and above go, and a LOADED
image that is no longer current is given up. -/
def State.testLoaded (s : State) (h : HeadController) : HeadController :=
  match h.load with
  | .loaded img => if s.current img.slot img.stamp then h else { h with load := .empty }
  | .loading _ => h
  | .empty => h

/-- R74: the entries for slot `u` or above removed. -/
def HeadController.dropFrom (h : HeadController) (u : Nat) : HeadController :=
  { h with queue := h.queue.filter fun e => decide (e.slot < u) }

/-- R132: every active ply's queue is flushed from `u` and its loaded image tested. -/
def State.flush (s : State) (u : Nat) : State :=
  { s with plies := s.plies.map fun _ ps =>
    if ps.record.active then { ps with head := s.testLoaded (ps.head.dropFrom u) } else ps }

/-- R80, R141: every active ply tests its loaded image. -/
def State.testAllLoaded (s : State) : State :=
  { s with plies := s.plies.map fun _ ps =>
    if ps.record.active then { ps with head := s.testLoaded ps.head } else ps }

/-- R129: every BOUND slot at or above `u` changed as its forms have undergone. -/
def State.rewindSlots (s : State) (u : Nat) : State :=
  { s with slots := s.slots.mapIdx fun i slot =>
    if u ≤ s.marriageSlot + i then slot.rewound (s.aboveHeads (s.marriageSlot + i)) else slot }

/-- Section 7.4: a rewind from slot `u`, with its initiating slot as it stood where there is one.
The slots are changed (R129), the list and cursor corrected (R130, R131), the queues flushed
(R132). -/
def State.rewind (s : State) (u : Nat) (init : Option Undone) : State × RewindCounts :=
  let taken := s.boundFrom u
  let us := init.toList ++ taken.filterMap fun x => x.1.undone
  let (s1, returned, notAdded, removed) := (s.rewindSlots u).bookkeeping us
  (s1.flush u,
    { voided := (taken.filter fun x => x.1.touched).length
      skipped := (taken.filter fun x => !x.1.touched && !s.aboveHeads x.2).length
      opened := (taken.filter fun x => !x.1.touched && s.aboveHeads x.2).length
      returned := returned, notAdded := notAdded, removed := removed })

/-! ## Spoils (sections 7.2 and 7.3) -/

/-- R9: the reason of a later spoil is kept in the sub-record of its ply. -/
def State.secondReason (s : State) (j : Nat) (mark : SpoilMark) : State :=
  s.modSub j mark.ply fun r => { r with second := some mark.reason }

/-- R6: Spoil-pending written in a BOUND slot. -/
def Slot.setSpoilPending (slot : Slot) (mark : SpoilMark) : Slot :=
  match slot.disp with
  | .bound b _ => { slot with disp := .bound b (some mark) }
  | .opened => slot
  | .skip => slot
  | .void _ _ => slot

/-- R126: a decided spoil of slot `j` under ROLLBACK: the slot is voided, a rewind is made from the
slot above it, Rollbacks is raised, and SPOIL and ROLLBACK are sent. What the values given back
by the rewind send as they join the list, RUN-STATE and MAKEUP-HIGH, comes before that SPOIL (DEDUCED,
unsafe, log 13). -/
def State.rollbackSpoil (s : State) (j : Nat) (mark : SpoilMark) (b : Binding) : State :=
  let s1 := s.modSlot j fun slot => slot.makeVoid (.spoil mark)
  let (s2, counts) := s1.rewind (j + 1) (some ⟨b, false⟩)
  let s3 := { s2 with
    tallies := { s2.tallies with rollbacks := raiseSaturating s2.tallies.rollbacks 1 } }
  (s3.notify (.spoil j mark b .voided)).notify (.rollback j mark counts s3.cursor)

/-- R127, R128: a decided spoil under DEFER, or of a make-up slot: the slot becomes spoil-pending
and its value joins the list, with the slot as origin where it is not a make-up. What the join sends comes
before the SPOIL that reports it (DEDUCED, unsafe, log 13). -/
def State.deferSpoil (s : State) (j : Nat) (mark : SpoilMark) (b : Binding) : State :=
  let s1 := s.modSlot j fun slot => slot.setSpoilPending mark
  let (result, s2) := s1.joinMakeup
    ⟨b.value, b.segment, b.pass, if b.makeup then none else some j⟩
  s2.notify (.spoil j mark b result.action)

/-- R124: a spoil is taken according to the slot as the Schedule answers for it. -/
def State.takeSpoil (s : State) (j : Nat) (mark : SpoilMark) : State :=
  match s.slotAt j with
  | none => s
  | some slot =>
    match slot.disp with
    | .opened => s
    | .skip => s
    | .void _ _ => s.secondReason j mark
    | .bound _ (some _) => s.secondReason j mark
    | .bound b none =>
      if !b.makeup && decide (s.policy = some .rollback) then s.rollbackSpoil j mark b
      else s.deferSpoil j mark b

/-- Spoils taken one after another (R114). -/
def State.takeSpoils (s : State) (j : Nat) (marks : List SpoilMark) : State :=
  marks.foldl (fun s m => s.takeSpoil j m) s

/-! ## Splices (section 7.5) -/

/-- R133: the Splice flag of a ply's sub-record. -/
def State.setSplice (s : State) (j : Nat) (p : Ply) : State :=
  s.modSub j p fun r => { r with splice := true }

/-- R134: a splice skip of an untouched BOUND target. What the values given back by the rewind send as
they join the list, RUN-STATE and MAKEUP-HIGH, comes before SKIP-INSERT (DEDUCED, unsafe, log 13). -/
def State.spliceSkip (s : State) (p : Ply) (j : Nat) (slot : Slot) (b : Binding) : State :=
  let s1 := s.modSlot j Slot.makeSkip
  let (s2, counts) := s1.rewind (j + 1) slot.undone
  s2.notify (.skipInsert p j (some (b, counts, s2.cursor)))

/-- R133: the Recovery Logic takes a splice according to its target. -/
def State.takeSplice (s : State) (p : Ply) (j : Nat) : State :=
  match s.slotAt j with
  | none => s
  | some slot =>
    let s1 := s.setSplice j p
    match slot.disp with
    | .opened => (s1.modSlot j Slot.makeSkip).notify (.skipInsert p j none)
    | .skip => s1
    | .void _ _ => s1
    | .bound b _ =>
      if slot.touched then s1.takeSpoil j ⟨.splice, p⟩
      else s1.spliceSkip p j slot b

/-! ## Abort (section 7.7) -/

/-- R141: every BOUND slot becomes VOID with reason ABORT, with the bookkeeping of a rewind and no
initiating slot; each head tests its loaded image. The number of slots voided goes with it. -/
def State.voidAll (s : State) : State × Nat :=
  let us := s.slots.filterMap Slot.undone
  let s1 := { s with slots := s.slots.map fun slot : Slot => slot.makeVoid .abort }
  let (s2, _, _, _) := s1.bookkeeping us
  (s2.testAllLoaded, us.length)

/-! ## The force-retire (R19) -/

/-- R19: the slot at the marriage slot is retired in whatever disposition it has; ALIGNMENT is
raised on the ply; Retired and Void are raised; and the value of a BOUND slot that is not
spoil-pending is taken into the make-up list with no origin slot. -/
def State.forceRetire (s : State) (p : Ply) : State :=
  match s.slots with
  | [] => s
  | slot :: _ =>
    let s1 := s.retireSlot.raiseFault p
      { kind := .alignment, index := s.marriageSlot, position := (s.ply p).unit.position
        cause := none, retired := some (slot.disp, slot.touched) }
    let s2 := { s1 with tallies := s1.tallies.retireVoid }
    match slot.disp with
    | .bound b none => (s2.joinMakeup ⟨b.value, b.segment, b.pass, none⟩).2
    | .bound _ (some _) => s2
    | .opened => s2
    | .skip => s2
    | .void _ _ => s2

end Sys2Proof.Machine
end

