-- ==== Sys2Proof/Machine/Run.lean ====
section
/-! DEFINITION. The end of a run (R121, R157): the completion tests, RUN-END and the teardown to
IDLE; and what leaves the set of hold causes (R151). -/

namespace Sys2Proof.Machine

/-- A ply at the teardown to IDLE: the Position Unit keeps its head slot (R56), the Head Controller
its inhibit (R72), the checker its expected number (R98), the fault capture stays (R158), and the
run values are no longer in force (R54). -/
def PlyState.teardown (ps : PlyState) : PlyState where
  record := ps.record
  run := none
  unit := { PositionUnit.initial with headSlot := ps.unit.headSlot }
  head := { HeadController.initial with inhibit := ps.head.inhibit }
  checker := { ps.checker with synced := false }
  capture := ps.capture

/-- R157: the teardown to IDLE. -/
def State.teardown (s : State) : State :=
  { s with
    runState := .idle
    causes := HoldCauses.empty
    drain := none
    marriageSlot := 0
    slots := []
    batch := false
    render := none
    plies := s.plies.map fun _ ps => ps.teardown
    marker := false }

/-- R157: the run ends: RUN-END is sent, the teardown is performed, and RUN-STATE follows. -/
def State.finishRun (s : State) (way : RunEnd) : State :=
  (s.notify (.runEnd way s.tallies s.cursor s.batch s.makeups.length)).teardown.notifyRunState

/-- R121: the run is complete: RUNNING, the cursor CHAIN-END, the batch flag clear, and no slot of
the window BOUND. -/
def State.complete (s : State) : Bool :=
  decide (s.runState = .running) && decide (s.cursor.map (·.state) = some .chainEnd) && !s.batch
    && !s.slots.any Slot.isBound

/-- R121: draining has ended: no slot of the window is BOUND or VOID. -/
def State.drained (s : State) : Bool :=
  decide (s.runState = .draining) && !s.slots.any Slot.isNumbered

/-- R121: the two tests, made at a marriage, at END-RUN and ABORT-RUN, and at the return to
RUNNING. -/
def State.testEnd (s : State) : State :=
  if s.complete then s.finishRun .complete
  else if s.drained then s.finishRun .drained
  else s

/-- R151: the run, HELD with its last cause gone, becomes RUNNING; the notice is sent and the
completion test made at once. -/
def State.resume (s : State) : State :=
  { s with causes := HoldCauses.empty, runState := .running }.notifyRunState.testEnd

end Sys2Proof.Machine
end

