-- ==== Sys2Proof/Machine/Cursor.lean ====
section
/-! DEFINITION. The bind cursor: segment entry, the chain step, binding from the cursor and from the
make-up list (sections 2.6, 2.7 and 8.2). -/

namespace Sys2Proof.Machine

/-! ## The checks of R55 on layouts -/

/-- Check 5 of R55: the phases of a layout lie below C. -/
def Layout.phasesFit (lay : Layout) (c : Nat) : Bool :=
  decide (lay.phaseA < c) && (match lay.phaseB with
    | some b => decide (b < c)
    | none => true)

/-- Check 6 of R55: on a NARROW head, a split field's phase plus S lies below C. -/
def Layout.splitsFit (lay : Layout) (p : Ply) (record : PlyRecord) (c : Nat) : Bool :=
  (!(lay.maskA.get p && splitOn record.headClass lay.lengthA)
    || decide (lay.phaseA + record.splitPitch < c))
  && (!(lay.maskB.get p && splitOn record.headClass lay.width)
    || (match lay.phaseB with
      | some b => decide (b + record.splitPitch < c)
      | none => true))

/-- Checks 5 and 6 of R55 for every active ply under the run's cutoff (R146). -/
def State.layoutFits (s : State) (lay : Layout) : Bool :=
  s.activePlies.all fun p => lay.phasesFit s.cutoff && lay.splitsFit p (s.ply p).record s.cutoff

/-! ## Segment entry -/

/-- R41: the cursor has become EXHAUSTED at a resume value: the cause SEQUENCE is given and
EXHAUSTED sent. -/
def State.reportExhausted (s : State) (resume : Nat) : State :=
  (s.giveCause .sequence).notify (.exhausted resume)

/-- R40, R41: the cursor moved by a normalisation: ACTIVE at the value found, or EXHAUSTED with its
resume value, which is reported. The skips taken are counted. -/
def State.settleCursor (s : State) (c : Cursor) (n : Normalised) : State :=
  match n with
  | .found v k => { s.countSkips k with cursor := some { c with state := .active, next := v } }
  | .exhausted r k =>
    { s.countSkips k with cursor := some { c with state := .exhausted, next := r } }.reportExhausted r

/-- R42: the start candidate of a segment: an explicit value, or the cursor's next value. -/
def Segment.candidate (g : Segment) (next : Nat) : Nat := g.start.getD next

/-- R42: segment entry with a pass number. -/
def State.enterSegment (s : State) (c : Cursor) (i : Nat) (g : Segment) (pass : Nat) : State :=
  s.settleCursor { c with segment := i, pass := pass, issued := 0 }
    (normalise s.blocks (s.layout g.layout) (g.candidate c.next))

/-! ## The chain step (R146) -/

/-- How steps 2 to 4 of R146 are decided. -/
inductive ChainDecision
  | chainEnd
  | blocked (segment : Nat) (cause : PauseCause)
  | enter (index : Nat) (segment : Segment)
deriving DecidableEq, Repr

/-- R146: what stands beyond the segment just finished: the end of the chain, a segment that may not
be entered, or a segment to enter. -/
def State.chainDecision (s : State) (c : Cursor) (g : Segment) : ChainDecision :=
  match g.next with
  | none => .chainEnd
  | some i =>
    if c.pass = Config.maxPass then .chainEnd
    else match s.segment i with
      | none => .blocked i .segmentEmpty
      | some g' =>
        match s.layout g'.layout with
        | none => .enter i g'
        | some lay => if s.layoutFits lay then .enter i g' else .blocked i .layoutUnfit

/-- R146 step 2: the cursor becomes CHAIN-END; under AUTO with a make-up owed the batch flag is set
(R137). -/
def State.endChain (s : State) (c : Cursor) : State :=
  { s with
    cursor := some { c with state := .chainEnd }
    batch := s.batch || (decide (s.endMakeups = some .auto) && !s.makeups.isEmpty) }

/-- R146: the cursor becomes PAUSED and SEGMENT-PAUSE is sent. -/
def State.pauseChain (s : State) (c : Cursor) (g : Segment) (cause : PauseCause) : State :=
  { s with cursor := some { c with state := .paused } }.notify
    (.segmentPause c.segment c.pass g.next cause)

/-- R146: the chain step, taken in the change that completes the pass. -/
def State.chainStep (s : State) (c : Cursor) (g : Segment) : State :=
  match g.endAction with
  | .pause => s.pauseChain c g .endAction
  | .carryOn =>
    match s.chainDecision c g with
    | .chainEnd => s.endChain c
    | .blocked _ cause => s.pauseChain c g cause
    | .enter i g' => s.enterSegment c i g' (c.pass + 1)

/-! ## Binding (section 2.7) -/

/-- R43: a binding from the cursor advances it, with the chain step where the pass is complete. -/
def State.advanceCursor (s : State) (c : Cursor) : State :=
  let c1 := { c with next := c.next + 1, issued := c.issued + 1 }
  match s.segment c.segment with
  | none => { s with cursor := some c1 }
  | some g =>
    if c1.issued < g.quantity then
      s.settleCursor c1 (normalise s.blocks (s.layout g.layout) c1.next)
    else { s with cursor := some c1 }.chainStep c1 g

/-- R46: slot `j` is bound from the ACTIVE cursor, with all the fields of a binding; an entry of the
make-up list with its value in its segment is removed (R135); the cursor advances (R43). -/
def State.bindFromCursor (s : State) (j : Nat) (c : Cursor) (lay : Layout) (serial : Nat) : State :=
  let b : Binding :=
    { value := c.next, serial := serial, segment := c.segment, pass := c.pass
      before := some ⟨c.segment, c.pass, c.next, c.issued⟩ }
  let s1 := s.modSlot j fun slot => slot.bind b lay
  let s2 := { s1 with
    makeups := s1.makeups.filter fun e =>
      !(decide (e.value = c.next) && decide (e.segment = c.segment)) }
  s2.advanceCursor c

/-- R47: slot `j` is bound with the lowest entry of the make-up list, which leaves the list; the
batch flag is cleared when that empties it (R137). -/
def State.bindMakeup (s : State) (j : Nat) (e : MakeupEntry) (rest : List MakeupEntry)
    (lay : Layout) (serial : Nat) : State :=
  let b : Binding :=
    { value := e.value, serial := serial, segment := e.segment, pass := e.pass, before := none }
  { s.modSlot j (fun slot => slot.bind b lay) with
    makeups := rest, batch := s.batch && !rest.isEmpty }

/-- R45: the grant of an OPEN slot binds it: from the make-up list while the batch flag is set, and
otherwise from the cursor. -/
def State.bindSlot (s : State) (j : Nat) : State :=
  match s.batch, s.makeups with
  | true, e :: rest =>
    match s.segmentLayout e.segment, s.serialIn e.segment e.value with
    | some lay, some serial => s.bindMakeup j e rest lay serial
    | _, _ => s
  | _, _ =>
    match s.cursor with
    | none => s
    | some c =>
      match c.state with
      | .active =>
        match s.segmentLayout c.segment, s.serialIn c.segment c.next with
        | some lay, some serial => s.bindFromCursor j c lay serial
        | _, _ => s
      | .paused => s
      | .chainEnd => s
      | .exhausted => s
      | .closed => s

end Sys2Proof.Machine
end

