-- ==== Sys2Proof/Machine/Heads.lean ====
section
/-! DEFINITION. The Head Controllers (Chapter 4): the impression plan, what an impression does when
it falls due, firing, the guard, snaps, the boundary's work, and the load exchange. -/

namespace Sys2Proof.Machine

/-! ## Loading the head (section 4.3) -/

/-- R80: a LOADED image for a slot is given up; an image in LOADING is left in flight. -/
def HeadController.giveUp (h : HeadController) (j : Nat) : HeadController :=
  match h.load with
  | .loaded img => if img.slot = j then { h with load := .empty } else h
  | .loading _ => h
  | .empty => h

/-- R77, R78: whether an impression of the current form has fallen due. -/
def HeadController.fallenDue (h : HeadController) : Bool :=
  h.plan.any fun i => decide (i.state ≠ .waiting)

/-- The staging front (R73): the lowest IMAGE entry whose load mark is WAITING. -/
def stagingFront : List Entry → Option Image
  | [] => none
  | .blank _ :: es => stagingFront es
  | .image _ true :: es => stagingFront es
  | .image img false :: _ => some img

/-- The staging front's entry replaced (R75, R77). -/
def replaceFront (e : Entry) : List Entry → List Entry
  | [] => []
  | .blank j :: es => .blank j :: replaceFront e es
  | .image img true :: es => .image img true :: replaceFront e es
  | .image _ false :: es => e :: es

/-- R76: what a LOAD carries. -/
def Image.loadMessage (img : Image) : LoadMessage where
  stamp := img.stamp
  slotLow := BitVec.ofNat 8 img.slot
  fieldA := img.fieldA
  fieldB := img.fieldB
  splitA := img.splitA
  splitB := img.splitB

/-- R77: whether a current front may be loaded: its slot lies above the head slot, or is the head
slot and no impression of the current form has fallen due. -/
def PlyState.loadable (ps : PlyState) (img : Image) : Bool :=
  decide (ps.unit.headSlot < img.slot)
  || (decide (img.slot = ps.unit.headSlot) && !ps.head.fallenDue)

/-- R77: the front is taken: its entry is marked TAKEN, the load state becomes LOADING with the
image, and LOAD is sent; the timer runs with LOADING. -/
def State.takeFront (s : State) (p : Ply) (img : Image) : State :=
  (s.modHead p fun h =>
    { h with queue := replaceFront (.image img true) h.queue, load := .loading img }).emit
    (.load p img.loadMessage)

/-- What R75 and R77 do with the staging front. -/
inductive FrontAction
  | take
  | passOver
  | turnBlank
  | drop
deriving DecidableEq, Repr

/-- R75, R77: a stale front is turned BLANK or dropped with every entry above it by what its slot
has become; a current one is taken where it is loadable, and otherwise marked TAKEN unsent. -/
def State.frontAction (s : State) (p : Ply) (img : Image) : FrontAction :=
  match s.lookup img.slot with
  | .retired => .turnBlank
  | .notCreated => .drop
  | .held slot =>
    match slot.disp with
    | .skip => .turnBlank
    | .void _ _ => .turnBlank
    | .opened => .drop
    | .bound _ _ =>
      if slot.stamp = img.stamp then
        (if (s.ply p).loadable img then .take else .passOver)
      else .drop

/-- R77: fronts are considered one after another until one is taken or none is left. A queue holds
at most 4 entries, so fuel for each of them is enough. -/
def State.considerLoad : Nat → Ply → State → State
  | 0, _, s => s
  | fuel + 1, p, s =>
    match stagingFront (s.ply p).head.queue with
    | none => s
    | some img =>
      match s.frontAction p img with
      | .take => s.takeFront p img
      | .passOver =>
        State.considerLoad fuel p
          (s.modHead p fun h => { h with queue := replaceFront (.image img true) h.queue })
      | .turnBlank =>
        State.considerLoad fuel p
          (s.modHead p fun h => { h with queue := replaceFront (.blank img.slot) h.queue })
      | .drop => State.considerLoad fuel p (s.modHead p fun h => h.dropFrom img.slot)

/-- R77: the head is free: EMPTY, not inhibited, in a run, on an active ply. -/
def State.headFree (s : State) (p : Ply) : Bool :=
  s.inRun && s.active p && decide ((s.ply p).head.load = .empty) && !(s.ply p).head.inhibit

/-- R77: a load start. -/
def State.loadStart (s : State) (p : Ply) : State :=
  if s.headFree p then State.considerLoad ((s.ply p).head.queue.length + 1) p s else s

/-- R78: whether the image of an ended load is kept. -/
def State.keepsImage (s : State) (p : Ply) (img : Image) : Bool :=
  s.current img.slot img.stamp && (s.ply p).loadable img

/-- R76, R78: an ACCEPT with a stamp: it answers the outstanding load when the load state is LOADING
and the stamps agree, and is ignored otherwise. -/
def State.acceptLoad (s : State) (p : Ply) (stamp : Byte) : State :=
  match (s.ply p).head.load with
  | .loading img =>
    if img.stamp = stamp then
      s.modHead p fun h => { h with load := if s.keepsImage p img then .loaded img else .empty }
    else s
  | .loaded _ => s
  | .empty => s

/-- R79: a load fails: the image is discarded, and the fault is raised with the image's slot and the
ply's position. -/
def State.failLoad (s : State) (p : Ply) (img : Image) (kind : FaultKind) (cause : Option Byte) :
    State :=
  (s.modHead p fun h => { h with load := .empty }).raiseFault p
    { kind := kind, index := img.slot, position := (s.ply p).unit.position, cause := cause
      retired := none }

/-- R76, R79: a REJECT with a stamp and a cause. -/
def State.rejectLoad (s : State) (p : Ply) (stamp cause : Byte) : State :=
  match (s.ply p).head.load with
  | .loading img => if img.stamp = stamp then s.failLoad p img .headReject (some cause) else s
  | .loaded _ => s
  | .empty => s

/-- R79: the expiry of the load timer, which runs in LOADING only. -/
def State.expireLoad (s : State) (p : Ply) : State :=
  match (s.ply p).head.load with
  | .loading img => s.failLoad p img .headTimeout none
  | .loaded _ => s
  | .empty => s

/-! ## The impression plan (section 4.4) -/

/-- The order of selects among impressions of equal phase (R82). -/
def selectRank : Select → Nat
  | .a1 => 0 | .a2 => 1 | .b1 => 2 | .b2 => 3

/-- R82: the layout phase of a select: phase A, phase A + S, phase B, phase B + S. -/
def Layout.phaseOf (lay : Layout) (splitPitch : Nat) : Select → Nat
  | .a1 => lay.phaseA
  | .a2 => lay.phaseA + splitPitch
  | .b1 => lay.phaseB.getD 0
  | .b2 => lay.phaseB.getD 0 + splitPitch

/-- R82: the effective phase: the layout phase plus the trim in force, mod C by the floor
modulus. -/
def effectivePhase (phase : Nat) (trim : Int) (c : Nat) : Nat := (((phase : Int) + trim) % c).toNat

/-- R82: plan order: by effective phase, and by A1, A2, B1, B2 among equals. -/
def planBefore (x y : Impression) : Bool :=
  decide (x.phase < y.phase) || (decide (x.phase = y.phase) && decide (selectRank x.select < selectRank y.select))

/-- An impression placed in plan order. -/
def insertImpression (x : Impression) : List Impression → List Impression
  | [] => [x]
  | y :: ys => if planBefore x y then x :: y :: ys else y :: insertImpression x ys

/-- The trim in force of a ply (R54). -/
def PlyState.trimInForce (ps : PlyState) : Int := (ps.run.map (·.trim)).getD 0

/-- R81: the plan for a BOUND slot under the layout of its segment, every impression WAITING with
error 0. -/
def planFor (lay : Layout) (p : Ply) (ps : PlyState) (c : Nat) : List Impression :=
  ((lay.selects p ps.record.headClass).map fun sel =>
    { select := sel
      phase := effectivePhase (lay.phaseOf ps.record.splitPitch sel) ps.trimInForce c
      state := .waiting
      error := 0 : Impression }).foldr insertImpression []

/-- R81: the plan of the form now under the head: that of its slot where it is BOUND and the ply's
sub-record PENDING, and empty in every other case. -/
def State.newPlan (s : State) (p : Ply) : List Impression :=
  match s.boundAt (s.ply p).unit.headSlot with
  | none => []
  | some (slot, b) =>
    match slot.subs.get p, s.segmentLayout b.segment with
    | some r, some lay =>
      if r.print = .pending then planFor lay p (s.ply p) s.cutoff else []
    | _, _ => []

/-- An impression of the plan changed. -/
def HeadController.modImp (h : HeadController) (sel : Select) (f : Impression → Impression) :
    HeadController :=
  { h with plan := h.plan.map fun i => if i.select = sel then f i else i }

/-- The state of the plan's impression with a select. -/
def HeadController.impState (h : HeadController) (sel : Select) : Option ImpressionState :=
  (h.plan.find? fun i => decide (i.select = sel)).map (·.state)

/-- R85: every impression not yet FIRED is DROPPED. -/
def HeadController.dropUnfired (h : HeadController) : HeadController :=
  { h with
    plan := h.plan.map fun i => if i.state = .fired then i else { i with state := .dropped }
    deferred := [] }

/-- Errors are limited to 65 535 (R91). -/
def capError (n : Nat) : Nat := min n Config.maxError

/-! ## Falling due and firing (section 4.5) -/

/-- The guard in force of a ply (R54). -/
def PlyState.guardInForce (ps : PlyState) : Nat := (ps.run.map (·.guardLimit)).getD 0

/-- R9: a placement error recorded: the first is created, a later one replaces it if larger. -/
def recordError (old : Option Nat) (e : Nat) : Option Nat :=
  match old with
  | none => some e
  | some o => some (max o e)

/-- The placement tolerance of the layout of a slot's segment, where the slot carries a binding
(R91). -/
def State.toleranceAt (s : State) (j : Nat) : Option Nat :=
  (s.slotAt j).bind fun slot => slot.binding.bind fun b =>
    (s.segmentLayout b.segment).map (·.tolerance)

/-- Whether an error exceeds the placement tolerance of a slot (R91). -/
def State.exceedsTolerance (s : State) (j e : Nat) : Bool :=
  match s.toleranceAt j with
  | some t => decide (t < e)
  | none => false

/-- Whether the plan has no impression left that is not FIRED (R86). -/
def HeadController.allFired (h : HeadController) : Bool :=
  h.plan.all fun i => decide (i.state = .fired)

/-- The error an impression of the plan carries. -/
def HeadController.errorOf (h : HeadController) (sel : Select) : Nat :=
  ((h.plan.find? fun i => decide (i.select = sel)).map (·.error)).getD 0

/-- R86, R9: what a firing writes in the form's sub-record: Fired raised to at most 4, the error,
Misplaced, and PRINTED with the last impression. -/
def SubRecord.fire (r : SubRecord) (e : Nat) (misplaced last : Bool) : SubRecord :=
  { r with
    fired := min (r.fired + 1) 4
    error := recordError r.error e
    misplaced := r.misplaced || misplaced
    print := if last then .printed else r.print }

/-- R86: an impression is fired: the fire line is driven with its select, the impression is FIRED,
the sub-record and the guard count are updated, the last impression gives up the image, and an
error above the tolerance sends a MISPLACE spoil. -/
def State.fireImpression (s : State) (p : Ply) (sel : Select) : State :=
  let j := (s.ply p).unit.headSlot
  let e := (s.ply p).head.errorOf sel
  let misplaced := s.exceedsTolerance j e
  let h1 := { (s.ply p).head.modImp sel (fun i => { i with state := .fired }) with
    guardCount := (s.ply p).guardInForce }
  let last := h1.allFired
  let s1 := (s.modHead p fun _ => if last then h1.giveUp j else h1).emit (.fire p sel)
  let s2 := s1.modSub j p fun r => r.fire e misplaced last
  if misplaced then s2.takeSpoil j ⟨.misplace, p⟩ else s2

/-- R85 tests 2 to 4: the form is closed: every impression not yet FIRED is dropped, the print state
is written, and the spoil of R92 is sent. -/
def State.closeForm (s : State) (p : Ply) (f : HeadController → HeadController)
    (print : PrintState) (reason : Reason) : State :=
  let j := (s.ply p).unit.headSlot
  let s1 := s.modHead p fun h => f h.dropUnfired
  let s2 := s1.modSub j p fun r => { r with print := print }
  s2.takeSpoil j ⟨reason, p⟩

/-- R85 test 4: a LOADED image that is not for a slot above the head slot is discarded, and the
entry of the current form, if WAITING, is marked TAKEN. -/
def HeadController.closeUnready (h : HeadController) (j : Nat) : HeadController :=
  { h with
    load := match h.load with
      | .loaded img => if j < img.slot then .loaded img else .empty
      | .loading img => .loading img
      | .empty => .empty
    queue := h.queue.map fun e => match e with
      | .image img taken => if img.slot = j then .image img true else .image img taken
      | .blank k => .blank k }

/-- R85 test 4: the head is LOADED with a current image for the head slot. -/
def State.readyToFire (s : State) (p : Ply) : Bool :=
  match (s.ply p).head.load with
  | .loaded img =>
    decide (img.slot = (s.ply p).unit.headSlot) && s.current img.slot img.stamp
  | .loading _ => false
  | .empty => false

/-- R85: the tests made when an impression falls due or is taken up again, in order, acting on the
first that holds. -/
def State.impressionDue (s : State) (p : Ply) (sel : Select) : State :=
  let j := (s.ply p).unit.headSlot
  if s.boundAt j = none then
    s.modHead p fun h => (h.modImp sel fun i => { i with state := .dropped }).giveUp j
  else if (s.ply p).head.inhibit then s.closeForm p (·.giveUp j) .inhibited .inhibited
  else if !(s.ply p).unit.registration.trusted then s.closeForm p (·.giveUp j) .missed .miss
  else if !s.readyToFire p then s.closeForm p (·.closeUnready j) .missed .miss
  else if 0 < (s.ply p).head.guardCount then
    s.modHead p fun h =>
      { h.modImp sel (fun i => { i with state := .deferred }) with deferred := h.deferred ++ [sel] }
  else s.fireImpression p sel

/-- R84: an impression falls due if it is WAITING when its turn comes. -/
def State.fallDue (s : State) (p : Ply) (sel : Select) : State :=
  if (s.ply p).head.impState sel = some .waiting then s.impressionDue p sel else s

/-- R84: impressions that fall due at one event are taken one after another. -/
def State.fallDueAll (s : State) (p : Ply) (sels : List Select) : State :=
  sels.foldl (fun s sel => s.fallDue p sel) s

/-- The WAITING impressions of the plan with an effective phase in a..b, in plan order. -/
def HeadController.waitingIn (h : HeadController) (a b : Nat) : List Select :=
  (h.plan.filter fun i => decide (i.state = .waiting) && decide (a ≤ i.phase) && decide (i.phase ≤ b)).map
    (·.select)

/-- R84: the impressions whose effective phase the position has reached fall due. -/
def State.reachPhase (s : State) (p : Ply) (x : Nat) : State :=
  s.fallDueAll p ((s.ply p).head.waitingIn x x)

/-- R87: the oldest DEFERRED impression is taken up again under R85. -/
def State.takeUpDeferred (s : State) (p : Ply) : State :=
  match (s.ply p).head.deferred with
  | [] => s
  | sel :: rest => (s.modHead p fun h => { h with deferred := rest }).impressionDue p sel

/-- R87: a forward advance adds one to the error of each DEFERRED impression and lowers the guard
count by one while it is above 0. -/
def HeadController.advance (h : HeadController) : HeadController :=
  { h with
    plan := h.plan.map fun i =>
      if i.state = .deferred then { i with error := capError (i.error + 1) } else i
    guardCount := h.guardCount - 1 }

/-- R87: a forward advance reaches the guard; the one that brings it to 0 takes up the oldest
DEFERRED impression. -/
def State.advanceGuard (s : State) (p : Ply) : State :=
  let s1 := s.modHead p HeadController.advance
  if (s.ply p).head.guardCount = 1 then s1.takeUpDeferred p else s1

/-! ## Snaps (section 4.6) -/

/-- R89: a forward snap: the WAITING impressions passed over start with the distance as error and
fall due at once, in plan order. -/
def State.forwardSnap (s : State) (p : Ply) (x e : Nat) : State :=
  let sels := (s.ply p).head.waitingIn (x + 1) e
  (s.modHead p fun h => { h with
    plan := h.plan.map fun i =>
      if sels.contains i.select then { i with error := capError (e - i.phase) } else i }).fallDueAll
    p sels

/-- R90, R91: a backward snap raises the error of one impression it passes over: a FIRED one writes
the slot and may be MISPLACE, a DEFERRED one stays DEFERRED. (R96 says of a deferred impression that
its error does not include a backward snap taken after it fires; the model follows R90 and R91:
DEDUCED, unsafe, log 44.) -/
def State.backwardOver (s : State) (p : Ply) (d : Nat) (i : Impression) : State :=
  let j := (s.ply p).unit.headSlot
  let e := capError (i.error + d)
  let s1 := s.modHead p fun h => h.modImp i.select fun k => { k with error := e }
  match i.state with
  | .waiting => s
  | .dropped => s
  | .deferred => s1
  | .fired =>
    let misplaced := s.exceedsTolerance j e
    let s2 := s1.modSub j p fun r =>
      { r with error := recordError r.error e, misplaced := r.misplaced || misplaced }
    if misplaced then s2.takeSpoil j ⟨.misplace, p⟩ else s2

/-- R90: a backward snap from `x` to `e` concerns the impressions with effective phase in e+1..x. -/
def State.backwardSnap (s : State) (p : Ply) (x e : Nat) : State :=
  ((s.ply p).head.plan.filter fun i => decide (e < i.phase) && decide (i.phase ≤ x)).foldl
    (fun s i => s.backwardOver p (x - e) i) s

/-! ## The boundary (R88) -/

/-- R88 step 1: the form just ended is closed. A BOUND form still PENDING is MISSED and spoiled. -/
def State.closeEnded (s : State) (p : Ply) (ended : Nat) : State :=
  match s.boundAt ended with
  | none => s
  | some (slot, _) =>
    match slot.subs.get p with
    | none => s
    | some r =>
      if r.print = .pending then
        ((s.modHead p HeadController.dropUnfired).modSub ended p fun r =>
          { r with print := .missed }).takeSpoil ended ⟨.miss, p⟩
      else s

/-- R8, R106: AWAIT is written only over NOT-DUE. -/
def SubRecord.leaveHead (r : SubRecord) : SubRecord :=
  { r with verify := if r.verify = .notDue then .await else r.verify }

/-- R88 step 2: where the ply has a reader, the form just ended is AWAIT. -/
def State.awaitEnded (s : State) (p : Ply) (ended : Nat) : State :=
  if (s.ply p).record.readerDistance = 0 then s else s.modSub ended p SubRecord.leaveHead

/-- R88 steps 3 and 4: a LOADED image below the new head slot is given up, and the staging entries
below it are removed. -/
def HeadController.passTo (h : HeadController) (begun : Nat) : HeadController :=
  { h with
    load := match h.load with
      | .loaded img => if img.slot < begun then .empty else .loaded img
      | .loading img => .loading img
      | .empty => .empty
    queue := h.queue.filter fun e => decide (begun ≤ e.slot) }

/-- R83, R88 step 5: a pending trim becomes the trim in force. -/
def PlyState.adoptTrim (ps : PlyState) : PlyState :=
  match ps.head.pendingTrim with
  | none => ps
  | some t =>
    { ps with
      run := ps.run.map fun r => { r with trim := t }
      head := { ps.head with pendingTrim := none } }

/-- R88: the boundary's work at the Head Controller, steps 1 to 6 in order; then the impressions
with effective phase 0 fall due (R84). -/
def State.headBoundary (s : State) (p : Ply) (ended begun : Nat) : State :=
  let s1 := (s.closeEnded p ended).awaitEnded p ended
  let s2 := (s1.modHead p fun h => h.passTo begun).modPly p PlyState.adoptTrim
  let s3 := s2.modHead p fun h => { h with plan := s2.newPlan p, deferred := [] }
  s3.reachPhase p 0

end Sys2Proof.Machine
end

