-- ==== Sys2Proof/Machine/Web.lean ====
section
/-! DEFINITION. The Ply Position Units (Chapter 3): counts, the form boundary, marks and snaps,
registration, splice pulses; and the meanings of the commands of the press side that reach them. -/

namespace Sys2Proof.Machine

/-! ## Which plies an edge reaches (R57) -/

/-- R57: whether an edge is one of a ply's position source. -/
def PlyRecord.counts (record : PlyRecord) (p : Ply) (e : Edge) : Bool :=
  match record.source, e with
  | .line, .line => true
  | .line, .lineOn q => decide (p = q)
  | .line, .web _ => false
  | .web, .web q => decide (p = q)
  | .web, .line => false
  | .web, .lineOn _ => false

/-- R57: the plies whose Position Units count an edge: in a run, the active plies whose source it
belongs to, in the order P0..P5 (assumption log 4). -/
def State.countingPlies (s : State) (e : Edge) : List Ply :=
  if s.inRun then s.activePlies.filter fun p => (s.ply p).record.counts p e else []

/-! ## The form boundary (R60) -/

/-- R64, R65: mark supervision of the form just ended: the registration that follows. -/
def Registration.supervised (r : Registration) (markTaken : Bool) : Registration :=
  match r with
  | .locked => if markTaken then .locked else .coast
  | .coast => .lost
  | .off => .off
  | .search => .search
  | .lost => .lost

/-- R60 step 1, R65: mark supervision; a ply that enters LOST raises MARK LOSS with the form just
ended and position 0. Mark taken then becomes no. -/
def State.superviseMark (s : State) (p : Ply) : State :=
  let u := (s.ply p).unit
  let s1 := s.modUnit p fun u =>
    { u with registration := u.registration.supervised u.markTaken, markTaken := false }
  if u.registration = .coast then
    s1.raiseFault p
      { kind := .markLoss, index := u.headSlot, position := 0, cause := none, retired := none }
  else s1

/-- R18, R19: the Schedule takes the new head slot: it creates it where it is NOT-CREATED,
force-retiring the marriage slot first where there is no room, and makes it SKIP if it is OPEN. -/
def State.takeHeadSlot (s : State) (p : Ply) (j : Nat) : State :=
  let s1 :=
    if s.windowEnd ≤ j && !s.hasRoom j then (s.forceRetire p).create j else s.create j
  s1.modSlot j Slot.skipIfOpen

/-- R60 step 2: the head slot is raised by one. At the largest set index it stays, and ALIGNMENT is
raised with that index and position 0 (section 1.6.2). -/
def State.raiseHeadSlot (s : State) (p : Ply) : State :=
  let h := (s.ply p).unit.headSlot
  if h < Config.maxSetIndex then
    (s.modUnit p fun u => { u with headSlot := h + 1 }).takeHeadSlot p (h + 1)
  else
    s.raiseFault p
      { kind := .alignment, index := Config.maxSetIndex, position := 0, cause := none
        retired := none }

/-- R60: the form boundary, its three steps in order; then the ply asks again for its next needed
slot (R17, assumption log 42). At the largest set index the head slot stays, so that the form ended
and the form begun are the same slot (DEDUCED, unsafe, log 43). -/
def State.boundary (s : State) (p : Ply) : State :=
  let ended := (s.ply p).unit.headSlot
  let s1 := (s.superviseMark p).raiseHeadSlot p
  (s1.headBoundary p ended (s1.ply p).unit.headSlot).askSlot p

/-! ## Counting (section 3.3) -/

/-- R58: a forward advance: the position is raised, the guard runs (R87), and the position either
ends the form or brings impressions due. -/
def State.forwardAdvance (s : State) (p : Ply) : State :=
  let x := (s.ply p).unit.position + 1
  let ends := decide (s.cutoff ≤ x)
  let s1 := s.modUnit p fun u => { u with position := if ends then 0 else x }
  let s2 := s1.advanceGuard p
  if ends then s2.boundary p else s2.reachPhase p x

/-- R58: a forward count on an active ply pays off an owed reverse count, or advances. -/
def State.forwardCount (s : State) (p : Ply) : State :=
  if 0 < (s.ply p).unit.owed then s.modUnit p fun u => { u with owed := u.owed - 1 }
  else s.forwardAdvance p

/-- The reverse allowance in force of a ply (R54). -/
def PlyState.allowance (ps : PlyState) : Nat := (ps.run.map (·.allowance)).getD 0

/-- R59: a reverse count raises the owed reverse count, or raises REVERSE OVERRUN, clears it and
puts the ply in SEARCH with mark taken no. -/
def State.reverseCount (s : State) (p : Ply) : State :=
  let ps := s.ply p
  if ps.unit.owed + 1 ≤ ps.allowance then s.modUnit p fun u => { u with owed := u.owed + 1 }
  else
    (s.modUnit p fun u => { u with owed := 0, registration := .search, markTaken := false }).raiseFault
      p { kind := .reverseOverrun, index := ps.unit.headSlot, position := ps.unit.position
          cause := none, retired := none }

/-! ## Marks (section 3.5) -/

/-- R62: whether a mark pulse at the ply's position is accepted. -/
def PlyState.acceptsMark (ps : PlyState) : Bool :=
  if ps.unit.markTaken then false
  else match ps.unit.registration with
    | .search => true
    | .locked => inWindow
    | .coast => inWindow
    | .lost => false
    | .off => false
where
  /-- R62: the position lies in E−Wm..E+Wm, with Wm the window in force. -/
  inWindow : Bool :=
    let w := (ps.run.map (·.window)).getD 0
    decide (ps.record.markPhase ≤ ps.unit.position + w)
      && decide (ps.unit.position ≤ ps.record.markPhase + w)

/-- R63: the snap: the position becomes E, the owed count 0, the registration LOCKED, and the Head
Controller deals with the impressions between. -/
def State.snap (s : State) (p : Ply) : State :=
  let x := (s.ply p).unit.position
  let e := (s.ply p).record.markPhase
  let s1 := s.modUnit p fun u =>
    { u with position := e, owed := 0, registration := .locked, markTaken := true }
  if x < e then s1.forwardSnap p x e
  else if e < x then s1.backwardSnap p x e
  else s1

/-! ## Splice pulses (section 3.8) -/

/-- R69, R70: a splice pulse on an active ply with a sensor at distance K, in a run. A repeat of the
target in the splice watch is ignored; otherwise the target is created if need be, the watch takes
it, and the Recovery Logic acts. -/
def State.splicePulse (s : State) (p : Ply) (k : Nat) : State :=
  let target := (s.ply p).unit.headSlot + k
  if (s.ply p).unit.spliceWatch = some target then s
  else ((s.create target).modUnit p fun u => { u with spliceWatch := some target }).takeSplice
    p target

/-! ## The commands -/

/-- FORWARD_COUNT (R57, R58): each ply that counts the edge takes a forward count. -/
def execForwardCount (e : Edge) (s : State) : Host.Outcome State Fault Refusal :=
  .next ((s.countingPlies e).foldl State.forwardCount s)

/-- REVERSE_COUNT (R57, R59): each ply that counts the edge takes a reverse count. -/
def execReverseCount (e : Edge) (s : State) : Host.Outcome State Fault Refusal :=
  .next ((s.countingPlies e).foldl State.reverseCount s)

/-- GUARD_EXPIRY (R87): the forward advance of a ply that brings its guard count to 0. In a state in
which the ply's next forward count is no such advance, the event does not occur and nothing changes
(assumption log 5). -/
def execGuardExpiry (p : Ply) (s : State) : Host.Outcome State Fault Refusal :=
  .next (if s.inRun && s.active p && decide ((s.ply p).unit.owed = 0)
      && decide ((s.ply p).head.guardCount = 1) then s.forwardAdvance p else s)

/-- MARK_PULSE (R57, R62): a pulse of an active ply's mark sensor in a run is accepted, with the
snap of R63, or ignored. -/
def execMarkPulse (p : Ply) (s : State) : Host.Outcome State Fault Refusal :=
  .next (if s.inRun && s.active p && (s.ply p).acceptsMark then s.snap p else s)

/-- SPLICE_EVENT (R57, R69): a pulse of the splice sensor of an active ply that has one, in a
run. -/
def execSpliceEvent (p : Ply) (s : State) : Host.Outcome State Fault Refusal :=
  .next (if s.inRun && s.active p then
      match (s.ply p).record.splice with
      | some k => s.splicePulse p k
      | none => s
    else s)

end Sys2Proof.Machine
end

