-- ==== Sys2Proof/Machine/Render.lean ====
section
/-! DEFINITION. Staging, the render arbiter and the render unit (section 2.8), and the commands of
the head port. -/

namespace Sys2Proof.Machine

/-- R48: whether a held slot is staged BLANK for a ply without a render: it is SKIP or VOID, or
BOUND with the ply's sub-record NONE. -/
def Slot.stagesBlank (slot : Slot) (p : Ply) : Bool :=
  match slot.disp with
  | .skip => true
  | .void _ _ => true
  | .bound _ _ => decide ((slot.subs.get p).map (·.print) = some .none)
  | .opened => false

/-- R48: whether a ply with this held slot as its next needed one is a requester. -/
def State.requests (s : State) (p : Ply) (j : Nat) (slot : Slot) : Bool :=
  match slot.disp with
  | .bound _ _ => !slot.stagesBlank p
  | .opened => s.aboveHeads j && s.gateOpen
  | .skip => false
  | .void _ _ => false

/-- R48: a BLANK entry for a slot joins the back of a ply's queue. -/
def State.appendBlank (s : State) (p : Ply) (j : Nat) : State :=
  s.modHead p fun h => { h with queue := h.queue ++ [.blank j] }

/-- R48, R17: a Head Controller acts once on its next needed slot: a slot NOT-CREATED is created
where there is room, a BLANK entry is appended, or the ply requests or waits, which is no change. -/
def State.stage (s : State) (p : Ply) : State :=
  let j := (s.ply p).nextNeeded
  match s.lookup j with
  | .notCreated => s.create j
  | .retired => s
  | .held slot => if slot.stagesBlank p then s.appendBlank p j else s

/-- R48: whether a ply is a requester. -/
def State.isRequester (s : State) (p : Ply) : Bool :=
  s.stages p && (match s.slotAt (s.ply p).nextNeeded with
    | some slot => s.requests p (s.ply p).nextNeeded slot
    | none => false)

/-- R49: the plies in the order that follows a ply. -/
def pliesAfter : Ply → List Ply
  | .p0 => [.p1, .p2, .p3, .p4, .p5, .p0]
  | .p1 => [.p2, .p3, .p4, .p5, .p0, .p1]
  | .p2 => [.p3, .p4, .p5, .p0, .p1, .p2]
  | .p3 => [.p4, .p5, .p0, .p1, .p2, .p3]
  | .p4 => [.p5, .p0, .p1, .p2, .p3, .p4]
  | .p5 => [.p0, .p1, .p2, .p3, .p4, .p5]

/-- The first ply of a list whose queue is shortest. -/
def State.shortestFirst (s : State) : List Ply → Option Ply
  | [] => none
  | p :: ps =>
    match s.shortestFirst ps with
    | none => some p
    | some q =>
      if (s.ply p).head.queue.length ≤ (s.ply q).head.queue.length then some p else some q

/-- R49: the requester the arbiter chooses: the one whose queue holds the fewest entries, and among
those tied the first in the order that follows the ply last granted. -/
def State.chosen (s : State) : Option Ply :=
  s.shortestFirst ((pliesAfter s.lastGranted).filter s.isRequester)

/-- R49: the ply is the ply last granted, and the render unit is busy with it and the slot, at the
stamp the slot has at the grant. A slot whose binding gives the ply no field is staged BLANK without
a render (R37, R48), and the unit stays idle (assumption log 23). -/
def State.beginRender (s : State) (p : Ply) (j : Nat) : State :=
  match s.slotAt j with
  | some slot =>
    { s with
      render := if slot.stagesBlank p then none else some ⟨p, j, slot.stamp⟩
      lastGranted := p }
  | none => s

/-- R45, R49: the grant of a ply's next needed slot: an OPEN slot is bound, and the render
begins. -/
def State.grant (s : State) (p : Ply) : State :=
  let j := (s.ply p).nextNeeded
  match s.slotAt j with
  | none => s
  | some slot =>
    match slot.disp with
    | .opened => (s.bindSlot j).beginRender p j
    | .bound _ _ => s.beginRender p j
    | .skip => s
    | .void _ _ => s

/-- The image of a render, composed from the slot's binding (R50). -/
def State.renderImage (s : State) (r : Render) : Option Image :=
  (s.boundAt r.slot).bind fun x =>
    (s.segmentLayout x.2.segment).map fun lay =>
      composeImage lay r.ply (s.ply r.ply).record.headClass r.slot r.stamp x.2.serial

/-- R50: the completion: the image joins the ply's queue when its slot passes the currency test and
is still the ply's next needed slot; otherwise nothing is appended. -/
def State.completeRender (s : State) (r : Render) : State :=
  let s1 := { s with render := none }
  if s.current r.slot r.stamp && decide ((s.ply r.ply).nextNeeded = r.slot) then
    match s.renderImage r with
    | some img => s1.modHead r.ply fun h => { h with queue := h.queue ++ [.image img false] }
    | none => s1
  else s1

/-! ## The commands -/

/-- STAGE_NEXT_SLOT (R48). -/
def execStageNextSlot (p : Ply) (s : State) : Host.Outcome State Fault Refusal :=
  .next (if s.stages p then s.stage p else s)

/-- RENDER_GRANT (R49): with the render unit idle, a requester is granted it. -/
def execRenderGrant (s : State) : Host.Outcome State Fault Refusal :=
  .next (match s.render, s.chosen with
    | none, some p => s.grant p
    | _, _ => s)

/-- RENDER_COMPLETION (R50): the render in flight, where there is one, ends. -/
def execRenderCompletion (s : State) : Host.Outcome State Fault Refusal :=
  .next (match s.render with
    | some r => s.completeRender r
    | none => s)

/-- LOAD_START (R77). -/
def execLoadStart (p : Ply) (s : State) : Host.Outcome State Fault Refusal :=
  .next (s.loadStart p)

/-- ACCEPT (R76, R78). -/
def execAccept (p : Ply) (stamp : Byte) (s : State) : Host.Outcome State Fault Refusal :=
  .next (s.acceptLoad p stamp)

/-- REJECT (R76, R79). -/
def execReject (p : Ply) (stamp cause : Byte) (s : State) : Host.Outcome State Fault Refusal :=
  .next (s.rejectLoad p stamp cause)

/-- LOAD_TIMER_EXPIRY (R79). -/
def execLoadTimerExpiry (p : Ply) (s : State) : Host.Outcome State Fault Refusal :=
  .next (s.expireLoad p)

end Sys2Proof.Machine
end

