-- ==== Sys2Proof/Machine/Reader.lean ====
section
/-! DEFINITION. The Readback Checker (Chapter 5): synchronisation, gaps, association, comparison,
stray records. -/

namespace Sys2Proof.Machine

/-- A ply's checker changed. -/
def State.modChecker (s : State) (p : Ply) (f : Checker → Checker) : State :=
  s.modPly p fun ps => { ps with checker := f ps.checker }

/-- The set indexes of a ply's AWAIT sub-records in the window, in ascending order (R100, R102). -/
def State.awaiting (s : State) (p : Ply) : List Nat :=
  s.indexed.filterMap fun x =>
    if (x.1.subs.get p).map (·.verify) = some .await then some x.2 else none

/-- R107: a STRAY notice. -/
def State.stray (s : State) (p : Ply) (cause : StrayCause) (expected : Byte) : State :=
  s.notify (.stray p cause expected)

/-- A reader's result (R97): TEXT, or NO-READ. -/
inductive ReadResult
  | text (chars : List Byte)
  | noRead
deriving DecidableEq, Repr

/-- R97: a record as the checker reads it: its sequence number and result, or unreadable. -/
def readRecord : ReaderRecord → Option (Byte × ReadResult)
  | .text seq chars =>
    if 1 ≤ chars.length ∧ chars.length ≤ 16 then some (seq, .text chars) else none
  | .noRead seq => some (seq, .noRead)
  | .unreadable => none

/-- Table 5-2: the verify state of a PRINTED form. -/
def verifyPrinted (field : Option (List Byte)) : ReadResult → VerifyState
  | .noRead => .noread
  | .text chars => if field = some chars then .isMatch else .mismatch

/-- The spoil that a verify outcome of a PRINTED form sends (Table 5-2). -/
def verifySpoil : VerifyState → Option Reason
  | .mismatch => some .mismatch
  | .noread => some .noread
  | .noresult => some .noresult
  | .absent => none
  | .notDue => none
  | .await => none
  | .isMatch => none
  | .seen => none

/-- The verify field of a ply for a slot, from its stored serial and layout (R103). -/
def State.verifyField (s : State) (p : Ply) (slot : Slot) : Option (List Byte) :=
  slot.binding.bind fun b =>
    (s.segmentLayout b.segment).map fun lay => lay.verifyText p b.serial

/-- R104, R105: the outcome of a record associated with a sub-record. -/
def State.verifyOutcome (s : State) (p : Ply) (slot : Slot) (r : ReadResult) : VerifyState :=
  if (slot.subs.get p).map (·.print) = some .printed then
    verifyPrinted (s.verifyField p slot) r
  else .seen

/-- A verify state written in a sub-record. -/
def State.writeVerify (s : State) (j : Nat) (p : Ply) (v : VerifyState) : State :=
  s.modSub j p fun r => { r with verify := v }

/-- R104: the outcome written, and its spoil handed to the Recovery Logic. -/
def State.verify (s : State) (j : Nat) (p : Ply) (v : VerifyState) : State :=
  let s1 := s.writeVerify j p v
  match verifySpoil v with
  | some reason => s1.takeSpoil j ⟨reason, p⟩
  | none => s1

/-- R102: a record is associated with the lowest AWAIT sub-record of its ply, or is unmatched and
reported with the number expected as the record was taken. -/
def State.associate (s : State) (p : Ply) (seq : Byte) (r : ReadResult) (expected : Byte) : State :=
  match s.awaiting p with
  | [] => s.stray p (.unmatched seq) expected
  | j :: _ =>
    match s.slotAt j with
    | none => s
    | some slot => s.verify j p (s.verifyOutcome p slot r)

/-- R100: an awaiting form passed over by a gap becomes NORESULT. -/
def State.markNoResult (p : Ply) (s : State) (j : Nat) : State := s.writeVerify j p .noresult

/-- R100: a form passed over by a gap that was PRINTED is spoiled. -/
def State.spoilNoResult (p : Ply) (s : State) (j : Nat) : State :=
  if (s.subAt j p).map (·.print) = some .printed then s.takeSpoil j ⟨.noresult, p⟩ else s

/-- R100: a gap of k: the k lowest AWAIT sub-records become NORESULT, and those PRINTED are
spoiled. -/
def State.gap (s : State) (p : Ply) (k : Nat) : State :=
  let passed := (s.awaiting p).take k
  passed.foldl (State.spoilNoResult p) (passed.foldl (State.markNoResult p) s)

/-- R98 to R102: a readable record is synchronised, and associated or discarded as OLD. -/
def State.takeRecord (s : State) (p : Ply) (seq : Byte) (r : ReadResult) : State :=
  let c := (s.ply p).checker
  let diff := if c.synced then (seq - c.expected).toNat else 0
  if 128 ≤ diff then s.stray p (.old seq) c.expected
  else
    ((s.gap p diff).modChecker p fun _ => ⟨true, seq + 1⟩).associate p seq r c.expected

/-- R97: the checker takes a record in a run, on an active ply with a reader. -/
def State.takesRecords (s : State) (p : Ply) : Bool :=
  s.inRun && s.active p && decide ((s.ply p).record.readerDistance ≠ 0)

/-- READER_RECORD (R97). -/
def execReaderRecord (p : Ply) (r : ReaderRecord) (s : State) : Host.Outcome State Fault Refusal :=
  .next (if s.takesRecords p then
      match readRecord r with
      | some (seq, result) => s.takeRecord p seq result
      | none => s.stray p .format (s.ply p).checker.expected
    else s)

end Sys2Proof.Machine
end

