-- ==== Sys2Proof/Machine/Marriage.lean ====
section
/-! DEFINITION. The Marriage Unit (Chapter 6): the steps of a marriage, in the order of R110. -/

namespace Sys2Proof.Machine

/-- R111: whether a ply's head slot is one of the accepted pair at the marriage of `j`. -/
def PlyState.aligned (ps : PlyState) (j : Nat) : Bool :=
  decide (ps.unit.headSlot = j + ps.record.pathLength)
  || decide (ps.unit.headSlot = j + ps.record.pathLength + 1)

/-- The active plies out of alignment at the marriage of `j`, P0 to P5 (R111). -/
def State.misaligned (s : State) (j : Nat) : List Ply :=
  s.activePlies.filter fun p => !(s.ply p).aligned j

/-- R111: ALIGNMENT raised on a ply, with the ply's position when the pulse is taken. -/
def State.raiseAlignment (j : Nat) (s : State) (p : Ply) : State :=
  s.raiseFault p
    { kind := .alignment, index := j, position := (s.ply p).unit.position, cause := none
      retired := none }

/-- Whether the slot at an index is BOUND or VOID. -/
def State.numberedAt (s : State) (j : Nat) : Bool :=
  match s.slotAt j with
  | some slot => slot.isNumbered
  | none => false

/-- Step 2 (R111): the alignment check, with the ALIGN spoils it produces. -/
def State.checkAlignment (s : State) (j : Nat) : State × List SpoilMark :=
  let ps := s.misaligned j
  (ps.foldl (State.raiseAlignment j) s,
    if s.numberedAt j then ps.map fun p => ⟨.align, p⟩ else [])

/-- R112, R113: what the final checks write in a sub-record. -/
def SubRecord.closeAtMarriage (r : SubRecord) : SubRecord :=
  { r with
    print := if r.print = .pending then .missed else r.print
    verify := if r.verify = .await then .noresult else r.verify }

/-- R112, R113: the spoils the final checks of one ply's sub-record produce: MISS for a PENDING form
of a BOUND slot, NORESULT for a PRINTED form still AWAIT of a BOUND or VOID one. -/
def Slot.finalSpoils (slot : Slot) (p : Ply) : List SpoilMark :=
  match slot.subs.get p with
  | none => []
  | some r =>
    (if r.print = .pending && slot.isBound then [⟨.miss, p⟩] else [])
    ++ (if r.verify = .await && r.print = .printed && slot.isNumbered then [⟨.noresult, p⟩] else [])

/-- The sub-records of the active plies changed alike. -/
def State.modActiveSubs (s : State) (j : Nat) (f : SubRecord → SubRecord) : State :=
  s.modSlot j fun slot =>
    { slot with subs := slot.subs.map fun p o => if s.active p then o.map f else o }

/-- Step 3 (R112, R113): the final checks on every active ply, with the spoils they produce. -/
def State.finalChecks (s : State) (j : Nat) : State × List SpoilMark :=
  (s.modActiveSubs j SubRecord.closeAtMarriage,
    match s.slotAt j with
    | some slot => s.activePlies.flatMap slot.finalSpoils
    | none => [])

/-- R115: the outcome of the set, by the slot's disposition. -/
def Slot.outcome (slot : Slot) : SetOutcome :=
  match slot.disp with
  | .skip => .blank
  | .opened => .blank
  | .void _ (.spoil _) => .spoiled
  | .void _ .collateral => .void
  | .void _ .abort => .void
  | .bound _ (some _) => .spoiled
  | .bound _ none => .good

/-- R116: the spoil-marker's level for an outcome. -/
def SetOutcome.marks : SetOutcome → Bool
  | .good => false
  | .spoiled => true
  | .void => true
  | .blank => true

/-- R117: Retired, one outcome tally, and Make-up good with a GOOD make-up. -/
def Tallies.count (t : Tallies) (o : SetOutcome) (makeup : Bool) : Tallies :=
  let t1 := { t with retired := raiseTally 0 t.retired }
  match o with
  | .good =>
    { t1 with
      good := raiseTally 1 t.good
      makeupGood := if makeup then raiseTally 6 t.makeupGood else t.makeupGood }
  | .spoiled => { t1 with spoiled := raiseTally 2 t.spoiled }
  | .void => { t1 with void := raiseTally 3 t.void }
  | .blank => { t1 with blank := raiseTally 4 t.blank }

/-- Whether a slot's binding is a make-up's. -/
def Slot.isMakeup (slot : Slot) : Bool := (slot.binding.map Binding.makeup).getD false

/-- The spoil of a set judged SPOILED, from the Void reason or Spoil-pending (R118). -/
def Slot.spoilMark (slot : Slot) : Option SpoilMark :=
  match slot.disp with
  | .void _ (.spoil m) => some m
  | .void _ .collateral => none
  | .void _ .abort => none
  | .bound _ m => m
  | .opened => none
  | .skip => none

/-- R118: the last-marriage record of a slot as judged. -/
def Slot.marriageRecord (slot : Slot) (j : Nat) : LastMarriage :=
  ⟨j, slot.outcome, slot.binding, slot.spoilMark⟩

/-- R120: whether a slot's binding brought its pass's issued count to the quantity of its
segment. -/
def State.endedPass (s : State) (b : Binding) : Bool :=
  match b.before, s.segment b.segment with
  | some cb, some g => decide (cb.issued + 1 = g.quantity)
  | _, _ => false

/-- Step 8 (R120): SEGMENT-DONE for a slot that ended a pass, with outcome GOOD or SPOILED. -/
def State.segmentDone (s : State) (j : Nat) (slot : Slot) : State :=
  match slot.binding with
  | none => s
  | some b =>
    if s.endedPass b && (decide (slot.outcome = .good) || decide (slot.outcome = .spoiled)) then
      s.notify (.segmentDone j b slot.outcome)
    else s

/-- Steps 6 and 7 (R116 to R119): the marker, the tallies, the last-marriage record and the
retirement of the slot as judged. -/
def State.closeMarriage (s : State) (j : Nat) (slot : Slot) : State :=
  { s with
    marker := slot.outcome.marks
    tallies := s.tallies.count slot.outcome slot.isMakeup
    lastMarriage := some (slot.marriageRecord j) }.retireSlot

/-- Steps 5 to 9 of R110 on the slot as step 4 has left it. -/
def State.judge (s : State) (j : Nat) : State :=
  match s.slotAt j with
  | none => s
  | some slot => ((s.closeMarriage j slot).segmentDone j slot).testEnd

/-- R110: the marriage of the slot at the marriage slot. -/
def State.marry (s : State) : State :=
  let j := s.marriageSlot
  let s1 := s.modSlot j Slot.skipIfOpen
  let (s2, aligns) := s1.checkAlignment j
  let (s3, finals) := s2.finalChecks j
  (s3.takeSpoils j (aligns ++ finals)).judge j

/-- R21: a set-cutoff that finds the window empty has the marriage slot created for it. -/
def State.ensureMarriageSlot (s : State) : State :=
  if s.slots.isEmpty then s.create s.marriageSlot else s

/-- SET_CUTOFF (R109, R110): in a run, the marriage of the marriage slot. In IDLE the pulse reaches
no block. After the largest set index no slot can be created and nothing is married (assumption
log 9). -/
def execSetCutoff (s : State) : Host.Outcome State Fault Refusal :=
  .next (if s.inRun then
      let s1 := s.ensureMarriageSlot
      if s1.slots.isEmpty then s else s1.marry
    else s)

end Sys2Proof.Machine
end

