-- ==== Sys2Proof/Machine/Wire.lean ====
section
/-! DEFINITION. What goes on the wire (sections 9.2 and 9.10): numbers, the codes of Table 9-6, the
results of the queries, the notices, the CRC and the frame. Where R176 gives a width or an order it
is cited; the conventions it leaves open are assumption logs 10, 11, 12 and 39. -/

namespace Sys2Proof.Machine

/-! ## Numbers (R176) -/

/-- An unsigned number in `w` bytes, high byte first (R176). What does not fit is sent modulo 256 to the
power of `w`, of which R176 says nothing (DESIGN CHOICE, unsafe, log 10). -/
def be : Nat → Nat → List Byte
  | 0, _ => []
  | w + 1, n => be w (n / 256) ++ [BitVec.ofNat 8 n]

/-- The number that bytes spell, high byte first (R176). -/
def beNat (bytes : List Byte) : Nat := bytes.foldl (fun n b => n * 256 + b.toNat) 0

/-- A yes/no field (R176). -/
def yesNo (b : Bool) : List Byte := if b then [1] else [0]

/-- A trim: 3 bytes of two's complement (R176). -/
def trimBytes (t : Int) : List Byte := be 3 (t % 16777216).toNat

/-- The trim that 3 bytes of two's complement spell (R176). -/
def trimOf (n : Nat) : Int := if n < 8388608 then n else (n : Int) - 16777216

/-- A field given only in some cases: its presence byte, then its bytes, which are zeros when it is
absent (R176). -/
def optional (o : Option Nat) (w : Nat) : List Byte := yesNo o.isSome ++ be w (o.getD 0)

/-- Text whose length varies: a length byte, then its characters (R176). -/
def textBytes (t : List Byte) : List Byte := be 1 t.length ++ t

/-- Six flags as a ply mask, bit p for ply Pp (Table 9-6). -/
def maskByte (m : PerPly Bool) : Nat :=
  m.p0.toNat + 2 * m.p1.toNat + 4 * m.p2.toNat + 8 * m.p3.toNat + 16 * m.p4.toNat + 32 * m.p5.toNat

/-! ## Codes (Table 9-6) -/

def Disposition.code : Disposition → Nat
  | .opened => 0 | .bound _ _ => 1 | .skip => 2 | .void _ _ => 3

def PrintState.code : PrintState → Nat
  | .pending => 0 | .printed => 1 | .missed => 2 | .inhibited => 3 | .notPrinted => 4 | .none => 5

def VerifyState.code : VerifyState → Nat
  | .absent => 0 | .notDue => 1 | .await => 2 | .isMatch => 3 | .mismatch => 4 | .noread => 5
  | .noresult => 6 | .seen => 7

def Reason.code : Reason → Nat
  | .miss => 1 | .misplace => 2 | .inhibited => 3 | .mismatch => 4 | .noread => 5 | .noresult => 6
  | .splice => 7 | .align => 8

/-- A spoil reason that may be none (Table 9-6). -/
def reasonCode (r : Option Reason) : Nat := (r.map Reason.code).getD 0

def SetOutcome.code : SetOutcome → Nat
  | .good => 0 | .spoiled => 1 | .void => 2 | .blank => 3

def Registration.code : Registration → Nat
  | .off => 0 | .search => 1 | .locked => 2 | .coast => 3 | .lost => 4

def Load.code : Load → Nat
  | .empty => 0 | .loading _ => 1 | .loaded _ => 2

def FaultKind.code : FaultKind → Nat
  | .markLoss => 1 | .reverseOverrun => 2 | .headReject => 3 | .headTimeout => 4 | .alignment => 5

def InhibitSet.byte (i : InhibitSet) : Nat :=
  i.markLoss.toNat + 2 * i.reverseOverrun.toNat + 4 * i.headReject.toNat + 8 * i.headTimeout.toNat
    + 16 * i.alignment.toNat

def RunState.code : RunState → Nat
  | .idle => 0 | .running => 1 | .held => 2 | .draining => 3

def HoldCauses.byte (c : HoldCauses) : Nat :=
  c.host.toNat + 2 * c.fault.toNat + 4 * c.sequence.toNat + 8 * c.makeups.toNat

def drainCode : Option DrainKind → Nat
  | none => 0 | some .ended => 1 | some .abort => 2

def policyCode : Option Policy → Nat
  | none => 0 | some .rollback => 1 | some .defer => 2

def endMakeupsCode : Option EndMakeups → Nat
  | none => 0 | some .auto => 1 | some .manual => 2

def FaultAction.code : FaultAction → Nat
  | .spoil => 0 | .hold => 1

def CursorState.code : CursorState → Nat
  | .active => 1 | .paused => 2 | .chainEnd => 3 | .exhausted => 4 | .closed => 5

/-- The cursor's state, or absent (Table 9-6). -/
def cursorCode (c : Option Cursor) : Nat := (c.map fun c => c.state.code).getD 0

def Owner.code : Owner → Nat
  | .none => 0 | .press => 1 | .service => 2

def linkCode : Link → Nat
  | .press => 1 | .service => 2

def RunEnd.code : RunEnd → Nat
  | .complete => 0 | .drained => 1 | .abandoned => 2

def SpoilAction.code : SpoilAction → Nat
  | .voided => 0 | .listed => 1 | .duplicate => 2 | .listFull => 3

def StrayCause.code : StrayCause → Nat
  | .old _ => 0 | .unmatched _ => 1 | .format => 2

def PauseCause.code : PauseCause → Nat
  | .endAction => 0 | .segmentEmpty => 1 | .layoutUnfit => 2

def RestartCause.code : RestartCause → Nat
  | .power => 0 | .request => 1

def Direction.code : Direction → Nat
  | .asc => 0 | .desc => 1

def Fill.code : Fill → Nat
  | .zero => 0 | .space => 1

def CheckMethod.code : CheckMethod → Nat
  | .none => 0 | .mod10w31 => 1 | .mod11w _ => 2 | .mod7r => 3

/-- The ten-rule of a check method, none where it is not MOD11W (Table 9-6). -/
def CheckMethod.tenRuleCode : CheckMethod → Nat
  | .mod11w .x => 1 | .mod11w .skip => 2 | .none => 0 | .mod10w31 => 0 | .mod7r => 0

def Overflow.code : Overflow → Nat
  | .roll => 0 | .stop => 1

def EndAction.code : EndAction → Nat
  | .carryOn => 0 | .pause => 1

def PositionSource.code : PositionSource → Nat
  | .line => 0 | .web => 1

def HeadClass.code : HeadClass → Nat
  | .narrow => 0 | .wide => 1

/-- The number of baud of a rate (R163). -/
def baud : Rate → Nat
  | .b19200 => 19200 | .b38400 => 38400 | .b57600 => 57600 | .b115200 => 115200

/-- A rate in use as it is reported: its number of baud in 3 bytes (log 11). -/
def rateBytes (r : Rate) : List Byte := be 3 (baud r)

/-- The refusal reasons of Table 9-4. -/
def RefusalReason.code : RefusalReason → Byte
  | .badKind => 0x01 | .badLength => 0x02 | .badField => 0x03 | .notOwner => 0x04
  | .heldByOther => 0x05 | .wrongState => 0x06 | .inUse => 0x07 | .listHigh => 0x08
  | .duplicate => 0x09 | .inFlight => 0x0A | .faultPending => 0x0B | .exhausted => 0x0C
  | .config => 0x0D

/-! ## Records -/

/-- Sequence value, serial, segment, pass: 11 bytes (Table 9-8). -/
def Binding.bytes (b : Binding) : List Byte :=
  be 3 b.value ++ be 5 b.serial ++ be 1 b.segment ++ be 2 b.pass

/-- Cursor-before: 9 bytes (Table 9-8). -/
def CursorBefore.bytes (c : CursorBefore) : List Byte :=
  be 1 c.segment ++ be 2 c.pass ++ be 3 c.next ++ be 3 c.issued

/-- A spoil's reason and ply. -/
def SpoilMark.bytes (m : SpoilMark) : List Byte := be 1 m.reason.code ++ be 1 (plyNumber m.ply)

/-- The void reason field: the reason, and for SPOIL its spoil reason in the low 4 bits and its ply in
the high 4 (Table 9-8). -/
def VoidReason.bytes : VoidReason → List Byte
  | .spoil m => be 1 1 ++ be 1 (m.reason.code + 16 * plyNumber m.ply)
  | .collateral => be 1 2 ++ be 1 0
  | .abort => be 1 3 ++ be 1 0

/-- A sub-record: 5 bytes (Table 9-8). -/
def SubRecord.bytes (r : SubRecord) : List Byte :=
  be 1 (r.print.code + 16 * r.verify.code)
  ++ be 1 (r.fired + 8 * r.misplaced.toNat + 16 * r.splice.toNat + 32 * r.error.isSome.toNat)
  ++ be 2 (r.error.getD 0) ++ be 1 (reasonCode r.second)

/-- The Cursor-before of a slot, where it carries one. -/
def Slot.before (slot : Slot) : Option CursorBefore := slot.binding.bind (·.before)

/-- Spoil-pending of a slot, where it has one. -/
def Slot.pendingMark (slot : Slot) : Option SpoilMark :=
  match slot.disp with
  | .bound _ m => m
  | .opened => none
  | .skip => none
  | .void _ _ => none

/-- The void reason of a slot, where it has one. -/
def Slot.voidReason (slot : Slot) : Option VoidReason :=
  match slot.disp with
  | .void _ r => some r
  | .bound _ _ => none
  | .opened => none
  | .skip => none

/-- The flags of a READ-SLOTS entry (Table 9-8). -/
def Slot.flags (slot : Slot) : Nat :=
  slot.binding.isSome.toNat + 2 * slot.isMakeup.toNat + 4 * slot.before.isSome.toNat
    + 8 * slot.pendingMark.isSome.toNat + 16 * slot.touched.toNat + 32 * slot.voidReason.isSome.toNat

/-- The entry of a held slot, with a sub-record for each ply of the mask (Table 9-8). -/
def Slot.bytes (slot : Slot) (mask : PerPly Bool) : List Byte :=
  be 1 0 ++ be 1 slot.disp.code ++ [slot.stamp] ++ be 1 slot.flags
  ++ ((slot.binding.map Binding.bytes).getD [])
  ++ ((slot.before.map CursorBefore.bytes).getD [])
  ++ ((slot.pendingMark.map SpoilMark.bytes).getD [])
  ++ ((slot.voidReason.map VoidReason.bytes).getD [])
  ++ (plyOrder.filter mask.get).flatMap fun p => ((slot.subs.get p).map SubRecord.bytes).getD []

/-- A READ-SLOTS entry: a held slot, or RETIRED or NOT-CREATED, which is 1 byte (R171). -/
def SlotAnswer.bytes (mask : PerPly Bool) : SlotAnswer → List Byte
  | .held slot => slot.bytes mask
  | .retired => be 1 1
  | .notCreated => be 1 2

/-- A ply record as stored: bytes 1 to 23 of Table 9-9. -/
def PlyRecord.bytes (r : PlyRecord) : List Byte :=
  yesNo r.active ++ be 1 r.source.code ++ be 1 r.pathLength ++ be 1 r.readerDistance
  ++ yesNo r.splice.isSome ++ be 1 (r.splice.getD 0) ++ be 2 r.markPhase ++ be 2 r.markWindow
  ++ be 2 r.reverseAllowance ++ be 1 r.headClass.code ++ be 2 r.splitPitch ++ be 2 r.guardLimit
  ++ be 2 r.loadTimeout ++ be 1 r.inhibitSet.byte ++ trimBytes r.trim

/-- The run values present byte and the run values with the pending trim: bytes 24 to 37 of
Table 9-9. -/
def PlyState.runBytes (ps : PlyState) : List Byte :=
  match ps.run with
  | none => List.replicate 14 0
  | some v =>
    yesNo true ++ be 2 v.window ++ be 2 v.allowance ++ be 2 v.guardLimit ++ trimBytes v.trim
    ++ yesNo ps.head.pendingTrim.isSome ++ trimBytes (ps.head.pendingTrim.getD 0)

/-- The live state of a Position Unit: bytes 38 to 52 of Table 9-9. A splice watch above 4294967295, which
R69 sets too, does not fit its 4 bytes and is sent modulo 2^32 (DESIGN CHOICE, unsafe, log 10). -/
def PositionUnit.bytes (u : PositionUnit) : List Byte :=
  be 2 u.position ++ be 2 u.owed ++ be 1 u.registration.code ++ be 4 u.headSlot
  ++ yesNo u.markTaken ++ optional u.spliceWatch 4

/-- The slot and stamp of the head image, zero where there is none (Table 9-9). -/
def Load.imageBytes : Load → List Byte
  | .empty => be 4 0 ++ [0]
  | .loading img => be 4 img.slot ++ [img.stamp]
  | .loaded img => be 4 img.slot ++ [img.stamp]

/-- The head's state: bytes 53 to 60 of Table 9-9. -/
def HeadController.bytes (h : HeadController) : List Byte :=
  be 1 h.load.code ++ h.load.imageBytes ++ be 1 h.queue.length ++ yesNo h.inhibit

/-- A fault capture: bytes 63 to 71 of Table 9-9. -/
def captureBytes : Option Capture → List Byte
  | none => List.replicate 9 0
  | some c =>
    yesNo true ++ be 1 c.kind.code ++ be 4 c.index ++ be 2 c.position ++ yesNo c.more

/-- The READ-PLY result (Table 9-9). -/
def PlyState.bytes (p : Ply) (ps : PlyState) : List Byte :=
  be 1 (plyNumber p) ++ ps.record.bytes ++ ps.runBytes ++ ps.unit.bytes ++ ps.head.bytes
  ++ yesNo ps.checker.synced ++ [ps.checker.expected] ++ captureBytes ps.capture

/-- The nine tallies: bytes 0 to 35 of Table 9-10. -/
def Tallies.bytes (t : Tallies) : List Byte :=
  be 4 t.retired ++ be 4 t.good ++ be 4 t.spoiled ++ be 4 t.void ++ be 4 t.blank
  ++ be 4 t.withdrawn ++ be 4 t.makeupGood ++ be 4 t.skipped ++ be 4 t.rollbacks

/-- The last-marriage record: bytes 36 to 56 of Table 9-10. -/
def lastMarriageBytes : Option LastMarriage → List Byte
  | none => List.replicate 21 0
  | some m =>
    yesNo true ++ be 4 m.index ++ be 1 m.outcome.code
    ++ (match m.binding with
      | none => List.replicate 13 0
      | some b => yesNo true ++ b.bytes ++ yesNo b.makeup)
    ++ (match m.spoil with
      | none => List.replicate 2 0
      | some k => k.bytes)

/-- The fields of Table 2-2 in its order: state, segment, pass, next value, issued count, batch flag,
resume value. The next value is absent in EXHAUSTED and the resume value outside it, which the
state's code says (log 12). -/
def cursorBytes (c : Option Cursor) (batch : Bool) : List Byte :=
  match c with
  | none => be 1 0 ++ be 1 0 ++ be 2 0 ++ be 3 0 ++ be 3 0 ++ yesNo batch ++ be 3 0
  | some c =>
    be 1 c.state.code ++ be 1 c.segment ++ be 2 c.pass
    ++ be 3 (if c.state = .exhausted then 0 else c.next) ++ be 3 c.issued ++ yesNo batch
    ++ be 3 (if c.state = .exhausted then c.next else 0)

/-- The cursor's next value, absent (zero) in EXHAUSTED and where there is no cursor. -/
def cursorNext (c : Option Cursor) : Nat :=
  match c with
  | none => 0
  | some c => if c.state = .exhausted then 0 else c.next

/-- A block table entry: state, base, direction, count (R27). -/
def blockBytes : Option Block → List Byte
  | none => List.replicate 9 0
  | some b => be 1 1 ++ be 5 b.base ++ be 1 b.dir.code ++ be 2 b.count

/-- A prefix: its length and four character positions, the unused ones zero (section 9.5). -/
def prefixBytes (t : List Byte) : List Byte :=
  be 1 t.length ++ t ++ List.replicate (4 - t.length) 0

/-- The fields of a layout record after its prefix, in the order of Table 2-1 (R34). -/
def Layout.fieldBytes (l : Layout) : List Byte :=
  be 1 l.width ++ be 1 l.fill.code ++ be 1 l.check.code
  ++ yesNo l.separator.isSome ++ [l.separator.getD 0] ++ be 1 l.check.tenRuleCode
  ++ yesNo l.phaseB.isSome ++ be 2 l.phaseA ++ be 2 (l.phaseB.getD 0)
  ++ be 1 (maskByte l.maskA) ++ be 1 (maskByte l.maskB) ++ be 1 l.tolerance ++ be 1 l.overflow.code

/-- EMPTY or a layout record in the fixed layout that SET-LAYOUT gives it (R34, section 9.5). -/
def layoutBytes : Option Layout → List Byte
  | none => List.replicate 21 0
  | some l => be 1 1 ++ prefixBytes l.prefixText ++ l.fieldBytes

/-- READ-LAYOUT (R35): EMPTY or the layout record, its prefix a length byte and its characters, as R176
sends text of varying length. The order of the fields, and an EMPTY layout sent as zeros with an empty
prefix, are log 39. -/
def layoutResult : Option Layout → List Byte
  | none => List.replicate 17 0
  | some l => be 1 1 ++ textBytes l.prefixText ++ l.fieldBytes

/-- A next segment, END as FFH: section 9.5 says so of SET-SEGMENT, and the model sends it so in
READ-SEGMENT and SEGMENT-PAUSE too (DEDUCED, unsafe, log 55). -/
def nextSegmentByte (n : Option Nat) : Nat := n.getD 255

/-- EMPTY or a segment record: state, layout, quantity, start, end action, next (R144). -/
def segmentBytes : Option Segment → List Byte
  | none => List.replicate 11 0
  | some g =>
    be 1 1 ++ be 1 g.layout ++ be 3 g.quantity ++ optional g.start 3 ++ be 1 g.endAction.code
    ++ be 1 (nextSegmentByte g.next)

/-- A make-up list entry with the printed serial its value would carry (R138). -/
def State.makeupBytes (s : State) (e : MakeupEntry) : List Byte :=
  be 3 e.value ++ be 1 e.segment ++ be 2 e.pass ++ optional e.origin 4
  ++ be 5 ((s.serialIn e.segment e.value).getD 0)

/-- A link's rate, discard counters and notice count (R170). -/
def LinkState.bytes (k : LinkState) : List Byte :=
  rateBytes k.rate ++ be 2 k.counters.length ++ be 2 k.counters.gap ++ be 2 k.counters.crc
  ++ be 2 k.counters.overrun ++ [k.noticeCount]

/-! ## Notices (Table 9-5) -/

/-- The KIND of a notice (Table 9-5). -/
def Notice.kind : Notice → Byte
  | .runState _ _ _ => 0xC0
  | .spoil _ _ _ _ => 0xC1
  | .rollback _ _ _ _ => 0xC2
  | .skipInsert _ _ _ => 0xC3
  | .plyFault _ _ _ _ => 0xC4
  | .segmentPause _ _ _ _ => 0xC5
  | .segmentDone _ _ _ => 0xC6
  | .stray _ _ _ => 0xC7
  | .exhausted _ => 0xC8
  | .makeupHigh _ _ => 0xC9
  | .control _ _ _ => 0xCA
  | .runEnd _ _ _ _ _ => 0xCB
  | .restarted _ _ _ _ => 0xCC

/-- The numbers of slots a rewind made VOID, SKIP and OPEN (log 11). -/
def RewindCounts.slotBytes (c : RewindCounts) : List Byte :=
  be 1 c.voided ++ be 1 c.skipped ++ be 1 c.opened

/-- The numbers of list entries a rewind returned, did not add and removed (log 11). -/
def RewindCounts.listBytes (c : RewindCounts) : List Byte :=
  be 2 c.returned ++ be 2 c.notAdded ++ be 2 c.removed

/-- The sequence number a STRAY notice carries, zero for FORMAT (R107). -/
def StrayCause.seq : StrayCause → Byte
  | .old q => q | .unmatched q => q | .format => 0

/-- What a SKIP-INSERT notice carries of the binding undone (R134, R135): its presence, the value,
segment and Make-up flag, the slots changed, the numbers of values returned to the list, not added
and removed from it, the cursor's next value and state. That the values are counted, and where the
count of R135 stands, is assumption log 48. The next value is absent while the cursor is EXHAUSTED, which
a make-up target that restores no cursor leaves so; it is sent as zeros with no presence byte, though the
state stands after it (DEDUCED, unsafe, log 12). -/
def undoneBytes : Option (Binding × RewindCounts × Option Cursor) → List Byte
  | none => List.replicate 19 0
  | some (b, c, cur) =>
    yesNo true ++ be 3 b.value ++ be 1 b.segment ++ yesNo b.makeup ++ c.slotBytes
    ++ c.listBytes ++ be 3 (cursorNext cur) ++ be 1 (cursorCode cur)

/-- What a PLY-FAULT notice carries of a force-retired slot: its presence, the disposition and
whether it was touched (R158). -/
def retiredBytes : Option (Disposition × Bool) → List Byte
  | none => List.replicate 3 0
  | some (d, touched) => yesNo true ++ be 1 d.code ++ yesNo touched

/-- The payload of a notice: what its rule names, in the order it names it (R176). PLY-FAULT sends 01H
for a fault recorded first and 00H for a further one, which no text settles (DESIGN CHOICE, unsafe,
log 50). The first slot of a rewind above slot 4294967295 is sent modulo 2^32 (log 10). -/
def Notice.payload : Notice → List Byte
  | .runState st causes drain => be 1 st.code ++ be 1 causes.byte ++ be 1 (drainCode drain)
  | .spoil j m b a => be 4 j ++ m.bytes ++ b.bytes ++ yesNo b.makeup ++ be 1 a.code
  | .rollback j m c cur =>
    be 4 j ++ m.bytes ++ be 4 (j + 1) ++ c.slotBytes ++ c.listBytes
    ++ be 3 (cursorNext cur) ++ be 1 (cursorCode cur)
  | .skipInsert p j u => be 1 (plyNumber p) ++ be 4 j ++ undoneBytes u
  | .plyFault p r first inhibited =>
    be 1 (plyNumber p) ++ be 1 r.kind.code ++ be 4 r.index ++ be 2 r.position
    ++ [r.cause.getD 0] ++ retiredBytes r.retired ++ yesNo first ++ yesNo inhibited
  | .segmentPause seg pass next cause =>
    be 1 seg ++ be 2 pass ++ be 1 (nextSegmentByte next) ++ be 1 cause.code
  | .segmentDone j b o =>
    be 1 b.segment ++ be 2 b.pass ++ be 4 j ++ be 3 b.value ++ be 5 b.serial ++ be 1 o.code
  | .stray p cause expected => be 1 (plyNumber p) ++ be 1 cause.code ++ [cause.seq] ++ [expected]
  | .exhausted r => be 3 r
  | .makeupHigh n batch => be 2 n ++ yesNo batch
  | .control new old l => be 1 new.code ++ be 1 old.code ++ be 1 (linkCode l)
  | .runEnd way t c batch n => be 1 way.code ++ t.bytes ++ cursorBytes c batch ++ be 2 n
  | .restarted cause fw rp rs =>
    be 1 cause.code ++ [fw.1, fw.2] ++ rateBytes rp ++ rateBytes rs

/-! ## Replies (R167) -/

/-- The KIND of a reply: DONE 80H, REFUSED 81H (R164). -/
def Answer.kind : Answer → Byte
  | .done _ => 0x80
  | .refused _ _ _ => 0x81

/-- The payload of a reply: DONE carries the KIND of the request and the result, REFUSED that KIND,
the reason and two detail bytes (R167). -/
def Reply.payload (r : Reply) : List Byte :=
  match r.answer with
  | .done result => r.kind :: result
  | .refused reason d1 d2 => [r.kind, reason.code, d1, d2]

/-! ## Frames (R164) -/

/-- One bit of the CRC: shifted left, with the polynomial 1021H where a 1 leaves (R164). -/
def crcBit (c : BitVec 16) : BitVec 16 :=
  if c.msb then (c <<< 1) ^^^ 0x1021#16 else c <<< 1

/-- One byte taken into the CRC, high bit first (R164). -/
def crcByte (c : BitVec 16) (b : Byte) : BitVec 16 :=
  crcBit (crcBit (crcBit (crcBit (crcBit (crcBit (crcBit (crcBit
    (c ^^^ (b.setWidth 16 <<< 8)))))))))

/-- R164: the CRC of bytes, with initial value FFFFH, no reflection and no final inversion. -/
def crc (bytes : List Byte) : BitVec 16 := bytes.foldl crcByte 0xFFFF#16

/-- The bytes a CRC is computed over: LEN, KIND, TAG and the payload (R164). -/
def frameBody (kind tag : Byte) (payload : List Byte) : List Byte :=
  BitVec.ofNat 8 payload.length :: kind :: tag :: payload

/-- The two bytes of a CRC, high byte first (R164). -/
def crcBytes (c : BitVec 16) : List Byte := [(c >>> 8).setWidth 8, c.setWidth 8]

/-- R164: a frame: SYNC 5AH, LEN, KIND, TAG, the payload, the CRC. -/
def frame (kind tag : Byte) (payload : List Byte) : List Byte :=
  0x5A :: (frameBody kind tag payload ++ crcBytes (crc (frameBody kind tag payload)))

end Sys2Proof.Machine
end

