-- ==== Sys2Proof/Machine/Operands.lean ====
section
/-! DEFINITION. The operands of requests: Table 9-2, and the payload of each request decoded field by
field (R176). A decoder answers none where the request is refused with BAD_FIELD. The padding of a
payload, sent as zero, is not looked at (assumption log 17). -/

namespace Sys2Proof.Machine

/-! ## Table 9-2 -/

/-- The KIND of a request (Table 9-2). -/
def requestCode : Request → Byte
  | .identify => 0x10 | .readStatus => 0x11 | .readPly => 0x12 | .readSlots => 0x13
  | .readTally => 0x14 | .readCursor => 0x15 | .readMakeups => 0x16 | .readBlock => 0x17
  | .readLayout => 0x18 | .readSegment => 0x19 | .readLink => 0x1A
  | .takeControl => 0x20 | .releaseControl => 0x21
  | .setPly => 0x30 | .setLayout => 0x31 | .setBlock => 0x32 | .setSegment => 0x33
  | .setTrim => 0x34 | .clearMakeups => 0x35
  | .startRun => 0x40 | .hold => 0x41 | .release => 0x42 | .continueRun => 0x43 | .endRun => 0x44
  | .abortRun => 0x45 | .runMakeups => 0x46 | .clearFault => 0x47 | .withdrawSet => 0x48
  | .restart => 0x4F

/-- The payload length of a request (Table 9-2). -/
def requestLength : Request → Nat
  | .identify => 0 | .readStatus => 0 | .readPly => 1 | .readSlots => 5 | .readTally => 0
  | .readCursor => 0 | .readMakeups => 2 | .readBlock => 1 | .readLayout => 1 | .readSegment => 1
  | .readLink => 0 | .takeControl => 0 | .releaseControl => 0
  | .setPly => 24 | .setLayout => 22 | .setBlock => 10 | .setSegment => 12 | .setTrim => 4
  | .clearMakeups => 0
  | .startRun => 10 | .hold => 0 | .release => 0 | .continueRun => 0 | .endRun => 0
  | .abortRun => 0 | .runMakeups => 0 | .clearFault => 1 | .withdrawSet => 4 | .restart => 0

/-- Whether Table 9-2 marks a request as needing control. -/
def needsControl : Request → Bool
  | .identify => false | .readStatus => false | .readPly => false | .readSlots => false
  | .readTally => false | .readCursor => false | .readMakeups => false | .readBlock => false
  | .readLayout => false | .readSegment => false | .readLink => false
  | .takeControl => false | .releaseControl => false
  | .setPly => true | .setLayout => true | .setBlock => true | .setSegment => true
  | .setTrim => true | .clearMakeups => true
  | .startRun => true | .hold => true | .release => true | .continueRun => true | .endRun => true
  | .abortRun => true | .runMakeups => true | .clearFault => true | .withdrawSet => true
  | .restart => true

/-- The 29 requests in the order of Table 9-2. -/
def requestOrder : List Request :=
  [.identify, .readStatus, .readPly, .readSlots, .readTally, .readCursor, .readMakeups, .readBlock,
   .readLayout, .readSegment, .readLink, .takeControl, .releaseControl, .setPly, .setLayout,
   .setBlock, .setSegment, .setTrim, .clearMakeups, .startRun, .hold, .release, .continueRun,
   .endRun, .abortRun, .runMakeups, .clearFault, .withdrawSet, .restart]

/-- The request of a KIND, where Table 9-2 has one. -/
def requestOfCode (kind : Byte) : Option Request :=
  requestOrder.find? fun r => decide (requestCode r = kind)

/-! ## Fields -/

/-- The number that the `len` bytes from offset `off` of a payload spell. -/
def field (payload : List Byte) (off len : Nat) : Nat := beNat ((payload.drop off).take len)

/-- A number where it lies in `lo..hi`. -/
def inRange (lo hi n : Nat) : Option Nat := if lo ≤ n ∧ n ≤ hi then some n else none

/-- A condition that a payload must meet. -/
def require (c : Bool) : Option Unit := if c then some () else none

/-- A yes/no field or a presence byte: 01H or 00H (R176). -/
def yesNoOf : Nat → Option Bool
  | 0 => some false | 1 => some true | _ => none

/-- Codes of Table 9-6, each where it is defined. -/
def sourceOf : Nat → Option PositionSource
  | 0 => some .line | 1 => some .web | _ => none

def headClassOf : Nat → Option HeadClass
  | 0 => some .narrow | 1 => some .wide | _ => none

def directionOf : Nat → Option Direction
  | 0 => some .asc | 1 => some .desc | _ => none

def fillOf : Nat → Option Fill
  | 0 => some .zero | 1 => some .space | _ => none

def overflowOf : Nat → Option Overflow
  | 0 => some .roll | 1 => some .stop | _ => none

def endActionOf : Nat → Option EndAction
  | 0 => some .carryOn | 1 => some .pause | _ => none

def policyOf : Nat → Option Policy
  | 1 => some .rollback | 2 => some .defer | _ => none

def faultActionOf : Nat → Option FaultAction
  | 0 => some .spoil | 1 => some .hold | _ => none

def endMakeupsOf : Nat → Option EndMakeups
  | 1 => some .auto | 2 => some .manual | _ => none

/-- A check method with its ten-rule: a ten-rule with MOD11W, and with it only (R34). -/
def checkOf : Nat → Nat → Option CheckMethod
  | 0, 0 => some .none
  | 1, 0 => some .mod10w31
  | 2, 1 => some (.mod11w .x)
  | 2, 2 => some (.mod11w .skip)
  | 3, 0 => some .mod7r
  | _, _ => none

/-- A set of fault kinds: bits 0 to 4 (Table 9-6). Bits 5 to 7 are no kind (log 16). -/
def inhibitOf (n : Nat) : Option InhibitSet :=
  if n < 32 then
    some ⟨n.testBit 0, n.testBit 1, n.testBit 2, n.testBit 3, n.testBit 4⟩
  else none

/-- A ply mask: bit p for ply Pp (Table 9-6). Bits 6 and 7 are no ply (log 16). -/
def maskOf (n : Nat) : Option (PerPly Bool) :=
  if n < 64 then
    some ⟨n.testBit 0, n.testBit 1, n.testBit 2, n.testBit 3, n.testBit 4, n.testBit 5⟩
  else none

/-- A trim of −65 535..65 535 counts from its 3 bytes (R83, Table 3-1). -/
def trimInRange (n : Nat) : Option Int :=
  if -65535 ≤ trimOf n ∧ trimOf n ≤ 65535 then some (trimOf n) else none

/-- The prefix set: 0-9, A-Z, space, hyphen, solidus, number sign, full stop (Table 2-1). -/
def inPrefixSet (c : Byte) : Bool :=
  (decide (0x30 ≤ c.toNat) && decide (c.toNat ≤ 0x39))
  || (decide (0x41 ≤ c.toNat) && decide (c.toNat ≤ 0x5A))
  || decide (c.toNat = 0x20) || decide (c.toNat = 0x2D) || decide (c.toNat = 0x2F)
  || decide (c.toNat = 0x23) || decide (c.toNat = 0x2E)

/-- A field given by a presence byte: absent, or the number where it lies in 0..hi. -/
def optionalOf (present n hi : Nat) : Option (Option Nat) :=
  match present with
  | 0 => some none
  | 1 => (inRange 0 hi n).map some
  | _ => none

/-! ## SET-PLY (R52) -/

/-- R52: the fields that are limited as they are stored. -/
def PlyRecord.limited (r : PlyRecord) : PlyRecord :=
  { r with
    markWindow := max 1 r.markWindow
    guardLimit := min r.guardLimit 4095
    loadTimeout := min (max 1 r.loadTimeout) 250 }

/-- The stored record of bytes 1 to 23 of Table 9-9, as sent (R52). K is tested whether or not a
sensor is present. -/
def decodeRecord (pl : List Byte) : Option PlyRecord := do
  let active ← yesNoOf (field pl 0 1)
  let source ← sourceOf (field pl 1 1)
  let d ← inRange 1 120 (field pl 2 1)
  let v ← inRange 0 119 (field pl 3 1)
  let sensor ← yesNoOf (field pl 4 1)
  let k ← inRange 0 15 (field pl 5 1)
  let headClass ← headClassOf (field pl 12 1)
  let pitch ← inRange 1 65535 (field pl 13 2)
  let inhibits ← inhibitOf (field pl 19 1)
  let trim ← trimInRange (field pl 20 3)
  pure {
    active := active
    source := source
    pathLength := d
    readerDistance := v
    splice := if sensor then some k else none
    markPhase := field pl 6 2
    markWindow := field pl 8 2
    reverseAllowance := field pl 10 2
    headClass := headClass
    splitPitch := pitch
    guardLimit := field pl 15 2
    loadTimeout := field pl 17 2
    inhibitSet := inhibits
    trim := trim }

/-- SET-PLY: the ply and the record as it is to be stored (R52). -/
def decodeSetPly (pl : List Byte) : Option (Ply × PlyRecord) := do
  let p ← plyOfNumber (field pl 0 1)
  let r ← decodeRecord (pl.drop 1)
  pure (p, r.limited)

/-! ## SET-BLOCK (R27) -/

/-- A block table entry: ABSENT, or VALID with its base, direction and count (R27). -/
def decodeBlock (pl : List Byte) : Option (Option Block) :=
  match field pl 0 1 with
  | 0 => some none
  | 1 => do
    let base ← inRange 0 9999999999 (field pl 1 5)
    let dir ← directionOf (field pl 6 1)
    let count ← inRange 1 Config.blockSize (field pl 7 2)
    pure (some ⟨base, dir, count⟩)
  | _ => none

/-- SET-BLOCK: the index and the entry (R27). -/
def decodeSetBlock (pl : List Byte) : Option (Nat × Option Block) := do
  let i ← inRange 0 63 (field pl 0 1)
  let b ← decodeBlock (pl.drop 1)
  pure (i, b)

/-! ## SET-LAYOUT (R34) -/

/-- A prefix: a length of 0..4 and its characters from the prefix set (R34). -/
def decodePrefix (pl : List Byte) : Option (List Byte) := do
  let n ← inRange 0 4 (field pl 0 1)
  let chars := (pl.drop 1).take n
  require (chars.all inPrefixSet)
  pure chars

/-- A separator: absent, or a character of the prefix set with a check method other than NONE
(R34). -/
def decodeSeparator (present char : Nat) (check : CheckMethod) : Option (Option Byte) :=
  match present with
  | 0 => some none
  | 1 => do
    require (decide (check ≠ .none) && inPrefixSet (BitVec.ofNat 8 char))
    pure (some (BitVec.ofNat 8 char))
  | _ => none

/-- Phase B: given with field B PRESENT, and with it only (R34). -/
def decodePhaseB (present phase : Nat) : Option (Option Nat) :=
  match present with
  | 0 => if phase = 0 then some none else none
  | 1 => some (some phase)
  | _ => none

/-- Whether a ply mask holds no ply. -/
def maskEmpty (m : PerPly Bool) : Bool := decide (maskByte m = 0)

/-- The fields of a layout record in the order of Table 2-1 (R34). -/
def decodeLayoutRecord (pl : List Byte) : Option Layout := do
  let prefixText ← decodePrefix pl
  let width ← inRange 1 10 (field pl 5 1)
  let fill ← fillOf (field pl 6 1)
  let check ← checkOf (field pl 7 1) (field pl 10 1)
  let separator ← decodeSeparator (field pl 8 1) (field pl 9 1) check
  let phaseB ← decodePhaseB (field pl 11 1) (field pl 14 2)
  let maskA ← maskOf (field pl 16 1)
  let maskB ← maskOf (field pl 17 1)
  require (phaseB.isSome || maskEmpty maskB)
  require (!(maskEmpty maskA && maskEmpty maskB))
  let overflow ← overflowOf (field pl 19 1)
  pure {
    prefixText := prefixText
    width := width
    fill := fill
    check := check
    separator := separator
    phaseA := field pl 12 2
    phaseB := phaseB
    maskA := maskA
    maskB := maskB
    tolerance := field pl 18 1
    overflow := overflow }

/-- A layout table entry: EMPTY, or DEFINED with its record (R34). -/
def decodeLayout (pl : List Byte) : Option (Option Layout) :=
  match field pl 0 1 with
  | 0 => some none
  | 1 => (decodeLayoutRecord (pl.drop 1)).map some
  | _ => none

/-- SET-LAYOUT: the index and the entry (R34). -/
def decodeSetLayout (pl : List Byte) : Option (Nat × Option Layout) := do
  let i ← inRange 0 7 (field pl 0 1)
  let lay ← decodeLayout (pl.drop 1)
  pure (i, lay)

/-! ## SET-SEGMENT (R145) -/

/-- A next segment: 0..31, or END as FFH. -/
def nextSegmentOf (n : Nat) : Option (Option Nat) :=
  if n = 255 then some none else (inRange 0 31 n).map some

/-- A segment table entry: EMPTY, or DEFINED with its record (R145). -/
def decodeSegment (pl : List Byte) : Option (Option Segment) :=
  match field pl 0 1 with
  | 0 => some none
  | 1 => do
    let layout ← inRange 0 7 (field pl 1 1)
    let quantity ← inRange 1 16777215 (field pl 2 3)
    let start ← optionalOf (field pl 5 1) (field pl 6 3) 1048575
    let endAction ← endActionOf (field pl 9 1)
    let next ← nextSegmentOf (field pl 10 1)
    pure (some ⟨layout, quantity, start, endAction, next⟩)
  | _ => none

/-- SET-SEGMENT: the index and the entry (R145). -/
def decodeSetSegment (pl : List Byte) : Option (Nat × Option Segment) := do
  let i ← inRange 0 31 (field pl 0 1)
  let g ← decodeSegment (pl.drop 1)
  pure (i, g)

/-! ## The other requests -/

/-- SET-TRIM: a ply and a trim (R83). -/
def decodeSetTrim (pl : List Byte) : Option (Ply × Int) := do
  let p ← plyOfNumber (field pl 0 1)
  let t ← trimInRange (field pl 1 3)
  pure (p, t)

/-- READ-PLY and CLEAR-FAULT: a ply (R53, R160). -/
def decodePly (pl : List Byte) : Option Ply := plyOfNumber (field pl 0 1)

/-- READ-BLOCK, READ-LAYOUT, READ-SEGMENT: a table index up to `hi` (log 15). -/
def decodeIndex (hi : Nat) (pl : List Byte) : Option Nat := inRange 0 hi (field pl 0 1)

/-- READ-SLOTS: a first set index and a count of 1..8 (R25, R171). -/
def decodeReadSlots (pl : List Byte) : Option (Nat × Nat) :=
  (inRange 1 8 (field pl 4 1)).map fun n => (field pl 0 4, n)

/-- READ-MAKEUPS: a position 0..255 and a count 1..14 (R138). -/
def decodeReadMakeups (pl : List Byte) : Option (Nat × Nat) :=
  (inRange 1 14 (field pl 1 1)).map fun n => (field pl 0 1, n)

/-- WITHDRAW-SET: a sequence value 0..1 048 575 and a segment 0..31 (R139). -/
def decodeWithdraw (pl : List Byte) : Option (Nat × Nat) := do
  let v ← inRange 0 1048575 (field pl 0 3)
  let g ← inRange 0 31 (field pl 3 1)
  pure (v, g)

/-- What START-RUN carries (R149). `start` absent is CONTINUE-from-cursor. -/
structure StartRequest where
  segment : Nat
  cutoff : Nat
  policy : Policy
  faultAction : FaultAction
  start : Option Nat
  endMakeups : EndMakeups
deriving DecidableEq, Repr

/-- START-RUN (R149). -/
def decodeStartRun (pl : List Byte) : Option StartRequest := do
  let segment ← inRange 0 31 (field pl 0 1)
  let cutoff ← inRange 256 65535 (field pl 1 2)
  let policy ← policyOf (field pl 3 1)
  let faultAction ← faultActionOf (field pl 4 1)
  let start ← optionalOf (field pl 5 1) (field pl 6 3) 1048575
  let endMakeups ← endMakeupsOf (field pl 9 1)
  pure ⟨segment, cutoff, policy, faultAction, start, endMakeups⟩

/-- The payload of a START-RUN (R149). -/
def StartRequest.bytes (q : StartRequest) : List Byte :=
  be 1 q.segment ++ be 2 q.cutoff ++ be 1 (policyCode (some q.policy)) ++ be 1 q.faultAction.code
  ++ optional q.start 3 ++ be 1 (endMakeupsCode (some q.endMakeups))

end Sys2Proof.Machine
end

