-- ==== Sys2Proof/Machine/Starting.lean ====
section
/-! DEFINITION. Starting a run: the checks of R149 and the effects of R150. -/

namespace Sys2Proof.Machine

/-! ## Run values (R54) -/

/-- R54: a trim limited to −(C−1)..C−1. -/
def limitTrim (t : Int) (c : Nat) : Int := max (-((c : Int) - 1)) (min t ((c : Int) - 1))

/-- R54: the values in force during a run under a cutoff C. -/
def PlyRecord.runValues (r : PlyRecord) (c : Nat) : RunValues where
  window := min r.markWindow (c / 8)
  allowance := min r.reverseAllowance (c / 2)
  guardLimit := min r.guardLimit (c / 4)
  trim := limitTrim r.trim c

/-! ## The checks of R55 -/

/-- The layouts of segments, where segment and layout are DEFINED. -/
def State.layoutsOf (s : State) (segs : List Nat) : List Layout := segs.filterMap s.segmentLayout

/-- R55 check 1: V is 0 or lies below D. -/
def PlyRecord.readerFits (r : PlyRecord) : Bool :=
  decide (r.readerDistance = 0) || decide (r.readerDistance < r.pathLength)

/-- R55 check 2: with a splice sensor, D + K is at most 120. -/
def PlyRecord.spliceFits (r : PlyRecord) : Bool :=
  match r.splice with
  | some k => decide (r.pathLength + k ≤ 120)
  | none => true

/-- R55 check 3: E lies in Wm..C−1−Wm, with Wm the window in force. -/
def PlyRecord.markFits (r : PlyRecord) (c : Nat) : Bool :=
  decide ((r.runValues c).window ≤ r.markPhase)
  && decide (r.markPhase + (r.runValues c).window + 1 ≤ c)

/-- R55 check 4: S is at most C div 4. -/
def PlyRecord.pitchFits (r : PlyRecord) (c : Nat) : Bool := decide (r.splitPitch ≤ c / 4)

/-- R55: the number of the first check a ply fails, in a run under cutoff C that reaches these
layouts. R55 does not say which of several failed checks is named; the model names the lowest-numbered
(DEDUCED, unsafe, log 49). -/
def PlyRecord.failedCheck (r : PlyRecord) (p : Ply) (c : Nat) (lays : List Layout) : Option Nat :=
  if !r.readerFits then some 1
  else if !r.spliceFits then some 2
  else if !r.markFits c then some 3
  else if !r.pitchFits c then some 4
  else if !lays.all (fun lay => lay.phasesFit c) then some 5
  else if !lays.all (fun lay => lay.splitsFit p r c) then some 6
  else none

/-! ## The checks of R149 -/

/-- R149 check 2: the segments reached from one, followed until END or a segment already reached,
and the first of them that is EMPTY. There are 32 segments, so fuel for 33 is enough. -/
def State.reached (s : State) : Nat → List Nat → Nat → List Nat × Option Nat
  | 0, seen, _ => (seen, none)
  | fuel + 1, seen, i =>
    if seen.contains i then (seen, none)
    else match s.segment i with
      | none => (seen, some i)
      | some g => match g.next with
        | none => (seen ++ [i], none)
        | some k => State.reached s fuel (seen ++ [i]) k

/-- The layout index of the first segment whose layout is EMPTY (R149 check 3). -/
def State.emptyLayout (s : State) (segs : List Nat) : Option Nat :=
  segs.findSome? fun i => (s.segment i).bind fun g =>
    if (s.layout g.layout).isNone then some g.layout else none

/-- The first segment with an explicit start whose block is ABSENT (R149 check 4). -/
def State.badStart (s : State) (segs : List Nat) : Option Nat :=
  segs.find? fun i => match (s.segment i).bind (·.start) with
    | some v => (s.block (v / Config.blockSize)).isNone
    | none => false

/-- The first active ply that fails a check of R55, and the check (R149 check 5). -/
def State.badPly (s : State) (c : Nat) (segs : List Nat) : Option (Ply × Nat) :=
  s.activePlies.findSome? fun p =>
    ((s.ply p).record.failedCheck p c (s.layoutsOf segs)).map fun n => (p, n)

/-- R149: the candidate of check 6: the explicit start of the request; or where the cursor stands;
or, where there is none, the first segment's start field, a CONTINUE there being 0. -/
def State.startCandidate (s : State) (q : StartRequest) : Nat :=
  match q.start with
  | some v => v
  | none => match s.cursor with
    | some c => c.next
    | none => ((s.segment q.segment).bind (·.start)).getD 0

/-- How the checks of R149 come out: the two detail bytes of a CONFIG refusal, or the value the
cursor is placed at with the skips of its normalisation. -/
inductive StartDecision
  | config (check detail : Nat)
  | start (value skips : Nat)
deriving DecidableEq, Repr

/-- R149 check 6 (FIRST_VALUE), on a trial copy of the cursor. -/
def State.firstValue (s : State) (q : StartRequest) : StartDecision :=
  match normalise s.blocks (s.segmentLayout q.segment) (s.startCandidate q) with
  | .found v k => .start v k
  | .exhausted _ _ => .config 6 q.segment

/-- R149: the six checks in order, acting on the first that fails. The codes are those of R172;
what the second byte names is assumption log 22. -/
def State.startDecision (s : State) (q : StartRequest) : StartDecision :=
  if s.activePlies.isEmpty then .config 1 0
  else match s.reached 33 [] q.segment with
    | (_, some i) => .config 2 i
    | (segs, none) =>
      match s.emptyLayout segs, s.badStart segs, s.badPly q.cutoff segs with
      | some i, _, _ => .config 3 i
      | none, some i, _ => .config 4 i
      | none, none, some (p, n) => .config (0x20 + n) (plyNumber p)
      | none, none, none => s.firstValue q

/-! ## The effects of R150 -/

/-- R56, R72, R98, R150: a ply at START-RUN. Its fault capture and inhibit are cleared and its
checker is UNSYNCED with expected number 0; an active ply takes its start state and its run values,
and an inactive one keeps what its Position Unit held. -/
def PlyState.atStart (ps : PlyState) (c : Nat) : PlyState :=
  if ps.record.active then
    { record := ps.record
      run := some (ps.record.runValues c)
      unit := { PositionUnit.initial with registration := .search, headSlot := ps.record.pathLength }
      head := HeadController.initial
      checker := Checker.initial
      capture := none }
  else
    { ps with
      head := { ps.head with inhibit := false }
      checker := Checker.initial
      capture := none }

/-- R150: the run entered: HELD with MAKEUPS where the list kept holds 128 entries or more (R136),
and RUNNING otherwise. -/
def State.enterRun (s : State) : State :=
  if Config.makeupHigh ≤ s.makeups.length then
    { s with runState := .held, causes := HoldCauses.empty.join .makeups }
  else { s with runState := .running, causes := HoldCauses.empty }

/-- R150: every block takes its start state, with the cursor at the value check 6 found. -/
def State.startRun (s : State) (q : StartRequest) (value skips : Nat) : State :=
  let s1 : State := { s with
    params := some ⟨q.cutoff, q.segment, q.faultAction⟩
    drain := none
    runPlies := s.plies.map fun _ ps => ps.record.active
    tallies := Tallies.zero
    lastMarriage := none
    policy := some q.policy
    endMakeups := some q.endMakeups
    plies := s.plies.map fun _ ps => ps.atStart q.cutoff
    lastGranted := .p5
    cursor := some ⟨.active, q.segment, 1, value, 0⟩
    batch := false }
  (s1.buildLeadIn.countSkips skips).enterRun.notifyRunState

end Sys2Proof.Machine
end

