-- ==== Sys2Proof/Machine/Requests.lean ====
section
/-! DEFINITION. The requests of Table 9-2: the rule of each decides it, with a DONE result or a refusal
and every effect the rule states (R166 test 6). -/

namespace Sys2Proof.Machine

/-! ## Answers -/

/-- A request answered DONE with a result. -/
def done (result : List Byte) (s : State) : Answer × State := (.done result, s)

/-- A request refused with a reason, the detail bytes zero, and no effect (R172). -/
def refuse (reason : RefusalReason) (s : State) : Answer × State := (.refused reason 0 0, s)

/-- A request refused with CONFIG and its two detail bytes (R172). -/
def refuseConfig (check detail : Nat) (s : State) : Answer × State :=
  (.refused .config (BitVec.ofNat 8 check) (BitVec.ofNat 8 detail), s)

/-- A query that names an index is answered from the state, or refused with BAD_FIELD. -/
def query {α : Type} (decoded : Option α) (result : α → List Byte) (s : State) : Answer × State :=
  match decoded with
  | some a => done (result a) s
  | none => refuse .badField s

/-! ## Queries -/

/-- The codes of "FERNWAY" and "FNC-6" (R170). -/
def familyName : List Byte := [0x46, 0x45, 0x52, 0x4E, 0x57, 0x41, 0x59]
def partName : List Byte := [0x46, 0x4E, 0x43, 0x2D, 0x36]

/-- IDENTIFY (R170): the names, the firmware level (a free value, log 7), the rates in use and the
capacities, in the widths of log 11 and the order of log 12. -/
def identifyResult (s : State) : List Byte :=
  textBytes familyName ++ textBytes partName ++ [Config.firmware.1, Config.firmware.2]
  ++ rateBytes s.links.press.rate ++ rateBytes s.links.service.rate
  ++ be 1 Config.windowCapacity ++ be 2 Config.makeupCapacity ++ be 1 Config.noticeCapacity
  ++ be 1 32 ++ be 1 8 ++ be 1 64

/-- The run parameters with their presence byte, in the order of R148. -/
def paramsBytes : Option RunParams → List Byte
  | none => List.replicate 5 0
  | some q => yesNo true ++ be 2 q.cutoff ++ be 1 q.firstSegment ++ be 1 q.faultAction.code

/-- READ-STATUS (R170): what it reports to the link it came on. An output that is active and a flag that
is set are sent as 01H, the others as 00H (DEDUCED, unsafe, log 54). -/
def statusResult (l : Link) (s : State) : List Byte :=
  be 1 s.runState.code ++ be 1 s.causes.byte ++ be 1 (drainCode s.drain)
  ++ paramsBytes s.params
  ++ be 1 (policyCode s.policy) ++ be 1 (endMakeupsCode s.endMakeups)
  ++ be 1 (cursorCode s.cursor) ++ yesNo s.batch ++ be 2 s.makeups.length
  ++ yesNo s.marker ++ yesNo s.alarm
  ++ be 1 s.owner.code ++ be 1 (linkCode l)
  ++ yesNo s.withheld

/-- READ-STATUS (R170, R173): it reports the withheld flag and then clears it. -/
def State.readStatus (l : Link) (s : State) : Answer × State :=
  done (statusResult l s) { s with withheld := false }

/-- R171: the entries that fit in the room left, up to the first that does not. -/
def fitEntries : Nat → List (List Byte) → List (List Byte)
  | _, [] => []
  | room, e :: es => if e.length ≤ room then e :: fitEntries (room - e.length) es else []

/-- The entries of consecutive set indexes from a first (R25). An index above 4294967295 does not wrap
and is NOT-CREATED, lying above any top (DEDUCED, unsafe, log 53). -/
def State.slotEntries (s : State) (first count : Nat) : List (List Byte) :=
  (List.range count).map fun i => (s.lookup (first + i)).bytes s.runPlies

/-- READ-SLOTS (R25, R171): the header and the entries. The payload is at most 240 bytes, of which
the KIND takes 1 and the header 14. The top is one below the window's end, mod 2^32 (section 9.10); a
marriage slot past the last set index is sent so too (log 10). -/
def slotsResult (q : Nat × Nat) (s : State) : List Byte :=
  let entries := fitEntries (Config.maxPayload - 15) (s.slotEntries q.1 q.2)
  be 4 q.1 ++ be 1 entries.length ++ be 4 s.marriageSlot ++ be 4 (s.windowEnd + 4294967295)
  ++ be 1 (maskByte s.runPlies) ++ entries.flatten

/-- READ-TALLY (R118): the tallies and the last-marriage record (Table 9-10). -/
def tallyResult (s : State) : List Byte := s.tallies.bytes ++ lastMarriageBytes s.lastMarriage

/-- The check character of a printed serial, with its presence byte. -/
def checkBytes (v : Option Nat) : List Byte :=
  match v with
  | some v => yesNo true ++ [checkChar v]
  | none => [0, 0]

/-- R39: in ACTIVE, the printed serial and check character the next value would carry. -/
def State.nextSerialBytes (s : State) (c : Cursor) : List Byte :=
  match c.state, s.segmentLayout c.segment, s.serialIn c.segment c.next with
  | .active, some lay, some serial => be 5 serial ++ checkBytes (lay.checkValue serial)
  | _, _, _ => List.replicate 7 0

/-- READ-CURSOR (R39). -/
def cursorResult (s : State) : List Byte :=
  cursorBytes s.cursor s.batch
  ++ (match s.cursor with
    | some c => s.nextSerialBytes c
    | none => List.replicate 7 0)

/-- READ-MAKEUPS (R138): the number of entries, the batch flag, and a list of entries. -/
def makeupsResult (q : Nat × Nat) (s : State) : List Byte :=
  let entries := (s.makeups.drop q.1).take q.2
  be 2 s.makeups.length ++ yesNo s.batch ++ be 1 entries.length ++ entries.flatMap s.makeupBytes

/-- READ-LINK (R170): each link's rate, counters and notice count, PRESS before SERVICE and with no
count of links (assumption log 12). -/
def linkResult (s : State) : List Byte := s.links.press.bytes ++ s.links.service.bytes

/-! ## Control ownership (R168) -/

/-- The owner that a link becomes. -/
def ownerOf : Link → Owner
  | .press => .press | .service => .service

/-- R168: a grant: the owner becomes as given; a change queues a CONTROL notice for each link, for
PRESS first. -/
def State.grantControl (s : State) (l : Link) (new : Owner) : Answer × State :=
  if s.owner = new then done (be 1 new.code) s
  else
    let n := Notice.control new s.owner l
    done (be 1 new.code)
      (({ s with owner := new }.queueNotice n (.fixed .press)).queueNotice n (.fixed .service))

/-- TAKE-CONTROL (R168). -/
def State.takeControl (l : Link) (s : State) : Answer × State :=
  match l, s.owner with
  | .service, .press => refuse .heldByOther s
  | .service, .none => s.grantControl .service .service
  | .service, .service => s.grantControl .service .service
  | .press, .none => s.grantControl .press .press
  | .press, .press => s.grantControl .press .press
  | .press, .service => s.grantControl .press .press

/-- RELEASE-CONTROL (R168). -/
def State.releaseControl (l : Link) (s : State) : Answer × State :=
  if s.owner = ownerOf l then s.grantControl l .none else refuse .notOwner s

/-! ## Configuration -/

/-- SET-PLY (R52). -/
def State.setPly (pl : List Byte) (s : State) : Answer × State :=
  if s.inRun then refuse .wrongState s
  else match decodeSetPly pl with
    | none => refuse .badField s
    | some (p, r) => done r.bytes (s.modPly p fun ps => { ps with record := r })

/-- SET-LAYOUT (R34, R35). -/
def State.setLayout (pl : List Byte) (s : State) : Answer × State :=
  match decodeSetLayout pl with
  | none => refuse .badField s
  | some (i, lay) =>
    if (s.layout i).isSome && s.layoutInUse i then refuse .inUse s
    else done [] { s with layouts := s.layouts.setIfInBounds i lay }

/-- SET-BLOCK (R27). -/
def State.setBlock (pl : List Byte) (s : State) : Answer × State :=
  match decodeSetBlock pl with
  | none => refuse .badField s
  | some (i, b) =>
    if (s.block i).isSome && s.blockInUse i then refuse .inUse s
    else done [] { s with blocks := s.blocks.setIfInBounds i b }

/-- SET-SEGMENT (R145). -/
def State.setSegment (pl : List Byte) (s : State) : Answer × State :=
  match decodeSetSegment pl with
  | none => refuse .badField s
  | some (i, g) =>
    if (s.segment i).isSome && s.segmentInUse i then refuse .inUse s
    else done [] { s with segments := s.segments.setIfInBounds i g }

/-- R83: the pending trim that SET-TRIM gives a ply: during a run, for an active ply. -/
def State.trimPending (s : State) (p : Ply) (t : Int) : Option Int :=
  if s.inRun && s.active p then some (limitTrim t s.cutoff) else none

/-- R83: a trim written in a ply's stored record, with its pending trim where there is one. -/
def State.storeTrim (s : State) (p : Ply) (t : Int) : State :=
  s.modPly p fun ps =>
    { ps with
      record := { ps.record with trim := t }
      head := match s.trimPending p t with
        | some v => { ps.head with pendingTrim := some v }
        | none => ps.head }

/-- SET-TRIM (R83). -/
def State.setTrim (pl : List Byte) (s : State) : Answer × State :=
  match decodeSetTrim pl with
  | none => refuse .badField s
  | some (p, t) =>
    let pend := s.trimPending p t
    done (trimBytes t ++ yesNo pend.isSome ++ trimBytes (pend.getD 0)) (s.storeTrim p t)

/-- CLEAR-MAKEUPS (R140). -/
def State.clearMakeups (s : State) : Answer × State :=
  if s.inRun then refuse .wrongState s else done [] { s with makeups := [] }

/-! ## The run -/

/-- START-RUN (R149, R150). -/
def State.requestStart (pl : List Byte) (s : State) : Answer × State :=
  if s.inRun then refuse .wrongState s
  else match decodeStartRun pl with
    | none => refuse .badField s
    | some q => match s.startDecision q with
      | .config check detail => refuseConfig check detail s
      | .start value skips =>
        let s1 := s.startRun q value skips
        done (be 1 s1.runState.code) s1

/-- Whether the run is RUNNING or HELD. -/
def State.issuing (s : State) : Bool :=
  decide (s.runState = .running) || decide (s.runState = .held)

/-- HOLD (R152). -/
def State.requestHold (s : State) : Answer × State :=
  if s.issuing then
    let s1 := s.giveCause .host
    done (be 1 s1.causes.byte) s1
  else refuse .wrongState s

/-- R153 test 1: the head of some active ply is inhibited. -/
def State.faultPending (s : State) : Bool := s.activePlies.any fun p => (s.ply p).head.inhibit

/-- R153 test 3, R41: the renormalisation of an EXHAUSTED cursor at RELEASE. -/
def State.renormalise (s : State) (c : Cursor) : Answer × State :=
  match normalise s.blocks (s.segmentLayout c.segment) c.next with
  | .found v k =>
    done [] { s.countSkips k with cursor := some { c with state := .active, next := v } }.resume
  | .exhausted r k =>
    refuse .exhausted { s.countSkips k with cursor := some { c with next := r } }

/-- RELEASE (R153). -/
def State.requestRelease (s : State) : Answer × State :=
  if s.runState ≠ .held then refuse .wrongState s
  else if s.faultPending then refuse .faultPending s
  else if decide (Config.makeupHigh ≤ s.makeups.length) && !s.batch then refuse .listHigh s
  else match s.cursor with
    | none => done [] s.resume
    | some c => if c.state = .exhausted then s.renormalise c else done [] s.resume

/-- The check number of a chain step's entry check in a CONFIG refusal of CONTINUE (R172). -/
def PauseCause.checkCode : PauseCause → Nat
  | .endAction => 0 | .segmentEmpty => 7 | .layoutUnfit => 8

/-- R147: steps 2 to 4 of the chain step, from a PAUSED cursor. -/
def State.continueChain (s : State) (c : Cursor) (g : Segment) : Answer × State :=
  match s.chainDecision c g with
  | .chainEnd =>
    let s1 := s.endChain c
    done (be 1 (cursorCode s1.cursor)) s1
  | .blocked i cause => refuseConfig cause.checkCode i s
  | .enter i g' =>
    let s1 := s.enterSegment c i g' (c.pass + 1)
    done (be 1 (cursorCode s1.cursor)) s1

/-- CONTINUE (R147). The cursor's segment is in use and so DEFINED; were it EMPTY, the check of R146
would be the one that fails (assumption log 19). -/
def State.requestContinue (s : State) : Answer × State :=
  match s.issuing, s.cursor with
  | true, some c =>
    if c.state = .paused then
      match s.segment c.segment with
      | some g => s.continueChain c g
      | none => refuseConfig PauseCause.segmentEmpty.checkCode c.segment s
    else refuse .wrongState s
  | _, _ => refuse .wrongState s

/-- R155: the cursor made CLOSED. The resume value of an EXHAUSTED cursor becomes its next value. -/
def State.closeCursor (s : State) : State :=
  { s with cursor := s.cursor.map fun c => { c with state := .closed } }

/-- R155, R156: every hold cause removed, and the run DRAINING with a drain kind, which RUN-STATE
reports; the end-of-draining test follows. -/
def State.enterDraining (s : State) (k : DrainKind) : State :=
  { s with causes := HoldCauses.empty, drain := some k, runState := .draining }.notifyRunState.testEnd

/-- END-RUN (R155). -/
def State.requestEnd (s : State) : Answer × State :=
  if s.issuing then done [] (s.closeCursor.enterDraining .ended) else refuse .wrongState s

/-- R156: the slots left in the window retired without marriage, each counted in Retired and
Void. -/
def State.retireAll (s : State) : State :=
  { s with
    tallies := s.slots.foldl (fun t _ => t.retireVoid) s.tallies
    marriageSlot := s.windowEnd
    slots := [] }

/-- R156: the first ABORT-RUN. The cursor is closed before any value given back joins the list, so that
no join sets the batch flag (DEDUCED, unsafe, log 51). -/
def State.abortFirst (s : State) : Answer × State :=
  let r := s.closeCursor.voidAll
  done (be 1 r.2) (r.1.enterDraining .abort)

/-- R156: the second ABORT-RUN. -/
def State.abortSecond (s : State) : Answer × State :=
  done (be 1 s.slots.length) (s.retireAll.finishRun .abandoned)

/-- ABORT-RUN (R156). -/
def State.requestAbort (s : State) : Answer × State :=
  match s.runState, s.drain with
  | .idle, _ => refuse .wrongState s
  | .draining, some .abort => s.abortSecond
  | .draining, some .ended => s.abortFirst
  | .draining, none => s.abortFirst
  | .running, _ => s.abortFirst
  | .held, _ => s.abortFirst

/-- R154: the cause MAKEUPS removed from the set, if present; the last one removed makes a HELD run
RUNNING. -/
def State.removeMakeupsCause (s : State) : State :=
  if s.causes.makeups then
    let rest := { s.causes with makeups := false }
    if rest = HoldCauses.empty then s.resume else { s with causes := rest }.notifyRunState
  else s

/-- RUN-MAKEUPS (R154). -/
def State.requestMakeups (s : State) : Answer × State :=
  if s.issuing && !s.makeups.isEmpty then
    let s1 := { s with batch := true }.removeMakeupsCause
    done (yesNo s1.batch ++ be 1 s1.causes.byte) s1
  else refuse .wrongState s

/-- R66, R160: a ply's capture and inhibit cleared; in a run, a ply in LOST goes to SEARCH with mark
taken no. -/
def PlyState.clearFault (ps : PlyState) (inRun : Bool) : PlyState :=
  { ps with
    capture := none
    head := { ps.head with inhibit := false }
    unit := if inRun && decide (ps.unit.registration = .lost) then
        { ps.unit with registration := .search, markTaken := false }
      else ps.unit }

/-- CLEAR-FAULT (R160). -/
def State.clearFault (pl : List Byte) (s : State) : Answer × State :=
  match decodePly pl with
  | none => refuse .badField s
  | some p =>
    done (captureBytes (s.ply p).capture) (s.modPly p fun ps => ps.clearFault s.inRun)

/-- R139 test 1: the segment and its layout are DEFINED and the value is issuable under it. -/
def State.withdrawable (s : State) (v g : Nat) : Bool :=
  match s.segmentLayout g with
  | some lay => issuable s.blocks lay v
  | none => false

/-- R139 test 5: a BOUND slot of the segment that is not spoil-pending holds the value. -/
def State.inFlight (s : State) (v g : Nat) : Bool :=
  s.slots.any fun slot => slot.holdsGood && (match slot.binding with
    | some b => decide (b.value = v) && decide (b.segment = g)
    | none => false)

/-- R139: the value joins the list with the cursor's pass, or 1, and Withdrawn is raised. -/
def State.withdraw (s : State) (v g : Nat) : State :=
  let s1 := (s.joinMakeup ⟨v, g, (s.cursor.map (·.pass)).getD 1, none⟩).2
  { s1 with tallies := { s1.tallies with withdrawn := raiseTally 5 s1.tallies.withdrawn } }

/-- WITHDRAW-SET (R139). -/
def State.requestWithdraw (pl : List Byte) (s : State) : Answer × State :=
  match decodeWithdraw pl with
  | none => refuse .badField s
  | some (v, g) =>
    if !s.withdrawable v g then refuse .badField s
    else if s.tallies.good < s.tallies.withdrawn + 1 then refuse .wrongState s
    else if Config.makeupHigh ≤ s.makeups.length then refuse .listHigh s
    else if s.listed v then refuse .duplicate s
    else if s.inFlight v g then refuse .inFlight s
    else done [] (s.withdraw v g)

/-- RESTART (R174): taken in IDLE; the restart is performed when its DONE has been sent. -/
def State.requestRestart (l : Link) (s : State) : Answer × State :=
  if s.inRun then refuse .wrongState s else done [] { s with restart := .queued l }

/-! ## Taking a request (R166, R167) -/

/-- R166 test 6: the block that owns a request decides it. -/
def State.handle (r : Request) (l : Link) (pl : List Byte) (s : State) : Answer × State :=
  match r with
  | .identify => done (identifyResult s) s
  | .readStatus => s.readStatus l
  | .readPly => query (decodePly pl) (fun p => (s.ply p).bytes p) s
  | .readSlots => query (decodeReadSlots pl) (fun q => slotsResult q s) s
  | .readTally => done (tallyResult s) s
  | .readCursor => done (cursorResult s) s
  | .readMakeups => query (decodeReadMakeups pl) (fun q => makeupsResult q s) s
  | .readBlock => query (decodeIndex 63 pl) (fun i => blockBytes (s.block i)) s
  | .readLayout => query (decodeIndex 7 pl) (fun i => layoutResult (s.layout i)) s
  | .readSegment => query (decodeIndex 31 pl) (fun i => segmentBytes (s.segment i)) s
  | .readLink => done (linkResult s) s
  | .takeControl => s.takeControl l
  | .releaseControl => s.releaseControl l
  | .setPly => s.setPly pl
  | .setLayout => s.setLayout pl
  | .setBlock => s.setBlock pl
  | .setSegment => s.setSegment pl
  | .setTrim => s.setTrim pl
  | .clearMakeups => s.clearMakeups
  | .startRun => s.requestStart pl
  | .hold => s.requestHold
  | .release => s.requestRelease
  | .continueRun => s.requestContinue
  | .endRun => s.requestEnd
  | .abortRun => s.requestAbort
  | .runMakeups => s.requestMakeups
  | .clearFault => s.clearFault pl
  | .withdrawSet => s.requestWithdraw pl
  | .restart => s.requestRestart l

/-- A discard counter raised by one; it stays at 65 535 (R170). -/
def raiseCounter (n : Nat) : Nat := min (n + 1) Config.maxCounter

/-- R166 test 1: a frame discarded because its link's reply queue holds 8 replies. -/
def State.overrun (s : State) (l : Link) : State :=
  s.modLink l fun k => { k with
    counters := { k.counters with overrun := raiseCounter k.counters.overrun } }

/-- R166 test 1. -/
def State.repliesFull (s : State) (l : Link) : Bool :=
  decide (Config.replyCapacity ≤ (s.link l).replies.length)

/-- R167: a reply joins the back of its link's reply queue. -/
def State.pushReply (s : State) (l : Link) (r : Reply) : State :=
  s.modLink l fun k => { k with replies := k.replies ++ [r] }

/-- R166 tests 3 to 6. -/
def State.answer (r : Request) (l : Link) (pl : List Byte) (s : State) : Answer × State :=
  if pl.length ≠ requestLength r then refuse .badLength s
  else if s.restart ≠ .none then refuse .wrongState s
  else if needsControl r && !decide (s.owner = ownerOf l) then refuse .notOwner s
  else s.handle r l pl

/-- R166, R167: a request taken on a link: discarded for OVERRUN, or decided and answered. -/
def State.takeRequest (r : Request) (l : Link) (tag : Byte) (pl : List Byte) (s : State) : State :=
  if s.repliesFull l then s.overrun l
  else
    let a := s.answer r l pl
    a.2.pushReply l ⟨tag, requestCode r, a.1⟩

/-- R166: a complete frame taken, whatever its KIND. -/
def State.takeFrame (l : Link) (kind tag : Byte) (pl : List Byte) (s : State) : State :=
  match requestOfCode kind with
  | some r => s.takeRequest r l tag pl
  | none =>
    if s.repliesFull l then s.overrun l
    else s.pushReply l ⟨tag, kind, .refused .badKind 0 0⟩

end Sys2Proof.Machine
end

