-- ==== Sys2Proof/Machine/Links.lean ====
section
/-! DEFINITION. The Link Interface's receivers and transmitters (sections 9.1 to 9.3 and 9.7), and the
commands of the links: bytes and discards, transmissions, and one command for each request. -/

namespace Sys2Proof.Machine

/-! ## Receiving (R165) -/

/-- What the bytes taken since a frame's SYNC amount to. -/
inductive RxStatus
  | incomplete
  | tooLong
  | badCrc
  | good (kind tag : Byte) (payload : List Byte)
deriving DecidableEq, Repr

/-- R164, R165: the bytes since SYNC: LEN, KIND, TAG, LEN payload bytes, two CRC bytes. A LEN above
240 discards the frame at once. -/
def rxStatus : List Byte → RxStatus
  | [] => .incomplete
  | len :: rest =>
    if Config.maxPayload < len.toNat then .tooLong
    else if rest.length < len.toNat + 4 then .incomplete
    else
      let body := len :: rest.take (len.toNat + 2)
      if crcBytes (crc body) = rest.drop (len.toNat + 2) then
        match rest with
        | kind :: tag :: more => .good kind tag (more.take len.toNat)
        | _ => .incomplete
      else .badCrc

/-- A link's receiver set: hunting, or receiving with the bytes since SYNC. -/
def State.setRx (s : State) (l : Link) (rx : Option (List Byte)) : State :=
  s.modLink l fun k => { k with rx := rx }

/-- R165: the discards counted. -/
def State.countLength (s : State) (l : Link) : State :=
  s.modLink l fun k => { k with counters := { k.counters with length := raiseCounter k.counters.length } }

def State.countGap (s : State) (l : Link) : State :=
  s.modLink l fun k => { k with counters := { k.counters with gap := raiseCounter k.counters.gap } }

def State.countCrc (s : State) (l : Link) : State :=
  s.modLink l fun k => { k with counters := { k.counters with crc := raiseCounter k.counters.crc } }

/-- R165: bytes examined one after another. After a discard the receiver hunts again from the byte
that followed the discarded frame's SYNC, through the bytes already received. Each discard leaves
one byte fewer to examine, so fuel for the square of the number of bytes is enough. -/
def State.receive : Nat → Link → List Byte → State → State
  | 0, _, _, s => s
  | _ + 1, _, [], s => s
  | fuel + 1, l, b :: rest, s =>
    match (s.link l).rx with
    | none =>
      if b = 0x5A then State.receive fuel l rest (s.setRx l (some []))
      else State.receive fuel l rest s
    | some buf =>
      let taken := buf ++ [b]
      match rxStatus taken with
      | .incomplete => State.receive fuel l rest (s.setRx l (some taken))
      | .tooLong => State.receive fuel l (taken ++ rest) ((s.setRx l none).countLength l)
      | .badCrc => State.receive fuel l (taken ++ rest) ((s.setRx l none).countCrc l)
      | .good kind tag pl => State.receive fuel l rest ((s.setRx l none).takeFrame l kind tag pl)

/-- Fuel for the bytes a receiver holds and the bytes that follow. -/
def State.rxFuel (s : State) (l : Link) (more : Nat) : Nat :=
  ((((s.link l).rx.map List.length).getD 0) + more + 2) ^ 2

/-- R165: a character arrives. -/
def State.receiveByte (s : State) (l : Link) (b : Byte) : State :=
  State.receive (s.rxFuel l 1) l [b] s

/-- R165: the 50 ms of the inter-byte gap expire while a frame is being received. -/
def State.gapExpires (s : State) (l : Link) : State :=
  match (s.link l).rx with
  | none => s
  | some buf => State.receive (s.rxFuel l buf.length) l buf ((s.setRx l none).countGap l)

/-- R165: whether the next byte of a frame being received discards it as a status says. -/
def State.discardsAt (s : State) (l : Link) (b : Byte) (status : RxStatus) : Bool :=
  match (s.link l).rx with
  | none => false
  | some buf => decide (rxStatus (buf ++ [b]) = status)

/-! ## Sending (R164, R167, R173) -/

/-- R164: a frame's transmission begins. -/
def State.beginFrame (s : State) (l : Link) (bytes : List Byte) : State :=
  (s.modLink l fun k => { k with tx := some bytes }).emit (.frame l bytes)

/-- R174: whether a reply is the DONE of a RESTART. -/
def Reply.isRestartDone (r : Reply) : Bool :=
  match r.answer with
  | .done _ => decide (r.kind = requestCode .restart)
  | .refused _ _ _ => false

/-- R174: the DONE of the RESTART that was taken begins to be sent. -/
def RestartPhase.afterReply (ph : RestartPhase) (l : Link) (r : Reply) : RestartPhase :=
  if ph = .queued l ∧ r.isRestartDone = true then .sending l else ph

/-- R167: with the transmitter free, the front reply leaves its queue and is sent. -/
def State.transmitReply (s : State) (l : Link) : State :=
  match (s.link l).tx, (s.link l).replies with
  | none, r :: rest =>
    let s1 := s.modLink l fun k => { k with replies := rest }
    { s1 with restart := s1.restart.afterReply l r }.beginFrame l
      (frame r.answer.kind r.tag r.payload)
  | _, _ => s

/-- R173: the link a notice goes to as the owner stands. -/
def Destination.link (d : Destination) (owner : Owner) : Link :=
  match d with
  | .fixed l => l
  | .owner => match owner with
    | .service => .service
    | .press => .press
    | .none => .press

/-- R164, R173: the front notice is sent on a link: it leaves the queue, its TAG is the link's notice
count, and the count is raised. That the count is raised with each sending, the first included, so that
READ-LINK shows the TAG of the notice to be sent next, is the model's (DEDUCED, unsafe, log 52). -/
def State.sendNotice (s : State) (l : Link) (n : Notice) (rest : List QueuedNotice) : State :=
  ({ s with notices := rest }.modLink l fun k => { k with noticeCount := k.noticeCount + 1 }).beginFrame
    l (frame n.kind (s.link l).noticeCount n.payload)

/-- R167, R173: with the transmitter free and no reply waiting, the front notice is sent if it is
destined for this link. -/
def State.transmitNotice (s : State) (l : Link) : State :=
  match (s.link l).tx, (s.link l).replies, s.notices with
  | none, [], q :: rest => if q.dest.link s.owner = l then s.sendNotice l q.notice rest else s
  | _, _, _ => s

/-- R164, R174: the last byte of a frame has gone: the transmitter is free, and a RESTART whose DONE
it was may be performed. -/
def State.endFrame (s : State) (l : Link) : State :=
  match (s.link l).tx with
  | none => s
  | some _ =>
    let s1 := s.modLink l fun k => { k with tx := none }
    { s1 with restart := if s1.restart = .sending l then .sent else s1.restart }

/-! ## The commands of the receivers and transmitters -/

/-- FRAME_BYTE_RECEIVED (R165). -/
def execFrameByteReceived (l : Link) (b : Byte) (s : State) : Host.Outcome State Fault Refusal :=
  .next (s.receiveByte l b)

/-- FRAME_LENGTH_DISCARD (R165): a LEN byte above 240 arrives at a receiver that has just taken
SYNC. At any other receiver, or with any other LEN, the event does not occur (assumption log 5). -/
def execFrameLengthDiscard (l : Link) (len : Byte) (s : State) : Host.Outcome State Fault Refusal :=
  .next (if s.discardsAt l len .tooLong then s.receiveByte l len else s)

/-- FRAME_GAP_EXPIRY (R165). -/
def execFrameGapExpiry (l : Link) (s : State) : Host.Outcome State Fault Refusal :=
  .next (s.gapExpires l)

/-- FRAME_CRC_DISCARD (R165): a byte that completes a frame whose CRC differs. At any other receiver
the event does not occur (assumption log 5). -/
def execFrameCrcDiscard (l : Link) (last : Byte) (s : State) : Host.Outcome State Fault Refusal :=
  .next (if s.discardsAt l last .badCrc then s.receiveByte l last else s)

/-- BAD_KIND (R166): a complete frame with a good CRC, of a KIND that is no request. With a KIND that
is one, the frame is that request's (assumption log 6). -/
def execBadKind (l : Link) (kind tag : Byte) (payload : List Byte) (s : State) :
    Host.Outcome State Fault Refusal :=
  .next (s.takeFrame l kind tag payload)

/-- REPLY_TRANSMIT (R167). -/
def execReplyTransmit (l : Link) (s : State) : Host.Outcome State Fault Refusal :=
  .next (s.transmitReply l)

/-- NOTICE_TRANSMIT (R173). -/
def execNoticeTransmit (l : Link) (s : State) : Host.Outcome State Fault Refusal :=
  .next (s.transmitNotice l)

/-- LAST_BYTE_SENT (R164). -/
def execLastByteSent (l : Link) (s : State) : Host.Outcome State Fault Refusal :=
  .next (s.endFrame l)

/-! ## The requests: each is a complete frame of its KIND taken on a link (R166) -/

/-- IDENTIFY (R170). -/
def execIdentify (l : Link) (tag : Byte) (payload : List Byte) (s : State) :
    Host.Outcome State Fault Refusal :=
  .next (s.takeRequest .identify l tag payload)

/-- READ_STATUS (R170). -/
def execReadStatus (l : Link) (tag : Byte) (payload : List Byte) (s : State) :
    Host.Outcome State Fault Refusal :=
  .next (s.takeRequest .readStatus l tag payload)

/-- READ_PLY (R53). -/
def execReadPly (l : Link) (tag : Byte) (payload : List Byte) (s : State) :
    Host.Outcome State Fault Refusal :=
  .next (s.takeRequest .readPly l tag payload)

/-- READ_SLOTS (R25, R171). -/
def execReadSlots (l : Link) (tag : Byte) (payload : List Byte) (s : State) :
    Host.Outcome State Fault Refusal :=
  .next (s.takeRequest .readSlots l tag payload)

/-- READ_TALLY (R118). -/
def execReadTally (l : Link) (tag : Byte) (payload : List Byte) (s : State) :
    Host.Outcome State Fault Refusal :=
  .next (s.takeRequest .readTally l tag payload)

/-- READ_CURSOR (R39). -/
def execReadCursor (l : Link) (tag : Byte) (payload : List Byte) (s : State) :
    Host.Outcome State Fault Refusal :=
  .next (s.takeRequest .readCursor l tag payload)

/-- READ_MAKEUPS (R138). -/
def execReadMakeups (l : Link) (tag : Byte) (payload : List Byte) (s : State) :
    Host.Outcome State Fault Refusal :=
  .next (s.takeRequest .readMakeups l tag payload)

/-- READ_BLOCK (R27). -/
def execReadBlock (l : Link) (tag : Byte) (payload : List Byte) (s : State) :
    Host.Outcome State Fault Refusal :=
  .next (s.takeRequest .readBlock l tag payload)

/-- READ_LAYOUT (R35). -/
def execReadLayout (l : Link) (tag : Byte) (payload : List Byte) (s : State) :
    Host.Outcome State Fault Refusal :=
  .next (s.takeRequest .readLayout l tag payload)

/-- READ_SEGMENT (R144). -/
def execReadSegment (l : Link) (tag : Byte) (payload : List Byte) (s : State) :
    Host.Outcome State Fault Refusal :=
  .next (s.takeRequest .readSegment l tag payload)

/-- READ_LINK (R170). -/
def execReadLink (l : Link) (tag : Byte) (payload : List Byte) (s : State) :
    Host.Outcome State Fault Refusal :=
  .next (s.takeRequest .readLink l tag payload)

/-- TAKE_CONTROL (R168). -/
def execTakeControl (l : Link) (tag : Byte) (payload : List Byte) (s : State) :
    Host.Outcome State Fault Refusal :=
  .next (s.takeRequest .takeControl l tag payload)

/-- RELEASE_CONTROL (R168). -/
def execReleaseControl (l : Link) (tag : Byte) (payload : List Byte) (s : State) :
    Host.Outcome State Fault Refusal :=
  .next (s.takeRequest .releaseControl l tag payload)

/-- SET_PLY (R52). -/
def execSetPly (l : Link) (tag : Byte) (payload : List Byte) (s : State) :
    Host.Outcome State Fault Refusal :=
  .next (s.takeRequest .setPly l tag payload)

/-- SET_LAYOUT (R34). -/
def execSetLayout (l : Link) (tag : Byte) (payload : List Byte) (s : State) :
    Host.Outcome State Fault Refusal :=
  .next (s.takeRequest .setLayout l tag payload)

/-- SET_BLOCK (R27). -/
def execSetBlock (l : Link) (tag : Byte) (payload : List Byte) (s : State) :
    Host.Outcome State Fault Refusal :=
  .next (s.takeRequest .setBlock l tag payload)

/-- SET_SEGMENT (R145). -/
def execSetSegment (l : Link) (tag : Byte) (payload : List Byte) (s : State) :
    Host.Outcome State Fault Refusal :=
  .next (s.takeRequest .setSegment l tag payload)

/-- SET_TRIM (R83). -/
def execSetTrim (l : Link) (tag : Byte) (payload : List Byte) (s : State) :
    Host.Outcome State Fault Refusal :=
  .next (s.takeRequest .setTrim l tag payload)

/-- CLEAR_MAKEUPS (R140). -/
def execClearMakeups (l : Link) (tag : Byte) (payload : List Byte) (s : State) :
    Host.Outcome State Fault Refusal :=
  .next (s.takeRequest .clearMakeups l tag payload)

/-- START_RUN (R149). -/
def execStartRun (l : Link) (tag : Byte) (payload : List Byte) (s : State) :
    Host.Outcome State Fault Refusal :=
  .next (s.takeRequest .startRun l tag payload)

/-- HOLD (R152). -/
def execHold (l : Link) (tag : Byte) (payload : List Byte) (s : State) :
    Host.Outcome State Fault Refusal :=
  .next (s.takeRequest .hold l tag payload)

/-- RELEASE (R153). -/
def execRelease (l : Link) (tag : Byte) (payload : List Byte) (s : State) :
    Host.Outcome State Fault Refusal :=
  .next (s.takeRequest .release l tag payload)

/-- CONTINUE (R147). -/
def execContinueRun (l : Link) (tag : Byte) (payload : List Byte) (s : State) :
    Host.Outcome State Fault Refusal :=
  .next (s.takeRequest .continueRun l tag payload)

/-- END_RUN (R155). -/
def execEndRun (l : Link) (tag : Byte) (payload : List Byte) (s : State) :
    Host.Outcome State Fault Refusal :=
  .next (s.takeRequest .endRun l tag payload)

/-- ABORT_RUN (R156). -/
def execAbortRun (l : Link) (tag : Byte) (payload : List Byte) (s : State) :
    Host.Outcome State Fault Refusal :=
  .next (s.takeRequest .abortRun l tag payload)

/-- RUN_MAKEUPS (R154). -/
def execRunMakeups (l : Link) (tag : Byte) (payload : List Byte) (s : State) :
    Host.Outcome State Fault Refusal :=
  .next (s.takeRequest .runMakeups l tag payload)

/-- CLEAR_FAULT (R160). -/
def execClearFault (l : Link) (tag : Byte) (payload : List Byte) (s : State) :
    Host.Outcome State Fault Refusal :=
  .next (s.takeRequest .clearFault l tag payload)

/-- WITHDRAW_SET (R139). -/
def execWithdrawSet (l : Link) (tag : Byte) (payload : List Byte) (s : State) :
    Host.Outcome State Fault Refusal :=
  .next (s.takeRequest .withdrawSet l tag payload)

/-- RESTART (R174). -/
def execRestart (l : Link) (tag : Byte) (payload : List Byte) (s : State) :
    Host.Outcome State Fault Refusal :=
  .next (s.takeRequest .restart l tag payload)

end Sys2Proof.Machine
end

