-- ==== Sys2Proof/Machine/Reset.lean ====
section
/-! DEFINITION. Power-on and the performed RESTART (R163, R174). -/

namespace Sys2Proof.Machine

/-- R174: the RESTARTED notice, queued for PRESS, with the firmware level and the rates in use. -/
def restartedNotice (cause : RestartCause) (press service : Rate) : QueuedNotice :=
  ⟨.restarted cause Config.firmware press service, .fixed .press⟩

/-- R174: power-on: every block takes its power-on state, the links run at the rates of the straps,
and RESTARTED with cause POWER is queued. The commands still to be taken and the record of what was
sent are the model's own and stay. -/
def State.powerOn (s : State) (press service : Rate) : State :=
  { State.reset with
    links := ⟨LinkState.initial press, LinkState.initial service⟩
    notices := [restartedNotice .power press service]
    pending := s.pending
    out := s.out }

/-- R174: a link at the performed RESTART: its rate strap is read anew and its counters and notice
count are set to 0; its replies are kept, and so is what its receiver and transmitter are at
(assumption log 25). -/
def LinkState.restarted (k : LinkState) (rate : Rate) : LinkState :=
  { k with rate := rate, counters := ⟨0, 0, 0, 0⟩, noticeCount := 0 }

/-- R174: the restart is performed: the ply records, layouts, blocks, segments and make-up list are
kept, and every other state is as at power-on. -/
def State.restarted (s : State) (press service : Rate) : State :=
  { State.reset with
    plies := s.plies.map fun _ ps => { PlyState.initial with record := ps.record }
    layouts := s.layouts
    blocks := s.blocks
    segments := s.segments
    makeups := s.makeups
    links := ⟨s.links.press.restarted press, s.links.service.restarted service⟩
    notices := [restartedNotice .request press service]
    pending := s.pending
    out := s.out }

/-- POWER_ON (R174). -/
def execPowerOn (press service : Rate) (s : State) : Host.Outcome State Fault Refusal :=
  .next (s.powerOn press service)

/-- RESTART_PERFORMED (R174): the restart that was taken is performed once its DONE has been sent. With
no RESTART taken, or its DONE not yet sent, the event does not occur (assumption log 32). -/
def execRestartPerformed (press service : Rate) (s : State) : Host.Outcome State Fault Refusal :=
  .next (if s.restart = .sent then s.restarted press service else s)

end Sys2Proof.Machine
end

