-- ==== Sys2Proof/Machine/Dispatch.lean ====
section
/-! DEFINITION. Every command with its meaning: one arm per row of spec/opcode_table.json. -/

namespace Sys2Proof.Machine

/-- A command's effect on everything but the queue of commands, by the rule of its row. -/
def exec (i : Instr) (s : State) : Host.Outcome State Fault Refusal :=
  match i with
  | .powerOn a b => Sys2Proof.Machine.execPowerOn a b s
  | .forwardCount e => Sys2Proof.Machine.execForwardCount e s
  | .reverseCount e => Sys2Proof.Machine.execReverseCount e s
  | .guardExpiry p => Sys2Proof.Machine.execGuardExpiry p s
  | .markPulse p => Sys2Proof.Machine.execMarkPulse p s
  | .spliceEvent p => Sys2Proof.Machine.execSpliceEvent p s
  | .setCutoff => Sys2Proof.Machine.execSetCutoff s
  | .readerRecord p r => Sys2Proof.Machine.execReaderRecord p r s
  | .stageNextSlot p => Sys2Proof.Machine.execStageNextSlot p s
  | .renderGrant => Sys2Proof.Machine.execRenderGrant s
  | .renderCompletion => Sys2Proof.Machine.execRenderCompletion s
  | .loadStart p => Sys2Proof.Machine.execLoadStart p s
  | .accept p stamp => Sys2Proof.Machine.execAccept p stamp s
  | .reject p stamp cause => Sys2Proof.Machine.execReject p stamp cause s
  | .loadTimerExpiry p => Sys2Proof.Machine.execLoadTimerExpiry p s
  | .frameLengthDiscard l len => Sys2Proof.Machine.execFrameLengthDiscard l len s
  | .frameGapExpiry l => Sys2Proof.Machine.execFrameGapExpiry l s
  | .frameCrcDiscard l last => Sys2Proof.Machine.execFrameCrcDiscard l last s
  | .badKind l kind tag payload => Sys2Proof.Machine.execBadKind l kind tag payload s
  | .replyTransmit l => Sys2Proof.Machine.execReplyTransmit l s
  | .noticeTransmit l => Sys2Proof.Machine.execNoticeTransmit l s
  | .identify l tag payload => Sys2Proof.Machine.execIdentify l tag payload s
  | .readStatus l tag payload => Sys2Proof.Machine.execReadStatus l tag payload s
  | .readPly l tag payload => Sys2Proof.Machine.execReadPly l tag payload s
  | .readSlots l tag payload => Sys2Proof.Machine.execReadSlots l tag payload s
  | .readTally l tag payload => Sys2Proof.Machine.execReadTally l tag payload s
  | .readCursor l tag payload => Sys2Proof.Machine.execReadCursor l tag payload s
  | .readMakeups l tag payload => Sys2Proof.Machine.execReadMakeups l tag payload s
  | .readBlock l tag payload => Sys2Proof.Machine.execReadBlock l tag payload s
  | .readLayout l tag payload => Sys2Proof.Machine.execReadLayout l tag payload s
  | .readSegment l tag payload => Sys2Proof.Machine.execReadSegment l tag payload s
  | .readLink l tag payload => Sys2Proof.Machine.execReadLink l tag payload s
  | .takeControl l tag payload => Sys2Proof.Machine.execTakeControl l tag payload s
  | .releaseControl l tag payload => Sys2Proof.Machine.execReleaseControl l tag payload s
  | .setPly l tag payload => Sys2Proof.Machine.execSetPly l tag payload s
  | .setLayout l tag payload => Sys2Proof.Machine.execSetLayout l tag payload s
  | .setBlock l tag payload => Sys2Proof.Machine.execSetBlock l tag payload s
  | .setSegment l tag payload => Sys2Proof.Machine.execSetSegment l tag payload s
  | .setTrim l tag payload => Sys2Proof.Machine.execSetTrim l tag payload s
  | .clearMakeups l tag payload => Sys2Proof.Machine.execClearMakeups l tag payload s
  | .startRun l tag payload => Sys2Proof.Machine.execStartRun l tag payload s
  | .hold l tag payload => Sys2Proof.Machine.execHold l tag payload s
  | .release l tag payload => Sys2Proof.Machine.execRelease l tag payload s
  | .continueRun l tag payload => Sys2Proof.Machine.execContinueRun l tag payload s
  | .endRun l tag payload => Sys2Proof.Machine.execEndRun l tag payload s
  | .abortRun l tag payload => Sys2Proof.Machine.execAbortRun l tag payload s
  | .runMakeups l tag payload => Sys2Proof.Machine.execRunMakeups l tag payload s
  | .clearFault l tag payload => Sys2Proof.Machine.execClearFault l tag payload s
  | .withdrawSet l tag payload => Sys2Proof.Machine.execWithdrawSet l tag payload s
  | .restart l tag payload => Sys2Proof.Machine.execRestart l tag payload s
  | .restartPerformed a b => Sys2Proof.Machine.execRestartPerformed a b s
  | .frameByteReceived l b => Sys2Proof.Machine.execFrameByteReceived l b s
  | .lastByteSent l => Sys2Proof.Machine.execLastByteSent l s

end Sys2Proof.Machine
end

