-- ==== Sys2Proof/Safety.lean ====
section
/-! DEFINITION. What a sound state of the FNC-6 is: the invariants that the statements assume or say
that every command keeps. Each is a decidable condition on the state's data alone. -/

namespace Sys2Proof.Machine

/-- R167, R170, R173: the notice queue holds at most 48 notices, a reply queue at most 8 replies, and
no discard counter passes 65 535. -/
def LinkState.Bounded (k : LinkState) : Prop :=
  k.replies.length ≤ Config.replyCapacity ∧ k.counters.length ≤ Config.maxCounter
  ∧ k.counters.gap ≤ Config.maxCounter ∧ k.counters.crc ≤ Config.maxCounter
  ∧ k.counters.overrun ≤ Config.maxCounter

def State.LinksBounded (s : State) : Prop :=
  s.notices.length ≤ Config.noticeCapacity ∧ s.links.press.Bounded ∧ s.links.service.Bounded

/-- R135: the make-up list holds at most 256 entries, in strictly ascending order of sequence
value, so that no two entries hold one value. -/
def State.MakeupsOrdered (s : State) : Prop :=
  s.makeups.length ≤ Config.makeupCapacity
  ∧ (s.makeups.map (·.value)).Pairwise (· < ·)

/-- R137, R148, R151: the run is HELD exactly when a hold cause is in the set, a drain kind is
present exactly in DRAINING, in a run the batch flag is set only with a make-up owed, and in IDLE the
table is empty, nothing is rendered and the spoil-marker is inactive. -/
def State.RunAgrees (s : State) : Prop :=
  (s.runState = .held ↔ s.causes ≠ HoldCauses.empty)
  ∧ (s.runState = .draining ↔ s.drain.isSome = true)
  ∧ (s.runState ≠ .idle → s.batch = true → s.makeups ≠ [])
  ∧ (s.runState = .idle →
      s.slots = [] ∧ s.marriageSlot = 0 ∧ s.render = none ∧ s.marker = false)

/-- Table 3-1: a ply record's path length lies in 1..120. -/
def PlyRecord.PathFits (r : PlyRecord) : Prop := 1 ≤ r.pathLength ∧ r.pathLength ≤ 120

/-- R1: the window holds at most 128 slots and its top does not pass the largest set index. -/
def State.WindowBounded (s : State) : Prop :=
  s.slots.length ≤ Config.windowCapacity ∧ s.windowEnd ≤ Config.maxSetIndex + 1
  ∧ ∀ p, (s.ply p).record.PathFits

/-- R73, R50: a staging queue holds at most 4 entries, and one fewer while the render unit serves its
ply. -/
def State.StagingBounded (s : State) : Prop :=
  (∀ p, (s.ply p).head.queue.length ≤ Config.stagingDepth)
  ∧ (∀ r, s.render = some r → (s.ply r.ply).head.queue.length < Config.stagingDepth)

/-- Section 3.2: the live state of an active ply in a run under cutoff C: its position and its mark
phase lie below C, its owed reverse count within the allowance, and it is not OFF. -/
def PlyState.InForm (ps : PlyState) (c : Nat) : Prop :=
  ps.unit.position < c ∧ ps.record.markPhase < c ∧ ps.unit.owed ≤ ps.allowance
  ∧ ps.unit.registration ≠ .off

/-- Section 3.2: every active ply of a run is in its form. -/
def State.PositionsInForm (s : State) : Prop :=
  s.inRun = true → ∀ p, s.active p = true → (s.ply p).InForm s.cutoff

/-- R12, R18: in a run, the head slot of every active ply lies at or below the top, and every slot held
at or below it is BOUND, SKIP or VOID. -/
def State.HeadsPassed (s : State) : Prop :=
  s.inRun = true → ∀ p, s.active p = true →
    (s.ply p).unit.headSlot < s.windowEnd
    ∧ ∀ j slot, j ≤ (s.ply p).unit.headSlot → s.slotAt j = some slot → slot.disp ≠ .opened

/-- R139: the Withdrawn tally never exceeds Good. -/
def State.WithdrawnWithinGood (s : State) : Prop := s.tallies.withdrawn ≤ s.tallies.good

/-! ## What a command leaves as it was -/

/-- What no command but a configuration request, START-RUN, TAKE-CONTROL, RELEASE-CONTROL, RESTART and
the restarts changes: the tables, the ply records, the parameters of the run last started, the owner,
a restart under way, and the commands still to be taken. -/
def State.SetupKept (s t : State) : Prop :=
  t.segments = s.segments ∧ t.blocks = s.blocks ∧ t.layouts = s.layouts
  ∧ (∀ p, (t.ply p).record = (s.ply p).record) ∧ t.params = s.params ∧ t.policy = s.policy
  ∧ t.endMakeups = s.endMakeups ∧ t.runPlies = s.runPlies ∧ t.owner = s.owner
  ∧ t.restart = s.restart ∧ t.pending = s.pending

/-- What an event of the press side leaves as it was: the setup and both links. -/
def State.PressFrame (s t : State) : Prop := s.SetupKept t ∧ t.links = s.links

/-- R157: what the teardown to IDLE leaves of a run, the tallies, the notices and the last-marriage
record apart: the table empty, the outputs inactive, every block of a ply in its start state but for its
head slot, its inhibit, its expected reader number and its capture. -/
def State.TornDown (s t : State) : Prop :=
  t.runState = .idle ∧ t.causes = HoldCauses.empty ∧ t.drain = none ∧ t.marriageSlot = 0
  ∧ t.slots = [] ∧ t.batch = false ∧ t.render = none ∧ t.marker = false ∧ t.cursor = s.cursor
  ∧ t.makeups = s.makeups
  ∧ ∀ p, t.ply p =
    { record := (s.ply p).record
      run := none
      unit := ⟨0, 0, .off, (s.ply p).unit.headSlot, false, none⟩
      head := ⟨[], .empty, [], [], 0, none, (s.ply p).head.inhibit⟩
      checker := ⟨false, (s.ply p).checker.expected⟩
      capture := (s.ply p).capture }

/-- R126 to R128: what a spoil decided of a BOUND slot that is not spoil-pending makes of its
disposition: VOID under ROLLBACK for a slot that is no make-up, and spoil-pending otherwise. -/
def State.spoiled (s : State) (b : Binding) (mark : SpoilMark) : Disposition :=
  if b.before.isSome ∧ s.policy = some .rollback then .void b (.spoil mark) else .bound b (some mark)

/-! ## What a rewind and an abort make of slots, list, cursor and heads (sections 7.4 and 7.7) -/

/-- R11: a slot is touched when an impression of one of its forms has fired, or one of its forms is
PRINTED, MISSED or INHIBITED. -/
def Slot.IsTouched (slot : Slot) : Prop :=
  ∃ q r, slot.subs.get q = some r
    ∧ (0 < r.fired ∨ r.print = .printed ∨ r.print = .missed ∨ r.print = .inhibited)

/-- R129, R10: what a rewind from slot `u` makes of the slots at or above `u`. NONE stays NONE in a slot
made VOID, as R10 says against R108 (log 45). -/
def State.SlotsRewound (s t : State) (u : Nat) : Prop :=
  ∀ i x, u ≤ i → s.slotAt i = some x →
    let becomes := fun (d : Disposition) (change : PrintState → PrintState) =>
      t.slotAt i = some { x.mapPrint change with disp := d }
    ((∀ b m, x.disp ≠ .bound b m) → t.slotAt i = some x)
    ∧ ∀ b m, x.disp = .bound b m →
      (x.IsTouched →
        becomes (.void b .collateral) fun k => if k = .pending then .notPrinted else k)
      ∧ (¬ x.IsTouched → (∃ q, s.active q = true ∧ i ≤ (s.ply q).unit.headSlot) →
        becomes .skip fun k => if k = .pending ∨ k = .none then .notPrinted else k)
      ∧ (¬ x.IsTouched → (∀ q, s.active q = true → (s.ply q).unit.headSlot < i) →
        becomes .opened fun k => if k = .none then .pending else k)

/-- Table 1-5: a slot carries the fields of a binding: BOUND, or VOID having been bound. -/
def Slot.Carries (slot : Slot) (b : Binding) : Prop :=
  (∃ m, slot.disp = .bound b m) ∨ ∃ r, slot.disp = .void b r

/-- The bindings of the BOUND slots among some, in their order, each with its Spoil-pending. -/
def bindingsOf (slots : List Slot) : List (Binding × Option SpoilMark) :=
  slots.filterMap fun x => match x.disp with
    | .bound b m => some (b, m)
    | .opened => none
    | .skip => none
    | .void _ _ => none

/-- R130: whether a value in a segment is among those recalled: it is that of a binding undone whose
Make-up is no. -/
def recalls (undone : List (Binding × Option SpoilMark)) (value segment : Nat) : Bool :=
  undone.any fun u => u.1.before.isSome && decide (u.1.value = value)
    && decide (u.1.segment = segment)

/-- R130 step 1: the entries whose value and segment are not recalled. -/
def entriesKept (undone : List (Binding × Option SpoilMark)) (list : List MakeupEntry) :
    List MakeupEntry :=
  list.filter fun e => !recalls undone e.value e.segment

/-- R130 step 2: the make-ups undone that give their value back, with no origin slot: those that were
not spoil-pending and are not recalled. -/
def entriesBack (undone : List (Binding × Option SpoilMark)) : List MakeupEntry :=
  undone.filterMap fun u =>
    if u.1.before = none ∧ u.2 = none ∧ recalls undone u.1.value u.1.segment = false then
      some ⟨u.1.value, u.1.segment, u.1.pass, none⟩
    else none

/-- R130, R135: the list as the bindings undone correct it. An entry given back joins unless an entry
holds its value or the list holds 256. -/
def correctedList (undone : List (Binding × Option SpoilMark)) (list : List MakeupEntry) :
    List MakeupEntry :=
  (entriesBack undone).foldl (fun l e =>
    if l.any (fun x => decide (x.value = e.value)) || decide (256 ≤ l.length) then l
    else insertEntry e l) (entriesKept undone list)

/-- R130, R137: the list corrected, and the batch flag with it: cleared where the removals empty the
list, and set where a value then joins under AUTO at CHAIN-END (log 47). -/
def State.ListCorrected (s t : State) (undone : List (Binding × Option SpoilMark)) : Prop :=
  let kept := entriesKept undone s.makeups
  t.makeups = correctedList undone s.makeups
  ∧ t.batch = ((s.batch && !kept.isEmpty)
    || (decide (kept.length < t.makeups.length) && decide (s.endMakeups = some .auto)
      && decide (s.cursor.map (·.state) = some .chainEnd)))

/-- R131, R141: the cursor put back to the Cursor-before of the first of the bindings undone whose
Make-up is no; where there is none, it stays. A CLOSED cursor stays CLOSED. -/
def restored (undone : List (Binding × Option SpoilMark)) (c : Cursor) : Cursor :=
  match undone.findSome? (·.1.before) with
  | none => c
  | some cb =>
    { state := if c.state = .closed then .closed else .active
      segment := cb.segment, pass := cb.pass, next := cb.next, issued := cb.issued }

/-- R74, R80, R132: of every active ply the staging entries that are not kept are gone, and a LOADED
image that is no longer current is given up; nothing else of a ply changes. -/
def State.HeadsTested (s t : State) (keeps : Entry → Bool) : Prop :=
  ∀ p,
    (s.active p = true → t.ply p = { s.ply p with
      head := { (s.ply p).head with
        queue := (s.ply p).head.queue.filter keeps
        load := match (s.ply p).head.load with
          | .loaded img => if t.current img.slot img.stamp then .loaded img else .empty
          | .loading img => .loading img
          | .empty => .empty } })
    ∧ (s.active p = false → t.ply p = s.ply p)

/-! ## What joins and a rewind report (R126, R134, R136) -/

/-- R136, R137: the batch flag at the join that gives the cause MAKEUPS or sends MAKEUP-HIGH, from the
flag and the length of the list before the joins. That join is the one that brings the list to 128
entries, or the first where the list holds as many already; an earlier join has set the flag under AUTO
at CHAIN-END (log 47). -/
def State.flagAtHigh (s : State) (flag : Bool) (before : Nat) : Bool :=
  flag || (decide (before < 127) && decide (s.endMakeups = some .auto)
    && decide (s.cursor.map (·.state) = some .chainEnd))

/-- R136, R151: whether joins that take the list from one length to another give the run the cause
MAKEUPS: they leave 128 entries or more with the flag clear, and the run is RUNNING or HELD. -/
def State.joinsHold (s : State) (flag : Bool) (before after : Nat) : Bool :=
  decide (before < after) && decide (128 ≤ after) && !s.flagAtHigh flag before
    && (decide (s.runState = .running) || decide (s.runState = .held))

/-- R136, R151: what those joins leave of the run: HELD with MAKEUPS among its causes, or as it was. -/
def State.HeldByJoins (s t : State) (flag : Bool) (before after : Nat) : Prop :=
  if s.joinsHold flag before after = true then
    t.runState = .held ∧ t.causes = { s.causes with makeups := true }
  else t.runState = s.runState ∧ t.causes = s.causes

/-- R136, R148, R151: the notices of those joins: RUN-STATE where the run was RUNNING or the cause is
new, and MAKEUP-HIGH where they bring the list to 128. -/
def State.joinNotices (s : State) (flag : Bool) (before after : Nat) : List QueuedNotice :=
  (if s.joinsHold flag before after
      && (decide (s.runState = .running) || !s.causes.makeups) then
    [⟨.runState .held { s.causes with makeups := true } s.drain, .owner⟩] else [])
  ++ (if before < 128 ∧ 128 ≤ after then
    [⟨.makeupHigh 128 (s.flagAtHigh flag before), .owner⟩] else [])

/-- R126, R134: how many slots above slot `j` are BOUND in `s` and of a kind in `t`. -/
def State.madeAbove (s t : State) (j : Nat) (kind : Disposition → Bool) : Nat :=
  ((s.slots.zip t.slots).drop (j + 1 - s.marriageSlot)).countP fun x => x.1.isBound && kind x.2.disp

/-- R126, R134: what ROLLBACK and SKIP-INSERT report of a rewind from above slot `j` that takes `s` to
`t`: the slots it made VOID, SKIP and OPEN, the values returned to the list, those not added, and the
entries removed. -/
def State.rewindCounts (s t : State) (undone : List (Binding × Option SpoilMark)) (j : Nat) :
    RewindCounts :=
  let kept := (entriesKept undone s.makeups).length
  { voided := s.madeAbove t j fun d => match d with
      | .void _ _ => true
      | .bound _ _ => false
      | .opened => false
      | .skip => false
    skipped := s.madeAbove t j fun d => decide (d = .skip)
    opened := s.madeAbove t j fun d => decide (d = .opened)
    returned := t.makeups.length - kept
    notAdded := (entriesBack undone).length - (t.makeups.length - kept)
    removed := s.makeups.length - kept }

/-! ## What a normalisation passes over (R40) -/

/-- R40 check 1: a candidate that is not rejected for its block and does not move: its block is VALID, its
offset lies below the count, and under STOP its serial is in range. -/
def blockHolds (blocks : Vector (Option Block) 64) (lay : Layout) (v : Nat) : Bool :=
  match (blocks[v / 16384]?).join with
  | none => false
  | some blk =>
    let serial : Int := match blk.dir with
      | .asc => blk.base + (v % 16384 : Nat)
      | .desc => blk.base - (v % 16384 : Nat)
    decide (v % 16384 < blk.count)
    && (decide (lay.overflow = .roll)
      || (decide (0 ≤ serial) && decide (serial ≤ 10 ^ lay.width - 1)))

/-- R40 check 1: the move of a candidate in a DESC block under STOP whose serial is above 10^W − 1, to
the offset base − (10^W − 1) of its block, where the block has that offset (log 41). -/
def MovesTo (blocks : Vector (Option Block) 64) (lay : Layout) (u w : Nat) : Prop :=
  lay.overflow = .stop ∧ ∃ blk, (blocks[u / 16384]?).join = some blk ∧ blk.dir = .desc
    ∧ u % 16384 < blk.count ∧ 10 ^ lay.width - 1 + u % 16384 < blk.base
    ∧ blk.base - (10 ^ lay.width - 1) < 16384
    ∧ w = u / 16384 * 16384 + (blk.base - (10 ^ lay.width - 1))

/-! ## The gate, requesters and the end of a run -/

/-- R44: the binding gate: the run is RUNNING, the cursor is ACTIVE or a batch has a make-up to bind, and
every active ply is LOCKED or in COAST with its head not inhibited. -/
def State.GateIsOpen (s : State) : Prop :=
  s.runState = .running
  ∧ ((∃ c, s.cursor = some c ∧ c.state = .active) ∨ (s.batch = true ∧ s.makeups ≠ []))
  ∧ ∀ p, s.active p = true →
    ((s.ply p).unit.registration = .locked ∨ (s.ply p).unit.registration = .coast)
    ∧ (s.ply p).head.inhibit = false

/-- R121: the completion of a run that is RUNNING, and the end of draining, judged on the slots that
remain. -/
def State.isOver (s : State) (rest : List Slot) : Bool :=
  (decide (s.runState = .running) && decide (s.cursor.map (·.state) = some .chainEnd) && !s.batch
    && rest.all (fun slot => !slot.isBound))
  || (decide (s.runState = .draining) && rest.all (fun slot => !slot.isNumbered))

/-! ## The checks of START-RUN -/

/-- R149 check 2: a segment reached from another by following next segments. -/
def State.Reaches (s : State) : Nat → Nat → Prop :=
  Relation.ReflTransGen fun i j => (s.segment i).bind (·.next) = some j

/-- R55 check 5: the layout of a segment that the chain from `first` reaches. -/
def State.ReachesLayout (s : State) (first : Nat) (lay : Layout) : Prop :=
  ∃ i g, s.Reaches first i ∧ s.segment i = some g ∧ s.layout g.layout = some lay

/-- R55: ply `p` fails the check of a number, in a run under cutoff C whose chain starts at `first`. -/
def State.FailsCheck (s : State) (c first : Nat) (p : Ply) (check : Nat) : Prop :=
  let r := (s.ply p).record
  let window := min r.markWindow (c / 8)
  match check with
  | 1 => r.readerDistance ≠ 0 ∧ r.pathLength ≤ r.readerDistance
  | 2 => ∃ k, r.splice = some k ∧ 120 < r.pathLength + k
  | 3 => r.markPhase < window ∨ c ≤ r.markPhase + window
  | 4 => c / 4 < r.splitPitch
  | 5 => ∃ lay, s.ReachesLayout first lay
      ∧ (c ≤ lay.phaseA ∨ ∃ b, lay.phaseB = some b ∧ c ≤ b)
  | 6 => r.headClass = .narrow ∧ ∃ lay, s.ReachesLayout first lay
      ∧ ((lay.maskA.get p = true ∧ 8 < lay.lengthA ∧ c ≤ lay.phaseA + r.splitPitch)
        ∨ (lay.maskB.get p = true ∧ 8 < lay.width
          ∧ ∃ b, lay.phaseB = some b ∧ c ≤ b + r.splitPitch))
  | _ => False

/-! ## Power-on and RESTART -/

/-- R174 and the chapters it names: what power-on and a performed RESTART leave alike, the links, the
configuration and the make-up list apart. -/
def State.Cleared (s : State) : Prop :=
  s.runState = .idle ∧ s.causes = HoldCauses.empty ∧ s.drain = none ∧ s.params = none
  ∧ s.marriageSlot = 0 ∧ s.slots = [] ∧ s.cursor = none ∧ s.batch = false ∧ s.render = none
  ∧ s.lastGranted = .p5 ∧ s.marker = false ∧ s.alarm = false ∧ s.tallies = Tallies.zero
  ∧ s.lastMarriage = none ∧ s.policy = none ∧ s.endMakeups = none ∧ s.owner = .none
  ∧ s.withheld = false
  ∧ ∀ p, (s.ply p).run = none ∧ (s.ply p).unit = ⟨0, 0, .off, 0, false, none⟩
    ∧ (s.ply p).head = ⟨[], .empty, [], [], 0, none, false⟩ ∧ (s.ply p).checker = ⟨false, 0⟩
    ∧ (s.ply p).capture = none

/-- R26, R35, R53, R123, R144: what power-on leaves of the configuration and the make-up list. -/
def State.Unconfigured (s : State) : Prop :=
  (∀ i, s.block i = none) ∧ (∀ i, s.layout i = none) ∧ (∀ i, s.segment i = none)
  ∧ s.makeups = [] ∧ ∀ p, (s.ply p).record = PlyRecord.default

/-! ## Requests -/

/-- The command that is a request's frame on a link. -/
def requestCommand (r : Request) (l : Link) (tag : Byte) (pl : List Byte) : Instr :=
  match r with
  | .identify => .identify l tag pl
  | .readStatus => .readStatus l tag pl
  | .readPly => .readPly l tag pl
  | .readSlots => .readSlots l tag pl
  | .readTally => .readTally l tag pl
  | .readCursor => .readCursor l tag pl
  | .readMakeups => .readMakeups l tag pl
  | .readBlock => .readBlock l tag pl
  | .readLayout => .readLayout l tag pl
  | .readSegment => .readSegment l tag pl
  | .readLink => .readLink l tag pl
  | .takeControl => .takeControl l tag pl
  | .releaseControl => .releaseControl l tag pl
  | .setPly => .setPly l tag pl
  | .setLayout => .setLayout l tag pl
  | .setBlock => .setBlock l tag pl
  | .setSegment => .setSegment l tag pl
  | .setTrim => .setTrim l tag pl
  | .clearMakeups => .clearMakeups l tag pl
  | .startRun => .startRun l tag pl
  | .hold => .hold l tag pl
  | .release => .release l tag pl
  | .continueRun => .continueRun l tag pl
  | .endRun => .endRun l tag pl
  | .abortRun => .abortRun l tag pl
  | .runMakeups => .runMakeups l tag pl
  | .clearFault => .clearFault l tag pl
  | .withdrawSet => .withdrawSet l tag pl
  | .restart => .restart l tag pl

/-- R166: no test before the last turns a request on a link away, its payload being of the length
Table 9-2 gives: there is room for its reply, no restart is pending, and control, where the request
needs it, is the link's. -/
def State.Admits (s : State) (r : Request) (l : Link) : Prop :=
  (s.link l).replies.length < Config.replyCapacity ∧ s.restart = .none
  ∧ (needsControl r = true → s.owner = ownerOf l)

/-- The state with the reply to a request behind the others of its link. -/
def State.replied (s : State) (l : Link) (tag : Byte) (r : Request) (a : Answer) : State :=
  s.pushReply l ⟨tag, requestCode r, a⟩

/-! ## The ranges of configuration records -/

/-- Table 3-1: the values SET-PLY accepts, in the widths the wire carries. -/
def PlyRecord.InRange (r : PlyRecord) : Prop :=
  (1 ≤ r.pathLength ∧ r.pathLength ≤ 120) ∧ r.readerDistance ≤ 119
  ∧ (∀ k, r.splice = some k → k ≤ 15) ∧ r.markPhase ≤ 65535 ∧ r.markWindow ≤ 65535
  ∧ r.reverseAllowance ≤ 65535 ∧ (1 ≤ r.splitPitch ∧ r.splitPitch ≤ 65535)
  ∧ r.guardLimit ≤ 65535 ∧ r.loadTimeout ≤ 65535 ∧ -65535 ≤ r.trim ∧ r.trim ≤ 65535

/-- R26, R27: the values of a VALID block table entry. -/
def Block.InRange (b : Block) : Prop := b.base ≤ 9999999999 ∧ 1 ≤ b.count ∧ b.count ≤ 16384

/-- Table 2-1, R34: the values of a DEFINED layout. -/
def Layout.InRange (l : Layout) : Prop :=
  l.prefixText.length ≤ 4 ∧ l.prefixText.all inPrefixSet = true
  ∧ (1 ≤ l.width ∧ l.width ≤ 10)
  ∧ (∀ c, l.separator = some c → l.check ≠ .none ∧ inPrefixSet c = true)
  ∧ l.phaseA ≤ 65535 ∧ (∀ b, l.phaseB = some b → b ≤ 65535)
  ∧ (l.phaseB = none → l.maskB = PerPly.all false)
  ∧ ¬ (l.maskA = PerPly.all false ∧ l.maskB = PerPly.all false)
  ∧ l.tolerance ≤ 255

/-- R144: the values of a DEFINED segment. -/
def Segment.InRange (g : Segment) : Prop :=
  g.layout ≤ 7 ∧ (1 ≤ g.quantity ∧ g.quantity ≤ 16777215)
  ∧ (∀ v, g.start = some v → v ≤ 1048575) ∧ ∀ n, g.next = some n → n ≤ 31

/-- R149: the values of a START-RUN. -/
def StartRequest.InRange (q : StartRequest) : Prop :=
  q.segment ≤ 31 ∧ (256 ≤ q.cutoff ∧ q.cutoff ≤ 65535) ∧ ∀ v, q.start = some v → v ≤ 1048575

end Sys2Proof.Machine
end

