-- ==== Sys2Proof/Certificates/Slice0/Obligations.lean ====
section
/-! DEFINITION. The statements about this model, for the provers. `exec c s = .next t` says that the
command has its effect; `t` is spelled out, or said by the parts of it that a rule gives and the parts
that stay. A state that differs from another in one ply, one slot or one link is written with
`modPly`, `modSlot`, `modLink`, which change nothing else. -/

open Sys2Proof Sys2Proof.Machine

/-! ## The step -/

/-- The command at the front of the queue is taken, on the state with the queue's rest; with no
command waiting the part idles. The queue is the model's own (assumption log 1). -/
def Obligations.StepTakesTheFrontCommand : Prop :=
  (∀ (c : Instr) (rest : List Instr) (s : State), s.pending = c :: rest →
    step s = exec c { s with pending := rest })
  ∧ ∀ s : State, s.pending = [] → step s = .next s

/-! ## Power-on and RESTART -/

/-- Power-on puts every block in its power-on state, whatever the state before, with both links at
the rates of their straps and RESTARTED with cause POWER queued for PRESS. That the receivers then hunt
and the transmitters are free is the model's choice (assumption log 25). The state after reset is that
of a power-on with both straps at 19 200 baud, which is the model's choice (assumption log 3). -/
def Obligations.PowerOnState : Prop :=
  (∀ (press service : Rate) (s : State), ∃ t, exec (.powerOn press service) s = .next t
    ∧ t.Cleared ∧ t.Unconfigured ∧ t.restart = .none
    ∧ t.links = ⟨⟨press, none, [], none, ⟨0, 0, 0, 0⟩, 0⟩, ⟨service, none, [], none, ⟨0, 0, 0, 0⟩, 0⟩⟩
    ∧ t.notices = [⟨.restarted .power Config.firmware press service, .fixed .press⟩])
  ∧ State.reset.Cleared ∧ State.reset.Unconfigured ∧ State.reset.restart = .none
  ∧ State.reset.links
    = ⟨⟨.b19200, none, [], none, ⟨0, 0, 0, 0⟩, 0⟩, ⟨.b19200, none, [], none, ⟨0, 0, 0, 0⟩, 0⟩⟩
  ∧ State.reset.notices = [⟨.restarted .power Config.firmware .b19200 .b19200, .fixed .press⟩]

/-- RESTART is taken in IDLE alone, is answered DONE and changes nothing else yet; it is performed
once its DONE has been sent, and then keeps the ply records, layouts, blocks, segments, make-up list and
waiting replies, and clears the rest. Before that moment the event changes nothing (the model's
choice, assumption log 32). -/
def Obligations.RestartIsTakenAndPerformed : Prop :=
  (∀ (l : Link) (tag : Byte) (s : State), s.Admits .restart l →
    (s.runState = .idle → exec (.restart l tag []) s =
      .next ({ s with restart := .queued l }.replied l tag .restart (.done [])))
    ∧ (s.runState ≠ .idle → exec (.restart l tag []) s =
      .next (s.replied l tag .restart (.refused .wrongState 0 0))))
  ∧ (∀ (press service : Rate) (s : State), s.restart = .sent →
    ∃ t, exec (.restartPerformed press service) s = .next t ∧ t.Cleared
      ∧ (∀ p, (t.ply p).record = (s.ply p).record)
      ∧ t.layouts = s.layouts ∧ t.blocks = s.blocks ∧ t.segments = s.segments
      ∧ t.makeups = s.makeups ∧ t.restart = .none
      ∧ (∀ l, (t.link l).replies = (s.link l).replies ∧ (t.link l).counters = ⟨0, 0, 0, 0⟩
        ∧ (t.link l).noticeCount = 0)
      ∧ (t.link .press).rate = press ∧ (t.link .service).rate = service
      ∧ t.notices = [⟨.restarted .request Config.firmware press service, .fixed .press⟩])
  ∧ ∀ (press service : Rate) (s : State), s.restart ≠ .sent →
    exec (.restartPerformed press service) s = .next s

/-! ## Counts, marks and splices (Chapter 3) -/

/-- A forward count of one ply pays off an owed reverse count, with no other effect; with none owed
it raises the position and, within the form and with no impression to take up or fall due, lowers the
guard and raises the errors of the deferred impressions. The advance that brings the guard count to 0
does no more where nothing is deferred. -/
def Obligations.ForwardCountWithinTheForm : Prop :=
  ∀ (e : Edge) (p : Ply) (s : State), s.countingPlies e = [p] →
    (0 < (s.ply p).unit.owed →
      exec (.forwardCount e) s = .next (s.modUnit p fun u => { u with owed := u.owed - 1 }))
    ∧ ((s.ply p).unit.owed = 0 →
      ((s.ply p).head.guardCount ≠ 1 ∨ (s.ply p).head.deferred = []) →
      (s.ply p).unit.position + 1 < s.cutoff →
      (∀ i ∈ (s.ply p).head.plan, i.state = .waiting → i.phase ≠ (s.ply p).unit.position + 1) →
      exec (.forwardCount e) s = .next (s.modPly p fun ps => { ps with
        unit := { ps.unit with position := ps.unit.position + 1 }
        head := { ps.head with
          guardCount := ps.head.guardCount - 1
          plan := ps.head.plan.map fun i =>
            if i.state = .deferred then { i with error := min (i.error + 1) 65535 } else i } }))

/-- The count that ends a form takes the boundary: the position becomes 0, mark supervision is
applied, the head slot rises by one and is not OPEN, and no other ply's unit changes. A ply that goes
from COAST to LOST raises MARK LOSS with the form ended and position 0. A BOUND form still PENDING is
MISSED and spoiled; the form ended is AWAIT where the ply has a reader; nothing below the new head slot
stays staged or loaded; a pending trim is adopted, and the new plan is built under it. A boundary that
finds the window full force-retires the marriage slot, with ALIGNMENT at the ply's position (the
position is the model's, assumption log 21), its PLY-FAULT the first of the notices (the model's
order, assumption log 13), the tallies raised and the value handed to the list.
A need of the ply for a slot that finds room is met at the boundary's end (assumption log 42). At head
slot 4 294 967 295 the head slot stays and ALIGNMENT is raised; what else that boundary does is the
model's choice (assumption log 43) and is not stated. -/
def Obligations.ForwardCountTakesTheBoundary : Prop :=
  ∀ (e : Edge) (p : Ply) (s : State), s.countingPlies e = [p] → (s.ply p).unit.owed = 0 →
    s.cutoff ≤ (s.ply p).unit.position + 1 →
    let ps := s.ply p
    let ended := ps.unit.headSlot
    let begun := ended + 1
    let unit := fun headSlot : Nat =>
      ({ position := 0
         owed := 0
         registration := match ps.unit.registration with
           | .locked => if ps.unit.markTaken then .locked else .coast
           | .coast => .lost
           | .off => .off
           | .search => .search
           | .lost => .lost
         headSlot := headSlot
         markTaken := false
         spliceWatch := ps.unit.spliceWatch } : PositionUnit)
    let hasRoom := begun < s.windowEnd ∨ begun < s.marriageSlot + 128
    let settled := ∀ slot b m r, s.slotAt ended = some slot → slot.disp = .bound b m →
      slot.subs.get p = some r → r.print ≠ .pending
    (ended < 4294967295 →
      ∃ t, exec (.forwardCount e) s = .next t
        ∧ (t.ply p).unit = unit begun
        ∧ (∀ q, q ≠ p → (t.ply q).unit = (s.ply q).unit)
        ∧ (∀ slot, t.slotAt begun = some slot → slot.disp ≠ .opened)
        ∧ s.PressFrame t
        ∧ (ps.unit.registration = .coast → ps.capture = none →
          ∃ more, (t.ply p).capture = some ⟨.markLoss, ended, 0, more⟩)
        ∧ (ps.head.guardCount ≠ 1 → hasRoom → ∀ slot b r, s.slotAt ended = some slot →
          slot.disp = .bound b none → slot.subs.get p = some r → r.print = .pending →
          (t.slotAt ended).map (·.disp) = some (s.spoiled b ⟨.miss, p⟩)
          ∧ (t.subAt ended p).map (·.print) = some .missed)
        ∧ (hasRoom → ∀ r, s.subAt ended p = some r → (t.subAt ended p).map (·.verify) =
          some (if ps.record.readerDistance ≠ 0 ∧ r.verify = .notDue then .await else r.verify))
        ∧ (∀ x ∈ (t.ply p).head.queue, begun ≤ x.slot)
        ∧ (∀ img, (t.ply p).head.load = .loaded img → begun ≤ img.slot)
        ∧ (∀ img, ps.head.load = .loading img → (t.ply p).head.load = .loading img)
        ∧ (t.ply p).head.pendingTrim = none
        ∧ (∀ v, ps.run = some v →
          (t.ply p).run = some { v with trim := ps.head.pendingTrim.getD v.trim })
        ∧ (t.ply p).head.plan.Pairwise (fun x y => x.phase < y.phase
          ∨ (x.phase = y.phase ∧ selectRank x.select < selectRank y.select))
        ∧ ((∀ slot b m, s.slotAt begun = some slot → slot.disp ≠ .bound b m) →
          (t.ply p).head.plan = [])
        ∧ ((∀ i ∈ (t.ply p).head.plan, 0 < i.phase) →
          (t.ply p).head.deferred = []
          ∧ (ps.head.guardCount ≠ 1 → settled →
            (t.ply p).head.queue = ps.head.queue.filter (fun x => decide (begun ≤ x.slot)))
          ∧ ∀ slot b m r lay v, t.slotAt begun = some slot → slot.disp = .bound b m →
            slot.subs.get p = some r → s.segmentLayout b.segment = some lay →
            (t.ply p).run = some v →
            (r.print ≠ .pending → (t.ply p).head.plan = [])
            ∧ (r.print = .pending → ∀ i, i ∈ (t.ply p).head.plan ↔
              ∃ sel ∈ lay.selects p ps.record.headClass,
                i = ⟨sel, (((lay.phaseOf ps.record.splitPitch sel : Int) + v.trim)
                  % s.cutoff).toNat, .waiting, 0⟩))
        ∧ (¬ hasRoom → ps.head.guardCount ≠ 1 → ps.unit.registration ≠ .coast → settled →
          ∀ slot rest, s.slots = slot :: rest →
          t.marriageSlot = s.marriageSlot + 1
          ∧ (ps.capture = none →
            (t.ply p).capture = some ⟨.alignment, s.marriageSlot, 0, false⟩)
          ∧ (∀ k, ps.capture = some k → (t.ply p).capture = some { k with more := true })
          ∧ (s.notices.length < 48 → ∃ more, t.notices = s.notices
            ++ ⟨.plyFault p ⟨.alignment, s.marriageSlot, 0, none, some (slot.disp, slot.touched)⟩
              (decide (ps.capture = none)) ps.record.inhibitSet.alignment, .owner⟩ :: more)
          ∧ (s.tallies.retired < 4294967295 → s.tallies.void < 4294967295 → t.tallies =
            { s.tallies with retired := s.tallies.retired + 1, void := s.tallies.void + 1 })
          ∧ (∀ b, slot.disp = .bound b none → s.listed b.value = false → s.makeups.length < 256 →
            t.makeups = insertEntry ⟨b.value, b.segment, b.pass, none⟩ s.makeups)
          ∧ ((∀ b, slot.disp = .bound b none → s.listed b.value = true ∨ 256 ≤ s.makeups.length) →
            t.makeups = s.makeups))
        ∧ ((t.ply p).head.queue.length < 4 → (∀ r, t.render = some r → r.ply ≠ p) →
          (t.ply p).nextNeeded ≤ 4294967295 → (t.ply p).nextNeeded < t.marriageSlot + 128 →
          (t.ply p).nextNeeded < t.windowEnd))
    ∧ (ended = 4294967295 →
      ∃ t, exec (.forwardCount e) s = .next t
        ∧ (t.ply p).unit = unit ended
        ∧ (∀ q, q ≠ p → (t.ply q).unit = (s.ply q).unit)
        ∧ (ps.unit.registration ≠ .coast → ps.capture = none →
          (t.ply p).capture = some ⟨.alignment, 4294967295, 0, false⟩)
        ∧ (∀ k, ps.capture = some k → (t.ply p).capture = some { k with more := true })
        ∧ s.PressFrame t)

/-- An impression that the position reaches is put to the tests of R85 in order. On a slot that is not
BOUND it is dropped; on an inhibited head the form is closed as INHIBITED; without registration, or
with no current image ready, as MISSED, each with its spoil; with a guard running it is DEFERRED.
Otherwise it is fired once: the fire line is driven, the guard count is set, Fired is raised to at most
4, and the form's Placement error takes the impression's error where it is the first or larger. The
last impression of the plan not yet FIRED makes the form PRINTED and the head EMPTY; another leaves
both. An error above the layout's tolerance sets Misplaced and spoils the slot MISPLACE; where the slot
is spoil-pending already, that is the form's second reason. -/
def Obligations.ImpressionFiresAtItsPhase : Prop :=
  ∀ (e : Edge) (p : Ply) (sel : Select) (s : State), s.countingPlies e = [p] →
    (s.ply p).unit.owed = 0 → (s.ply p).head.guardCount ≠ 1 →
    (s.ply p).unit.position + 1 < s.cutoff →
    (s.ply p).head.waitingIn ((s.ply p).unit.position + 1) ((s.ply p).unit.position + 1) = [sel] →
    (s.ply p).head.impState sel = some .waiting →
    let ps := s.ply p
    let j := ps.unit.headSlot
    let givenUp := fun t : State => ∀ img, (t.ply p).head.load = .loaded img → img.slot ≠ j
    let closed := fun (t : State) (print : PrintState) (reason : Reason) =>
      t.out = s.out
      ∧ (∀ i ∈ (t.ply p).head.plan, i.state = .fired ∨ i.state = .dropped)
      ∧ (t.ply p).head.deferred = []
      ∧ (∀ r, s.subAt j p = some r → (t.subAt j p).map (·.print) = some print
        ∧ (t.subAt j p).map (·.fired) = some r.fired ∧ (t.subAt j p).map (·.error) = some r.error)
      ∧ (∀ slot b, s.slotAt j = some slot → slot.disp = .bound b none →
        (t.slotAt j).map (·.disp) = some (s.spoiled b ⟨reason, p⟩))
      ∧ s.PressFrame t
    let ready := ps.head.inhibit = false ∧ ps.unit.registration.trusted = true
      ∧ s.readyToFire p = true
    (s.boundAt j = none → ∃ t, exec (.forwardCount e) s = .next t ∧ t.out = s.out ∧ t.slots = s.slots
      ∧ (t.ply p).head.impState sel = some .dropped ∧ givenUp t ∧ s.PressFrame t)
    ∧ (s.boundAt j ≠ none →
      (ps.head.inhibit = true →
        ∃ t, exec (.forwardCount e) s = .next t ∧ closed t .inhibited .inhibited ∧ givenUp t)
      ∧ (ps.head.inhibit = false →
        (ps.unit.registration = .search ∨ ps.unit.registration = .lost) →
        ∃ t, exec (.forwardCount e) s = .next t ∧ closed t .missed .miss ∧ givenUp t)
      ∧ (ps.head.inhibit = false → ps.unit.registration.trusted = true → s.readyToFire p = false →
        ∃ t, exec (.forwardCount e) s = .next t ∧ closed t .missed .miss
          ∧ (∀ img, (t.ply p).head.load = .loaded img → j < img.slot)
          ∧ (∀ img, Entry.image img false ∈ (t.ply p).head.queue → img.slot ≠ j))
      ∧ (ready → 0 < ps.head.guardCount →
        exec (.forwardCount e) s = .next (s.modPly p fun ps => { ps with
          unit := { ps.unit with position := ps.unit.position + 1 }
          head := { ps.head with
            guardCount := ps.head.guardCount - 1
            plan := ps.head.plan.map fun i =>
              let i := if i.state = .deferred then { i with error := min (i.error + 1) 65535 } else i
              if i.select = sel then { i with state := .deferred } else i
            deferred := ps.head.deferred ++ [sel] } }))
      ∧ (ready → ps.head.guardCount = 0 →
        ∃ t, exec (.forwardCount e) s = .next t ∧ t.out = .fire p sel :: s.out
          ∧ (t.ply p).head.guardCount = ps.guardInForce
          ∧ (t.ply p).unit = { ps.unit with position := ps.unit.position + 1 }
          ∧ (∀ r, s.subAt j p = some r → (t.subAt j p).map (·.fired) = some (min (r.fired + 1) 4))
          ∧ (∀ q, q ≠ p → (t.ply q).unit = (s.ply q).unit)
          ∧ (∀ i, i < j → t.slotAt i = s.slotAt i)
          ∧ t.marriageSlot = s.marriageSlot ∧ s.PressFrame t
          ∧ (∀ slot b m r i, s.slotAt j = some slot → slot.disp = .bound b m →
            slot.subs.get p = some r →
            ps.head.plan.find? (fun i => decide (i.select = sel)) = some i →
            let last := ∀ k ∈ ps.head.plan, k.select = sel ∨ k.state = .fired
            let exceeds := ∃ lay, s.segmentLayout b.segment = some lay ∧ lay.tolerance < i.error
            (t.ply p).head.impState sel = some .fired
            ∧ (t.subAt j p).map (·.error) = some (some (max (r.error.getD 0) i.error))
            ∧ (last → (t.subAt j p).map (·.print) = some .printed ∧ (t.ply p).head.load = .empty)
            ∧ (exceeds → (t.subAt j p).map (·.misplaced) = some true
              ∧ (m = none → (t.slotAt j).map (·.disp) = some (s.spoiled b ⟨.misplace, p⟩))
              ∧ (m ≠ none → (t.slotAt j).map (·.disp) = some slot.disp
                ∧ (t.subAt j p).map (·.second) = some (some .misplace)))
            ∧ (¬ exceeds → (t.subAt j p).map (·.misplaced) = some r.misplaced
              ∧ (t.slotAt j).map (·.disp) = some slot.disp
              ∧ (¬ last → (t.subAt j p).map (·.print) = some r.print
                ∧ (t.ply p).head.load = ps.head.load)))))

/-- No impression fires on a ply while its head is inhibited: no command drives a fire line of a ply
whose inhibit stands when the command is taken. -/
def Obligations.NothingFiresWhileInhibited : Prop :=
  ∀ (c : Instr) (s t : State) (p : Ply) (sel : Select), exec c s = .next t →
    (s.ply p).head.inhibit = true →
    (t.out.filter fun o => decide (o = .fire p sel)) = s.out.filter fun o => decide (o = .fire p sel)

/-- A reverse count of one ply raises its owed reverse count, or raises REVERSE OVERRUN at its head
slot and position, clears the owed count and puts the ply in SEARCH with mark taken no. -/
def Obligations.ReverseCountOwesOrOverruns : Prop :=
  ∀ (e : Edge) (p : Ply) (s : State), s.countingPlies e = [p] →
    ((s.ply p).unit.owed + 1 ≤ (s.ply p).allowance →
      exec (.reverseCount e) s = .next (s.modUnit p fun u => { u with owed := u.owed + 1 }))
    ∧ ((s.ply p).allowance < (s.ply p).unit.owed + 1 →
      exec (.reverseCount e) s = .next
        ((s.modUnit p fun u =>
          { u with owed := 0, registration := .search, markTaken := false }).raiseFault p
          { kind := .reverseOverrun, index := (s.ply p).unit.headSlot
            position := (s.ply p).unit.position, cause := none, retired := none }))

/-- An edge of the line encoder is the same count for each ply that counts it (section 3.2), taken ply
by ply in the order P0..P5, which is the model's order (assumption log 4). -/
def Obligations.LineEdgeReachesEachLinePly : Prop :=
  ∀ s : State,
    exec (.forwardCount .line) s = plyOrder.foldl (fun o p => match o with
      | .next u => exec (.forwardCount (.lineOn p)) u
      | .fault f => .fault f
      | .refused r => .refused r) (.next s)
    ∧ exec (.reverseCount .line) s = plyOrder.foldl (fun o p => match o with
      | .next u => exec (.reverseCount (.lineOn p)) u
      | .fault f => .fault f
      | .refused r => .refused r) (.next s)

/-- In IDLE the press side reaches no block: counts, marks, splice pulses, set-cutoff pulses, reader
records, staging, grants and load starts change nothing. -/
def Obligations.PressEventsInIdleChangeNothing : Prop :=
  ∀ (s : State) (e : Edge) (p : Ply) (r : ReaderRecord), s.runState = .idle →
    exec (.forwardCount e) s = .next s ∧ exec (.reverseCount e) s = .next s
    ∧ exec (.guardExpiry p) s = .next s ∧ exec (.markPulse p) s = .next s
    ∧ exec (.spliceEvent p) s = .next s ∧ exec .setCutoff s = .next s
    ∧ exec (.readerRecord p r) s = .next s ∧ exec (.stageNextSlot p) s = .next s
    ∧ exec .renderGrant s = .next s ∧ exec (.loadStart p) s = .next s

/-- The forward advance that brings the guard count to 0 takes up the oldest deferred impression: on
a bound form with a ready head it fires, and the guard count is set again. With none deferred, and none
fallen due, the advance leaves the guard count at 0. Where the ply's next forward count is no such advance
the event changes nothing (the model's choice, assumption log 5). -/
def Obligations.GuardExpiryFiresTheOldestDeferred : Prop :=
  (∀ (p : Ply) (sel : Select) (rest : List Select) (s : State), s.inRun = true →
    s.active p = true → (s.ply p).unit.owed = 0 → (s.ply p).head.guardCount = 1 →
    (s.ply p).head.deferred = sel :: rest → (s.ply p).unit.position + 1 < s.cutoff →
    s.boundAt (s.ply p).unit.headSlot ≠ none → (s.ply p).head.inhibit = false →
    (s.ply p).unit.registration.trusted = true → s.readyToFire p = true →
    0 < (s.ply p).guardInForce →
    ∃ t, exec (.guardExpiry p) s = .next t ∧ t.out = .fire p sel :: s.out
      ∧ (t.ply p).head.guardCount = (s.ply p).guardInForce
      ∧ (t.ply p).unit = { (s.ply p).unit with position := (s.ply p).unit.position + 1 }
      ∧ (∀ q, q ≠ p → (t.ply q).unit = (s.ply q).unit)
      ∧ (∀ i, i < (s.ply p).unit.headSlot → t.slotAt i = s.slotAt i)
      ∧ t.marriageSlot = s.marriageSlot ∧ s.PressFrame t)
  ∧ ∀ (p : Ply) (s : State),
    (s.inRun = true → s.active p = true → (s.ply p).unit.owed = 0 → (s.ply p).head.guardCount = 1 →
      (s.ply p).head.deferred = [] → (s.ply p).unit.position + 1 < s.cutoff →
      (∀ i ∈ (s.ply p).head.plan, i.state = .waiting → i.phase ≠ (s.ply p).unit.position + 1) →
      exec (.guardExpiry p) s = .next (s.modPly p fun ps => { ps with
        unit := { ps.unit with position := ps.unit.position + 1 }
        head := { ps.head with
          guardCount := 0
          plan := ps.head.plan.map fun i =>
            if i.state = .deferred then { i with error := min (i.error + 1) 65535 } else i } }))
    ∧ (s.active p = false ∨ 0 < (s.ply p).unit.owed ∨ (s.ply p).head.guardCount ≠ 1 →
      exec (.guardExpiry p) s = .next s)

/-- A mark pulse is accepted or ignored by registration, mark taken and the mark window; an accepted
one snaps the position to E, clears the owed count and makes the ply LOCKED. No other ply's unit
changes. A forward snap makes the WAITING impressions in x+1..E fall due, each with its distance to E as
its error, one dropped because an earlier one closed the form among them (the model's reading, assumption
log 36); a backward snap fires nothing, and raises by x−E the error of each FIRED or DEFERRED
impression in E+1..x, with Misplaced and a MISPLACE spoil where a FIRED one then exceeds the tolerance
(of one that had been deferred, the model's reading, assumption log 44). -/
def Obligations.MarkPulseSnapsOrIsIgnored : Prop :=
  ∀ (p : Ply) (v : RunValues) (s : State), s.inRun = true → s.active p = true →
    (s.ply p).run = some v →
    let u := (s.ply p).unit
    let e := (s.ply p).record.markPhase
    let snapped : PositionUnit := { position := e, owed := 0, registration := .locked
                                    headSlot := u.headSlot, markTaken := true
                                    spliceWatch := u.spliceWatch }
    ((u.markTaken = true ∨ u.registration = .lost
        ∨ ((u.registration = .locked ∨ u.registration = .coast)
          ∧ (u.position + v.window < e ∨ e + v.window < u.position))) →
      exec (.markPulse p) s = .next s)
    ∧ (u.markTaken = false → (u.registration = .search
        ∨ ((u.registration = .locked ∨ u.registration = .coast)
          ∧ e ≤ u.position + v.window ∧ u.position ≤ e + v.window)) →
      ∃ t, exec (.markPulse p) s = .next t
        ∧ (t.ply p).unit = snapped
        ∧ (∀ q, q ≠ p → (t.ply q).unit = (s.ply q).unit)
        ∧ (∀ i, i < u.headSlot → t.slotAt i = s.slotAt i)
        ∧ t.marriageSlot = s.marriageSlot ∧ t.slots.length = s.slots.length ∧ s.PressFrame t
        ∧ (u.position ≤ e →
          ((s.ply p).head.waitingIn (u.position + 1) e = [] → t = s.modUnit p fun _ => snapped)
          ∧ (((s.ply p).head.plan.map (·.select)).Nodup → ∀ i ∈ (s.ply p).head.plan,
            i.state = .waiting → u.position < i.phase → i.phase ≤ e →
            ∀ k ∈ (t.ply p).head.plan, k.select = i.select → k.phase = i.phase
              ∧ k.error = min (e - i.phase) 65535 ∧ k.state ≠ .waiting)
          ∧ (∀ sel, (s.ply p).head.waitingIn (u.position + 1) e = [sel] →
            (s.ply p).head.impState sel = some .waiting → s.boundAt u.headSlot ≠ none →
            (s.ply p).head.inhibit = false → s.readyToFire p = true →
            ((s.ply p).head.guardCount = 0 → t.out = .fire p sel :: s.out)
            ∧ (0 < (s.ply p).head.guardCount → t.out = s.out
              ∧ (t.ply p).head.deferred = (s.ply p).head.deferred ++ [sel])))
        ∧ (e < u.position → t.out = s.out
          ∧ (((s.ply p).head.plan.map (·.select)).Nodup →
            (t.ply p).head.plan = (s.ply p).head.plan.map (fun i =>
              if (i.state = .fired ∨ i.state = .deferred) ∧ e < i.phase ∧ i.phase ≤ u.position then
                { i with error := min (i.error + (u.position - e)) 65535 } else i)
            ∧ ∀ i ∈ (s.ply p).head.plan, i.state = .fired → e < i.phase → i.phase ≤ u.position →
              ∀ slot b r lay, s.slotAt u.headSlot = some slot → slot.disp = .bound b none →
              slot.subs.get p = some r → s.segmentLayout b.segment = some lay →
              let error := min (i.error + (u.position - e)) 65535
              (∃ k w, t.subAt u.headSlot p = some k ∧ k.error = some w ∧ error ≤ w
                ∧ (lay.tolerance < error → k.misplaced = true))
              ∧ (lay.tolerance < error →
                (t.slotAt u.headSlot).map (·.disp) = some (s.spoiled b ⟨.misplace, p⟩)))))

/-- A splice pulse that repeats its target is ignored; an OPEN target becomes SKIP with a SKIP-INSERT
notice; on a SKIP or VOID target only the Splice flag is set; a touched BOUND one is spoiled; a target
not yet created is created and becomes SKIP. With a target that is RETIRED, or not yet created and
refused for want of room or as above 4 294 967 295, the splice watch is set and nothing else changes. -/
def Obligations.SplicePulseActsOnItsTarget : Prop :=
  ∀ (p : Ply) (k : Nat) (s : State), s.inRun = true → s.active p = true →
    (s.ply p).record.splice = some k →
    let j := (s.ply p).unit.headSlot + k
    let w := s.modUnit p fun u => { u with spliceWatch := some j }
    let flag := fun slot : Slot => slot.modSub p fun r => { r with splice := true }
    ((s.ply p).unit.spliceWatch = some j → exec (.spliceEvent p) s = .next s)
    ∧ ((s.ply p).unit.spliceWatch ≠ some j →
      (∀ slot, s.slotAt j = some slot → slot.disp = .opened →
        exec (.spliceEvent p) s = .next
          ((w.modSlot j fun slot => (flag slot).makeSkip).notify (.skipInsert p j none)))
      ∧ (∀ slot, s.slotAt j = some slot → (slot.disp = .skip ∨ ∃ b r, slot.disp = .void b r) →
        exec (.spliceEvent p) s = .next (w.modSlot j flag))
      ∧ (∀ slot b m, s.slotAt j = some slot → slot.disp = .bound b m → slot.touched = true →
        exec (.spliceEvent p) s = .next ((w.modSlot j flag).takeSpoil j ⟨.splice, p⟩))
      ∧ (s.windowEnd ≤ j → s.hasRoom j = true →
        ∃ t, exec (.spliceEvent p) s = .next t ∧ t.windowEnd = j + 1
          ∧ (t.slotAt j).map (·.disp) = some .skip
          ∧ (∀ i, i < s.windowEnd → t.slotAt i = s.slotAt i)
          ∧ t.plies = w.plies ∧ t.cursor = s.cursor ∧ t.makeups = s.makeups ∧ s.PressFrame t)
      ∧ (j < s.marriageSlot → exec (.spliceEvent p) s = .next w)
      ∧ (s.windowEnd ≤ j → (4294967295 < j ∨ s.marriageSlot + 128 ≤ j) →
        exec (.spliceEvent p) s = .next w))

/-- A splice skip: an untouched BOUND target becomes SKIP with its Splice flag set, and loses its
binding. Every BOUND slot above it becomes VOID with COLLATERAL, SKIP or OPEN as a rewind makes it. The
cursor returns to the Cursor-before of a target that was no make-up, and else of the lowest slot above it
that was none, if any; a make-up target gives its value back to the list, unless it was spoil-pending or
the value is recalled. The list loses the values recalled, and the values given back join it, the
target's first and the others in set-index order (assumption log 46), before the cursor is restored
(assumption log 47); a list that this empties has its batch flag cleared (assumption log 14). Every
active ply's queue is flushed from above the target and its LOADED image tested. Rollbacks is not
raised. With room in the notice queue, the notices that the joins send and then SKIP-INSERT are queued,
SKIP-INSERT with the binding undone, what the rewind did, and the cursor after it. That it carries the
values returned, not added and removed as numbers is assumption log 48; that the joins' notices come first
is log 13; and that a print state of NONE stays NONE in a slot made VOID, as R10 says against R108, is log
45 (DEDUCED, unsafe). -/
def Obligations.SpliceSkipUndoesTheBinding : Prop :=
  ∀ (p : Ply) (k : Nat) (slot : Slot) (b : Binding) (m : Option SpoilMark) (s : State),
    s.inRun = true → s.active p = true → (s.ply p).record.splice = some k →
    (s.ply p).unit.spliceWatch ≠ some ((s.ply p).unit.headSlot + k) →
    s.slotAt ((s.ply p).unit.headSlot + k) = some slot → slot.disp = .bound b m →
    ¬ slot.IsTouched →
    let j := (s.ply p).unit.headSlot + k
    let w := s.modUnit p fun u => { u with spliceWatch := some j }
    let undone := (b, m) :: bindingsOf (s.slots.drop (j + 1 - s.marriageSlot))
    ∃ t, exec (.spliceEvent p) s = .next t
      ∧ t.slotAt j = some { (slot.modSub p fun r => { r with splice := true }).mapPrint
        (fun k => if k = .pending ∨ k = .none then .notPrinted else k) with disp := .skip }
      ∧ (∀ i x, j < i → t.slotAt i = some x → x.isBound = false)
      ∧ s.SlotsRewound t (j + 1)
      ∧ (∀ i, i < j → t.slotAt i = s.slotAt i) ∧ t.slots.length = s.slots.length
      ∧ (∀ cb c, b.before = some cb → s.cursor = some c → t.cursor = some
        { state := if c.state = .closed then .closed else .active
          segment := cb.segment, pass := cb.pass, next := cb.next, issued := cb.issued })
      ∧ t.cursor = s.cursor.map (restored undone)
      ∧ s.ListCorrected t undone
      ∧ (entriesBack undone = [] → t.runState = s.runState ∧ t.causes = s.causes)
      ∧ (let kept := entriesKept undone s.makeups
        let flag := s.batch && !kept.isEmpty
        s.HeldByJoins t flag kept.length t.makeups.length
        ∧ (s.notices.length ≤ 45 → t.notices = s.notices
          ++ s.joinNotices flag kept.length t.makeups.length
          ++ [⟨.skipInsert p j (some (b, s.rewindCounts t undone j, t.cursor)), .owner⟩]))
      ∧ w.HeadsTested t (fun x => decide (x.slot ≤ j))
      ∧ t.tallies = s.tallies ∧ t.marriageSlot = s.marriageSlot ∧ s.PressFrame t

/-! ## Marriages (Chapter 6) -/

/-- The marriage of a set whose plies are aligned and whose forms leave no spoil to the final checks: the
outcome is that of its disposition, it is counted, recorded and retired, and the marker shows it. Retired
and the tally of its outcome rise by one, and Make-up good with a GOOD make-up (below 4 294 967 295, past
which assumption log 8 leaves the value free); no other tally changes. A set that ended a pass is reported SEGMENT-DONE. A ply whose need for a slot waited has it created as the slot
leaves (assumption log 42). The run is over where the completion test or the end of draining finds it so:
RUN-END is sent and the teardown performed. With the window empty the marriage slot is created and
married. -/
def Obligations.AlignedMarriageJudgesTheSet : Prop :=
  (∀ (slot : Slot) (rest : List Slot) (s : State), s.inRun = true → s.slots = slot :: rest →
    (∀ p, s.active p = true → (s.ply p).unit.headSlot = s.marriageSlot + (s.ply p).record.pathLength
      ∨ (s.ply p).unit.headSlot = s.marriageSlot + (s.ply p).record.pathLength + 1) →
    (∀ p r, s.active p = true → slot.skipIfOpen.subs.get p = some r →
      r.print ≠ .pending ∧ (r.verify = .await → r.print ≠ .printed)) →
    let judged := slot.skipIfOpen
    let outcome : SetOutcome := match judged.disp with
      | .opened => .blank
      | .skip => .blank
      | .bound _ none => .good
      | .bound _ (some _) => .spoiled
      | .void _ (.spoil _) => .spoiled
      | .void _ .collateral => .void
      | .void _ .abort => .void
    let passDone := judged.binding.toList.filter fun b =>
      (match b.before, s.segment b.segment with
        | some cb, some g => decide (cb.issued + 1 = g.quantity)
        | _, _ => false)
      && (decide (outcome = .good) || decide (outcome = .spoiled))
    let asked := ∃ p, s.active p = true ∧ (s.ply p).head.queue.length < 4
      ∧ (∀ r, s.render = some r → r.ply ≠ p) ∧ (s.ply p).nextNeeded = s.marriageSlot + 128
      ∧ s.marriageSlot + 128 ≤ 4294967295 ∧ s.slots.length ≤ 128
    ∃ t, exec .setCutoff s = .next t
      ∧ t.lastMarriage = some ⟨s.marriageSlot, outcome, judged.binding, judged.spoilMark⟩
      ∧ t.tallies = s.tallies.count outcome judged.isMakeup
      ∧ (let counts := fun (hit : Prop) (before after : Nat) =>
          (hit → before < 4294967295 → after = before + 1) ∧ (¬ hit → after = before)
        counts True s.tallies.retired t.tallies.retired
        ∧ counts (outcome = .good) s.tallies.good t.tallies.good
        ∧ counts (outcome = .spoiled) s.tallies.spoiled t.tallies.spoiled
        ∧ counts (outcome = .void) s.tallies.void t.tallies.void
        ∧ counts (outcome = .blank) s.tallies.blank t.tallies.blank
        ∧ counts (outcome = .good ∧ ∃ b, judged.Carries b ∧ b.before = none)
          s.tallies.makeupGood t.tallies.makeupGood
        ∧ t.tallies.skipped = s.tallies.skipped ∧ t.tallies.rollbacks = s.tallies.rollbacks
        ∧ t.tallies.withdrawn = s.tallies.withdrawn)
      ∧ (s.isOver rest = false → t.runState = s.runState ∧ t.marriageSlot = s.marriageSlot + 1
        ∧ (asked → t.slots = rest ++ List.replicate (129 - s.slots.length) s.freshSlot)
        ∧ (¬ asked → t.slots = rest)
        ∧ t.marker = decide (outcome ≠ .good) ∧ t.plies = s.plies ∧ t.makeups = s.makeups
        ∧ t.cursor = s.cursor ∧ t.batch = s.batch ∧ t.render = s.render ∧ t.causes = s.causes)
      ∧ (s.isOver rest = true → s.TornDown t)
      ∧ (s.notices.length ≤ 45 → t.notices = s.notices
        ++ passDone.map (fun b => ⟨.segmentDone s.marriageSlot b outcome, .owner⟩)
        ++ (if s.isOver rest then
            [⟨.runEnd (if s.runState = .running then .complete else .drained) t.tallies s.cursor
                s.batch s.makeups.length, .owner⟩,
              ⟨.runState .idle HoldCauses.empty none, .owner⟩]
          else []))
      ∧ t.out = s.out ∧ s.PressFrame t)
  ∧ ∀ s : State, s.inRun = true → s.slots = [] → s.marriageSlot ≤ 4294967295 →
    exec .setCutoff s = exec .setCutoff { s with slots := [s.freshSlot] }

/-- A ply out of alignment at a marriage has ALIGNMENT captured for the set married, at the ply's
position, and its head inhibited where the kind is in its inhibit set; a BOUND set is SPOILED with the
reason ALIGN of the first such ply. Of aligned plies, the first whose form the final checks find still
PENDING, or PRINTED and still AWAIT, spoils a BOUND set with MISS or NORESULT. -/
def Obligations.MisalignedPlyIsCaptured : Prop :=
  ∀ (p : Ply) (slot : Slot) (rest : List Slot) (s : State), s.inRun = true →
    s.slots = slot :: rest → s.active p = true →
    let aligned := fun q =>
      (s.ply q).unit.headSlot = s.marriageSlot + (s.ply q).record.pathLength
      ∨ (s.ply q).unit.headSlot = s.marriageSlot + (s.ply q).record.pathLength + 1
    let spoils := fun (t : State) (b : Binding) (reason : Reason) =>
      t.lastMarriage = some ⟨s.marriageSlot, .spoiled, some b, some ⟨reason, p⟩⟩
      ∧ (s.tallies.retired < 4294967295 → t.tallies.retired = s.tallies.retired + 1)
      ∧ (s.tallies.spoiled < 4294967295 → t.tallies.spoiled = s.tallies.spoiled + 1)
      ∧ t.tallies.good = s.tallies.good
      ∧ (t.runState ≠ .idle → t.marker = true ∧ t.marriageSlot = s.marriageSlot + 1)
    (¬ aligned p →
      ∃ t, exec .setCutoff s = .next t
        ∧ ((s.ply p).capture = none → (t.ply p).capture =
          some ⟨.alignment, s.marriageSlot, (s.ply p).unit.position, false⟩)
        ∧ (∀ k, (s.ply p).capture = some k → (t.ply p).capture = some { k with more := true })
        ∧ ((s.ply p).record.inhibitSet.alignment = true → (t.ply p).head.inhibit = true)
        ∧ t.out = s.out ∧ s.PressFrame t
        ∧ ((∀ q, s.active q = true → plyNumber q < plyNumber p → aligned q) →
          ∀ b, slot.disp = .bound b none → spoils t b .align))
    ∧ ((∀ q, s.active q = true → aligned q) → ∀ b r, slot.disp = .bound b none →
      slot.subs.get p = some r →
      (∀ q k, s.active q = true → plyNumber q < plyNumber p → slot.subs.get q = some k →
        k.print ≠ .pending ∧ (k.verify = .await → k.print ≠ .printed)) →
      ∃ t, exec .setCutoff s = .next t ∧ t.out = s.out ∧ s.PressFrame t
        ∧ (r.print = .pending → spoils t b .miss)
        ∧ (r.print = .printed → r.verify = .await → spoils t b .noresult))

/-! ## Reader records (Chapter 5) -/

/-- A record in sequence is associated with the lowest awaiting form of its ply: compared with the
verify field where the form is PRINTED, and SEEN otherwise. The verify field is field A where the ply is
in ply mask A of the layout of the slot's segment, and else field B, of the slot's stored serial. A
record after a gap of k, 1 to 127, first
makes the k lowest awaiting forms NORESULT and then spoils those of them that are PRINTED (the order is
the model's, assumption log 34), and is then associated as a record in sequence is, or reported
UNMATCHED with the number expected before it (assumption log 29). -/
def Obligations.RecordInSequenceIsAssociated : Prop :=
  (∀ (p : Ply) (seq : Byte) (chars : List Byte) (j : Nat) (more : List Nat) (slot : Slot)
    (r : SubRecord) (s : State), s.takesRecords p = true →
    ((s.ply p).checker.synced = true → (s.ply p).checker.expected = seq) →
    s.awaiting p = j :: more → s.slotAt j = some slot → slot.subs.get p = some r →
    1 ≤ chars.length → chars.length ≤ 16 →
    let synced := s.modChecker p fun _ => ⟨true, seq + 1⟩
    (∀ b g lay, r.print = .printed → slot.Carries b → s.segment b.segment = some g →
      s.layout g.layout = some lay →
      let field := if lay.maskA.get p = true then lay.textA b.serial else lay.textB b.serial
      (chars = field → exec (.readerRecord p (.text seq chars)) s =
        .next (synced.modSub j p fun r => { r with verify := .isMatch }))
      ∧ (chars ≠ field → exec (.readerRecord p (.text seq chars)) s =
        .next ((synced.modSub j p fun r => { r with verify := .mismatch }).takeSpoil j ⟨.mismatch, p⟩)))
    ∧ (r.print = .printed →
      exec (.readerRecord p (.noRead seq)) s =
        .next ((synced.modSub j p fun r => { r with verify := .noread }).takeSpoil j ⟨.noread, p⟩))
    ∧ (r.print ≠ .printed →
      exec (.readerRecord p (.text seq chars)) s =
        .next (synced.modSub j p fun r => { r with verify := .seen })
      ∧ exec (.readerRecord p (.noRead seq)) s =
        .next (synced.modSub j p fun r => { r with verify := .seen })))
  ∧ ∀ (p : Ply) (seq : Byte) (r : ReaderRecord) (s : State), s.takesRecords p = true →
    (r = .noRead seq ∨ ∃ chars, r = .text seq chars ∧ 1 ≤ chars.length ∧ chars.length ≤ 16) →
    (s.ply p).checker.synced = true →
    let expected := (s.ply p).checker.expected
    let k := (seq - expected).toNat
    1 ≤ k → k < 128 →
    let passed := (s.awaiting p).take k
    let marked := passed.foldl
      (fun s j => s.modSub j p fun r => { r with verify := .noresult }) s
    let spoiled := passed.foldl (fun s j =>
      if (s.subAt j p).map (·.print) = some .printed then s.takeSpoil j ⟨.noresult, p⟩ else s) marked
    let atRecord := spoiled.modChecker p fun _ => ⟨true, seq⟩
    atRecord.awaiting p = (s.awaiting p).drop k
    ∧ (atRecord.awaiting p ≠ [] →
      exec (.readerRecord p r) s = exec (.readerRecord p r) atRecord)
    ∧ (atRecord.awaiting p = [] → exec (.readerRecord p r) s =
      .next ((spoiled.modChecker p fun _ => ⟨true, seq + 1⟩).notify
        (.stray p (.unmatched seq) expected)))

/-- A record that is old, unreadable or unmatched is reported STRAY; only an unmatched one moves the
expected number on. The expected number that an unmatched record is reported with is the one before
the record moved it, which is the model's choice (assumption log 29). -/
def Obligations.StrayRecordsAreReported : Prop :=
  ∀ (p : Ply) (seq : Byte) (s : State), s.takesRecords p = true →
    (∀ r : ReaderRecord,
      (r = .noRead seq ∨ ∃ chars, r = .text seq chars ∧ 1 ≤ chars.length ∧ chars.length ≤ 16) →
      (s.ply p).checker.synced = true → 128 ≤ (seq - (s.ply p).checker.expected).toNat →
      exec (.readerRecord p r) s =
        .next (s.notify (.stray p (.old seq) (s.ply p).checker.expected)))
    ∧ (∀ chars : List Byte, chars.length = 0 ∨ 16 < chars.length →
      exec (.readerRecord p (.text seq chars)) s =
        .next (s.notify (.stray p .format (s.ply p).checker.expected)))
    ∧ exec (.readerRecord p .unreadable) s =
        .next (s.notify (.stray p .format (s.ply p).checker.expected))
    ∧ (∀ r : ReaderRecord,
      (r = .noRead seq ∨ ∃ chars, r = .text seq chars ∧ 1 ≤ chars.length ∧ chars.length ≤ 16) →
      ((s.ply p).checker.synced = true → (s.ply p).checker.expected = seq) → s.awaiting p = [] →
      exec (.readerRecord p r) s =
        .next ((s.modChecker p fun _ => ⟨true, seq + 1⟩).notify
          (.stray p (.unmatched seq) (s.ply p).checker.expected)))

/-! ## Staging and rendering (Chapter 2) -/

/-- A Head Controller acts on its next needed slot: one not yet created is created where there is
room, a blank one joins the queue as BLANK, and a slot to render or to wait for changes nothing. A slot is
created OPEN with stamp 0 and a sub-record for each active ply and no other: PENDING, Fired 0, no
Placement error, Misplaced no, verify ABSENT where the ply has no reader and NOT-DUE where it has one,
Splice no and no second reason. -/
def Obligations.StagingActsOnTheNextNeededSlot : Prop :=
  (∀ s : State, s.freshSlot.disp = .opened ∧ s.freshSlot.stamp = 0
    ∧ ∀ q, s.freshSlot.subs.get q = if s.active q = true then
        some ⟨.pending, 0, none, false,
          if (s.ply q).record.readerDistance = 0 then .absent else .notDue, false, none⟩
      else none)
  ∧ ∀ (p : Ply) (s : State), s.inRun = true → s.active p = true →
    (s.ply p).head.queue.length < 4 → (∀ r, s.render = some r → r.ply ≠ p) →
    let j := (s.ply p).nextNeeded
    let blank := s.modHead p fun h => { h with queue := h.queue ++ [.blank j] }
    (s.windowEnd ≤ j → s.marriageSlot ≤ j → s.hasRoom j = true →
      exec (.stageNextSlot p) s = .next
        { s with slots := s.slots ++ List.replicate (j + 1 - s.windowEnd) s.freshSlot })
    ∧ (s.windowEnd ≤ j → s.marriageSlot ≤ j → s.hasRoom j = false →
      exec (.stageNextSlot p) s = .next s)
    ∧ (∀ slot, s.slotAt j = some slot → (slot.disp = .skip ∨ ∃ b r, slot.disp = .void b r) →
      exec (.stageNextSlot p) s = .next blank)
    ∧ (∀ slot b m, s.slotAt j = some slot → slot.disp = .bound b m →
      ((slot.subs.get p).map (·.print) = some .none → exec (.stageNextSlot p) s = .next blank)
      ∧ ((slot.subs.get p).map (·.print) ≠ some .none → exec (.stageNextSlot p) s = .next s))
    ∧ (∀ slot, s.slotAt j = some slot → slot.disp = .opened → exec (.stageNextSlot p) s = .next s)

/-- A requester is an active ply of a run with room in its queue, not being served, whose next needed
slot is BOUND with a field for it, or OPEN above every active head slot with the binding gate open. The
arbiter chooses among the requesters one whose queue holds the fewest entries, and among those tied the
first in the order that follows the ply last granted; with no requester it chooses none. So no grant
binds an OPEN slot while the gate is shut, or one that does not lie above every active head slot. -/
def Obligations.ArbiterChoosesTheShortestQueue : Prop :=
  ∀ s : State,
    (s.chosen = none ↔ ∀ p, s.isRequester p = false)
    ∧ (∀ p, s.chosen = some p → s.isRequester p = true
      ∧ ∀ q, s.isRequester q = true →
        (s.ply p).head.queue.length < (s.ply q).head.queue.length
        ∨ ((s.ply p).head.queue.length = (s.ply q).head.queue.length
          ∧ (pliesAfter s.lastGranted).idxOf p ≤ (pliesAfter s.lastGranted).idxOf q))
    ∧ (∀ p, s.isRequester p = true ↔
      s.runState ≠ .idle ∧ s.active p = true ∧ (s.ply p).head.queue.length < 4
      ∧ (∀ r, s.render = some r → r.ply ≠ p)
      ∧ ∃ slot, s.slotAt (s.ply p).nextNeeded = some slot
        ∧ ((∃ b m, slot.disp = .bound b m ∧ (slot.subs.get p).map (·.print) ≠ some .none)
          ∨ (slot.disp = .opened
            ∧ (∀ q, s.active q = true → (s.ply q).unit.headSlot < (s.ply p).nextNeeded)
            ∧ s.GateIsOpen)))
    ∧ ∃ t, exec .renderGrant s = .next t
      ∧ ∀ j slot, s.slotAt j = some slot → slot.disp = .opened →
        (¬ s.GateIsOpen ∨ ∃ q, s.active q = true ∧ j ≤ (s.ply q).unit.headSlot) →
        t.slotAt j = some slot

/-- A grant of an OPEN slot with no batch running binds it from the cursor: the slot takes the
cursor's next value with every field of a binding, its stamp rises by one, an entry of the list with
that value and segment is settled, and the cursor advances. Where the pass is complete the chain step is
taken: the cursor is PAUSED, at CHAIN-END (with the batch flag under AUTO), in the next segment, or PAUSED
before a segment that may not be entered. Where no value is found it is EXHAUSTED with its resume value
and the cause SEQUENCE is given. The render begins, unless the layout gives the ply no field, in which
case the unit stays idle (the model's reading, assumption log 23; the order of the notices is log 13). -/
def Obligations.GrantBindsFromTheCursor : Prop :=
  ∀ (p : Ply) (slot : Slot) (c : Cursor) (g : Segment) (lay : Layout) (serial : Nat) (s : State),
    s.render = none → s.chosen = some p → s.slotAt (s.ply p).nextNeeded = some slot →
    slot.disp = .opened → s.batch = false → s.cursor = some c → c.state = .active →
    s.segment c.segment = some g → s.layout g.layout = some lay →
    serialUnder s.blocks lay c.next = some serial →
    let j := (s.ply p).nextNeeded
    let list := s.makeups.filter fun e =>
      !(decide (e.value = c.next) && decide (e.segment = c.segment))
    let next := { c with next := c.next + 1, issued := c.issued + 1 }
    let runs := fun t : State => t.runState = s.runState ∧ t.causes = s.causes
    let skips := fun (t : State) (k : Nat) =>
      t.tallies = { s.tallies with skipped := min (s.tallies.skipped + k) 4294967295 }
    let exhausts := fun (t : State) (c : Cursor) (r k : Nat) =>
      t.cursor = some { c with state := .exhausted, next := r } ∧ skips t k ∧ t.batch = false
      ∧ t.runState = .held ∧ t.causes = { s.causes with sequence := true }
      ∧ (s.notices.length ≤ 46 → t.notices = s.notices
        ++ [⟨.runState .held { s.causes with sequence := true } s.drain, .owner⟩,
          ⟨.exhausted r, .owner⟩])
    let finds := fun (t : State) (c : Cursor) (v k : Nat) =>
      t.cursor = some { c with state := .active, next := v } ∧ skips t k ∧ t.batch = false ∧ runs t
    let pauses := fun (t : State) (cause : PauseCause) =>
      t.cursor = some { next with state := .paused } ∧ t.batch = false ∧ runs t
      ∧ (s.notices.length ≤ 47 → t.notices = s.notices
        ++ [⟨.segmentPause c.segment c.pass g.next cause, .owner⟩])
    ∃ t, exec .renderGrant s = .next t
      ∧ t.slotAt j = some
        { disp := .bound { value := c.next, serial := serial, segment := c.segment, pass := c.pass
                           before := some ⟨c.segment, c.pass, c.next, c.issued⟩ } none
          stamp := slot.stamp + 1
          subs := slot.subs.map fun q o => o.map fun r =>
            if lay.maskA.get q || lay.maskB.get q then r else { r with print := .none } }
      ∧ (∀ k, k ≠ j → t.slotAt k = s.slotAt k)
      ∧ t.makeups = list
      ∧ (c.issued + 1 < g.quantity →
        (∀ v k, normalise s.blocks (some lay) (c.next + 1) = .found v k → finds t next v k)
        ∧ (∀ r k, normalise s.blocks (some lay) (c.next + 1) = .exhausted r k →
          exhausts t next r k))
      ∧ (g.quantity ≤ c.issued + 1 →
        (g.endAction = .pause → pauses t .endAction)
        ∧ (g.endAction = .carryOn →
          (g.next = none ∨ c.pass = 65535 → t.cursor = some { next with state := .chainEnd }
            ∧ t.batch = (decide (s.endMakeups = some .auto) && !list.isEmpty) ∧ runs t)
          ∧ ∀ i, g.next = some i → c.pass ≠ 65535 →
            (s.segment i = none → pauses t .segmentEmpty)
            ∧ ∀ g', s.segment i = some g' →
              (∀ lay', s.layout g'.layout = some lay' → s.layoutFits lay' = false →
                pauses t .layoutUnfit)
              ∧ ((∀ lay', s.layout g'.layout = some lay' → s.layoutFits lay' = true) →
                let entry : Cursor := ⟨.active, i, c.pass + 1, c.next + 1, 0⟩
                (∀ v k, normalise s.blocks (s.layout g'.layout) (g'.start.getD (c.next + 1))
                  = .found v k → finds t entry v k)
                ∧ (∀ r k, normalise s.blocks (s.layout g'.layout) (g'.start.getD (c.next + 1))
                  = .exhausted r k → exhausts t entry r k))))
      ∧ t.render = (if (t.subAt j p).map (·.print) = some .none then none
        else some ⟨p, j, slot.stamp + 1⟩)
      ∧ t.lastGranted = p
      ∧ t.plies = s.plies ∧ t.marriageSlot = s.marriageSlot ∧ s.PressFrame t

/-- A grant of an OPEN slot while a batch runs binds it with the lowest entry of the list, leaving the
cursor where it stands, and begins the render unless the layout gives the ply no field (the model's
reading, assumption log 23); a grant of a BOUND slot begins the render alone. -/
def Obligations.GrantBindsTheLowestMakeup : Prop :=
  ∀ (p : Ply) (slot : Slot) (s : State), s.render = none → s.chosen = some p →
    s.slotAt (s.ply p).nextNeeded = some slot →
    let j := (s.ply p).nextNeeded
    (∀ e rest lay serial, slot.disp = .opened → s.batch = true → s.makeups = e :: rest →
      s.segmentLayout e.segment = some lay → serialUnder s.blocks lay e.value = some serial →
      let made := slot.bind
        { value := e.value, serial := serial, segment := e.segment, pass := e.pass
          before := none } lay
      exec .renderGrant s = .next
        { s.modSlot j (fun _ => made) with
          makeups := rest
          batch := !rest.isEmpty
          render := if (made.subs.get p).map (·.print) = some .none then none
            else some ⟨p, j, slot.stamp + 1⟩
          lastGranted := p })
    ∧ (∀ b m, slot.disp = .bound b m →
      exec .renderGrant s = .next { s with render := some ⟨p, j, slot.stamp⟩, lastGranted := p })

/-- A completion appends the image of a slot that is still BOUND with the stamp of the grant and is
still the ply's next needed slot, and otherwise discards it. The image carries, for the plies of their
masks, field A (the prefix, the W digits of the serial, and under a check method the separator and the
check character) and field B (the W digits). Under fill SPACE a leading zero is a space, the rightmost
digit apart. On a NARROW head a field of more than 8 characters is split after the eighth into A1 and A2,
or B1 and B2. -/
def Obligations.CompletionAppendsACurrentImage : Prop :=
  (∀ (r : Render) (s : State), s.render = some r →
    (∀ slot b m lay, s.slotAt r.slot = some slot → slot.disp = .bound b m → slot.stamp = r.stamp →
      (s.ply r.ply).nextNeeded = r.slot → s.segmentLayout b.segment = some lay →
      exec .renderCompletion s = .next ({ s with render := none }.modHead r.ply fun h =>
        { h with queue := h.queue ++
          [Entry.image (composeImage lay r.ply (s.ply r.ply).record.headClass r.slot r.stamp b.serial)
            false] }))
    ∧ ((s.ply r.ply).nextNeeded ≠ r.slot
        ∨ (∀ slot b m, s.slotAt r.slot = some slot → slot.disp = .bound b m → slot.stamp ≠ r.stamp) →
      exec .renderCompletion s = .next { s with render := none }))
  ∧ ∀ (lay : Layout) (p : Ply) (c : HeadClass) (slot : Nat) (stamp : Byte) (n : Nat),
    let img := composeImage lay p c slot stamp n
    let leading := fun i => lay.fill = .space ∧ i + 1 < lay.width
      ∧ n % 10 ^ lay.width < 10 ^ (lay.width - 1 - i)
    let number : List Byte := (List.range lay.width).map fun i =>
      if leading i then 0x20 else BitVec.ofNat 8 (48 + n / 10 ^ (lay.width - 1 - i) % 10)
    let check : List Byte := match lay.checkValue n with
      | none => []
      | some v => lay.separator.toList ++ [if v = 10 then 0x58 else BitVec.ofNat 8 (48 + v)]
    let a := lay.prefixText ++ number ++ check
    let split := fun text : List Byte => c = .narrow ∧ 8 < text.length
    let parts := fun (text : List Byte) (first second : Select) =>
      if split text then [(first, text.take 8), (second, text.drop 8)] else [(first, text)]
    let inA := lay.maskA.get p = true
    let inB := lay.maskB.get p = true
    img.slot = slot ∧ img.stamp = stamp
    ∧ img.fieldA = (if inA then a else []) ∧ img.fieldB = (if inB then number else [])
    ∧ (img.splitA = true ↔ inA ∧ split a) ∧ (img.splitB = true ↔ inB ∧ split number)
    ∧ img.impressions = (if inA then parts a .a1 .a2 else [])
      ++ (if inB then parts number .b1 .b2 else [])
    ∧ (lay.InRange → 1 ≤ a.length ∧ a.length ≤ 16)

/-! ## The head port (Chapter 4) -/

/-- A free head takes a loadable front whose slot is still BOUND with its stamp: its entry is marked
TAKEN, the head is LOADING and the LOAD is sent. A current front for the head slot with an impression
fallen due is marked TAKEN unsent, a stale one whose slot is SKIP, VOID or RETIRED becomes BLANK, and one
whose slot is OPEN or bound anew leaves the queue with every entry above it; the next front is then
considered as if a load start were taken anew. A head that is not free, or that has no waiting entry,
takes nothing. -/
def Obligations.LoadStartTakesTheFront : Prop :=
  ∀ (p : Ply) (s : State),
    (∀ img, s.inRun = true → s.active p = true → (s.ply p).head.load = .empty →
      (s.ply p).head.inhibit = false → stagingFront (s.ply p).head.queue = some img →
      let loadable := (s.ply p).unit.headSlot < img.slot
        ∨ (img.slot = (s.ply p).unit.headSlot ∧ ∀ i ∈ (s.ply p).head.plan, i.state = .waiting)
      let queued := fun f : List Entry → List Entry =>
        s.modHead p fun h => { h with queue := f h.queue }
      (s.current img.slot img.stamp = true → loadable →
        exec (.loadStart p) s = .next ((s.modHead p fun h =>
          { h with queue := replaceFront (.image img true) h.queue, load := .loading img }).emit
          (.load p ⟨img.stamp, BitVec.ofNat 8 img.slot, img.fieldA, img.fieldB, img.splitA, img.splitB⟩)))
      ∧ (s.current img.slot img.stamp = true → ¬ loadable →
        exec (.loadStart p) s = exec (.loadStart p) (queued (replaceFront (.image img true))))
      ∧ (img.slot < s.marriageSlot ∨ (∃ slot, s.slotAt img.slot = some slot
          ∧ (slot.disp = .skip ∨ ∃ b r, slot.disp = .void b r)) →
        exec (.loadStart p) s = exec (.loadStart p) (queued (replaceFront (.blank img.slot))))
      ∧ (∀ slot, s.slotAt img.slot = some slot →
        (slot.disp = .opened ∨ ((∃ b m, slot.disp = .bound b m) ∧ slot.stamp ≠ img.stamp)) →
        exec (.loadStart p) s =
          exec (.loadStart p) (queued (·.filter fun x => decide (x.slot < img.slot)))))
    ∧ ((s.ply p).head.inhibit = true ∨ (s.ply p).head.load ≠ .empty
        ∨ stagingFront (s.ply p).head.queue = none →
      exec (.loadStart p) s = .next s)

/-- An answer of a head ends the outstanding load: ACCEPT keeps a current image that can still be used
and discards another; REJECT and the expiry of the load timer raise their faults with the image's slot
and the ply's position. An answer that carries another stamp, or that finds the head EMPTY or LOADED
with no load outstanding, is ignored, and the load timer does not run then. -/
def Obligations.HeadAnswersEndTheLoad : Prop :=
  ∀ (p : Ply) (stamp cause : Byte) (s : State),
    ((∀ img, (s.ply p).head.load ≠ .loading img) →
      exec (.accept p stamp) s = .next s ∧ exec (.reject p stamp cause) s = .next s
      ∧ exec (.loadTimerExpiry p) s = .next s)
    ∧ ∀ img, (s.ply p).head.load = .loading img →
      let empty := s.modHead p fun h => { h with load := .empty }
      let fault := fun kind cause => empty.raiseFault p
        { kind := kind, index := img.slot, position := (s.ply p).unit.position, cause := cause
          retired := none }
      let usable := (s.ply p).unit.headSlot < img.slot
        ∨ (img.slot = (s.ply p).unit.headSlot ∧ ∀ i ∈ (s.ply p).head.plan, i.state = .waiting)
      (stamp ≠ img.stamp → exec (.accept p stamp) s = .next s
        ∧ exec (.reject p stamp cause) s = .next s)
      ∧ (stamp = img.stamp → s.current img.slot img.stamp = true → usable →
        exec (.accept p stamp) s = .next (s.modHead p fun h => { h with load := .loaded img }))
      ∧ (stamp = img.stamp → (s.current img.slot img.stamp = false ∨ ¬ usable) →
        exec (.accept p stamp) s = .next empty)
      ∧ (stamp = img.stamp → exec (.reject p stamp cause) s = .next (fault .headReject (some cause)))
      ∧ exec (.loadTimerExpiry p) s = .next (fault .headTimeout none)

/-! ## Faults (section 8.7) -/

/-- A fault on a ply: a clear capture becomes held with its kind, set index and position, and a held
one has its more-faults flag set; a kind in the inhibit set inhibits the head; PLY-FAULT is queued, before
what a hold sends (the model's order, assumption log 13); and a fault that inhibits gives the cause FAULT
under fault action HOLD. The alarm is active from then on, as it is while any capture is held or the
run is HELD, and at no other time. -/
def Obligations.FaultIsCapturedAndInhibits : Prop :=
  (∀ (p : Ply) (r : FaultReport) (s : State),
    let t := s.raiseFault p r
    let inhibits := (s.ply p).record.inhibitSet.has r.kind
    ((s.ply p).capture = none → (t.ply p).capture = some ⟨r.kind, r.index, r.position, false⟩)
    ∧ (∀ k, (s.ply p).capture = some k → (t.ply p).capture = some { k with more := true })
    ∧ (t.ply p).head.inhibit = ((s.ply p).head.inhibit || inhibits)
    ∧ (∀ q, q ≠ p → t.ply q = s.ply q)
    ∧ (s.notices.length < 48 → ∃ more, t.notices = s.notices
      ++ ⟨.plyFault p r (decide ((s.ply p).capture = none)) inhibits, .owner⟩ :: more)
    ∧ (s.runState = .running → inhibits = true → s.params.map (·.faultAction) = some .hold →
      t.runState = .held ∧ t.causes = { s.causes with fault := true })
    ∧ ((inhibits = false ∨ s.params.map (·.faultAction) ≠ some .hold) →
      t.runState = s.runState ∧ t.causes = s.causes)
    ∧ t.alarm = true
    ∧ t.slots = s.slots ∧ t.cursor = s.cursor ∧ t.tallies = s.tallies ∧ s.PressFrame t)
  ∧ ∀ s : State, s.alarm = true ↔ s.runState = .held ∨ ∃ p, (s.ply p).capture ≠ none

/-! ## Numbers (Chapter 2) -/

/-- The check value of a printed serial in W digits under each check method, and the separator and
character that field A carries for it: a digit, X for 10 under MOD11W, nothing under NONE. Under MOD10W31,
MOD7R and NONE no value is passed over for its check. Field A is the prefix, the W digits under the
layout's fill, and the separator and check character; field B is those digits alone (section 2.5). Under
fill SPACE a leading zero is a space, but for the rightmost digit. -/
def Obligations.CheckValuesOfEachMethod : Prop :=
  ∀ (lay : Layout) (n : Nat), lay.width ≤ 10 →
    let digit := fun i => n / 10 ^ i % 10
    let weighted := fun w : Nat → Nat => ∑ i ∈ Finset.range lay.width, w i * digit i
    let carries := fun (v : Nat) (c : Byte) =>
      lay.checkValue n = some v ∧ lay.checkText n = lay.separator.toList ++ [c]
    (lay.check = .mod10w31 →
      let v := (10 - weighted (fun i => if i % 2 = 0 then 3 else 1) % 10) % 10
      v ≤ 9 ∧ carries v (BitVec.ofNat 8 (48 + v)) ∧ lay.skipsCheck n = false)
    ∧ (∀ rule, lay.check = .mod11w rule →
      let v := (11 - weighted (fun i => 2 + i % 6) % 11) % 11
      v ≤ 10 ∧ carries v (if v = 10 then 0x58 else BitVec.ofNat 8 (48 + v))
        ∧ (lay.skipsCheck n = true ↔ rule = .skip ∧ v = 10))
    ∧ (lay.check = .mod7r →
      carries (n % 7) (BitVec.ofNat 8 (48 + n % 7)) ∧ lay.skipsCheck n = false)
    ∧ (lay.check = .none →
      lay.checkValue n = none ∧ lay.checkText n = [] ∧ lay.skipsCheck n = false)
    ∧ (let place := fun i => lay.width - 1 - i
      let digits : List Byte := (List.range lay.width).map fun i =>
        if lay.fill = .space ∧ 0 < place i ∧ n % 10 ^ lay.width / 10 ^ place i = 0 then 0x20
        else BitVec.ofNat 8 (48 + digit (place i))
      lay.textA n = lay.prefixText ++ digits ++ lay.checkText n ∧ lay.textB n = digits)

/-- Normalisation finds the first issuable value at or above the candidate, and ends EXHAUSTED only
where there is none. A value is issuable where its block is VALID, its offset lies below the count, its
serial is in range under STOP, and its check value is not one that ten-rule SKIP passes over. The values
counted as skipped are those passed over for their check: in a VALID block, below its count and in range.
The resume value is the first candidate rejected for its block, reached from the first candidate by
passing over checks and by the move of a DESC block (whose offset, where the block has none such, leaves
the candidate rejected as it stands, assumption log 41). Under an EMPTY layout it is the candidate. -/
def Obligations.NormalisationFindsTheFirstIssuable : Prop :=
  (∀ (blocks : Vector (Option Block) 64) (lay : Layout) (c : Nat),
    (∀ v, issuable blocks lay v = true ↔ ∃ blk,
      (blocks[v / 16384]?).join = some blk ∧ v % 16384 < blk.count
      ∧ let serial : Int := match blk.dir with
          | .asc => blk.base + (v % 16384 : Nat)
          | .desc => blk.base - (v % 16384 : Nat)
        (lay.overflow = .stop → 0 ≤ serial ∧ serial ≤ 10 ^ lay.width - 1)
        ∧ ¬ (lay.check = .mod11w .skip
          ∧ lay.checkValue (serial % 10 ^ lay.width).toNat = some 10))
    ∧ (∀ v k, normalise blocks (some lay) c = .found v k →
      c ≤ v ∧ issuable blocks lay v = true ∧ (∀ u, c ≤ u → u < v → issuable blocks lay u = false)
      ∧ k = ((Finset.Ico c v).filter fun u => blockHolds blocks lay u = true).card)
    ∧ (∀ r k, normalise blocks (some lay) c = .exhausted r k →
      (∀ u, c ≤ u → issuable blocks lay u = false)
      ∧ k = ((Finset.Ico c 1048576).filter fun u => blockHolds blocks lay u = true).card
      ∧ Relation.ReflTransGen (fun u w => (blockHolds blocks lay u = true ∧ w = u + 1)
        ∨ MovesTo blocks lay u w) c r
      ∧ blockHolds blocks lay r = false ∧ ∀ w, ¬ MovesTo blocks lay r w))
  ∧ ∀ (blocks : Vector (Option Block) 64) (c : Nat), normalise blocks none c = .exhausted c 0

/-! ## Spoils (Chapter 7) -/

/-- A spoil decided under ROLLBACK voids the slot with its reason, leaves every slot below as it was,
and makes of each BOUND slot above it a VOID one with COLLATERAL where it is touched, a SKIP where an
active head slot has reached it, and an OPEN one above every active head slot. It puts the cursor back to
the slot's Cursor-before, raises Rollbacks and alters no stamp. The list loses the values recalled; the
make-ups undone that were not spoil-pending give their values back unless those are recalled, in
set-index order (assumption log 46), before the cursor is restored (assumption log 47); a list that the
removals empty has its batch flag cleared (assumption log 14). Every active ply's queue is flushed from
above the slot, and its LOADED image given up where it is no longer current; nothing else of a ply
changes. With room in the notice queue, the notices that the joins send, SPOIL with action VOIDED and
ROLLBACK are queued, ROLLBACK with what the rewind did and the cursor after it; that the joins' notices
come first is the model's order (assumption log 13). That a print state of NONE stays NONE in the slots
made VOID, as R10 says against R108, is assumption log 45 (DEDUCED, unsafe). -/
def Obligations.RollbackSpoilUndoesBindings : Prop :=
  ∀ (j : Nat) (mark : SpoilMark) (slot : Slot) (b : Binding) (cb : CursorBefore) (c : Cursor)
    (s : State), s.slotAt j = some slot → slot.disp = .bound b none → b.before = some cb →
    s.policy = some .rollback → s.cursor = some c →
    let t := s.takeSpoil j mark
    let undone := (b, none) :: bindingsOf (s.slots.drop (j + 1 - s.marriageSlot))
    t.slotAt j = some { slot.mapPrint (fun k => if k = .pending then .notPrinted else k) with
      disp := .void b (.spoil mark) }
    ∧ (∀ i x, j < i → t.slotAt i = some x → x.isBound = false)
    ∧ s.SlotsRewound t (j + 1)
    ∧ (∀ i, i < j → t.slotAt i = s.slotAt i)
    ∧ (∀ i, (t.slotAt i).map (·.stamp) = (s.slotAt i).map (·.stamp))
    ∧ t.cursor = some
      { state := if c.state = .closed then .closed else .active
        segment := cb.segment, pass := cb.pass, next := cb.next, issued := cb.issued }
    ∧ s.ListCorrected t undone
    ∧ (entriesBack undone = [] → t.runState = s.runState ∧ t.causes = s.causes)
    ∧ (let kept := entriesKept undone s.makeups
      let flag := s.batch && !kept.isEmpty
      s.HeldByJoins t flag kept.length t.makeups.length
      ∧ (s.notices.length ≤ 44 → t.notices = s.notices
        ++ s.joinNotices flag kept.length t.makeups.length
        ++ [⟨.spoil j mark b .voided, .owner⟩,
          ⟨.rollback j mark (s.rewindCounts t undone j) t.cursor, .owner⟩]))
    ∧ s.HeadsTested t (fun x => decide (x.slot ≤ j))
    ∧ t.tallies = { s.tallies with rollbacks := min (s.tallies.rollbacks + 1) 4294967295 }
    ∧ t.marriageSlot = s.marriageSlot ∧ s.PressFrame t

/-- A spoil decided under DEFER, or of a make-up slot, makes the slot spoil-pending and, where its
value is not listed and there is room, lists it, with the slot as origin where it was no make-up. The
cursor does not move and no other slot changes. A join that leaves 128 entries or more with the batch
flag clear gives the cause MAKEUPS, and the one that brings the list to 128 sends MAKEUP-HIGH; under
AUTO at CHAIN-END a join sets the batch flag. The cause is judged, and MAKEUP-HIGH sent, before that flag
is set (the model's order, assumption log 47). With room in the notice queue, what the join sends and
then SPOIL are queued (in the model's order, assumption log 13), SPOIL with action LISTED, DUPLICATE
where the value was listed, or LIST_FULL where the list held 256. -/
def Obligations.DeferSpoilListsTheValue : Prop :=
  ∀ (j : Nat) (mark : SpoilMark) (slot : Slot) (b : Binding) (s : State),
    s.slotAt j = some slot → slot.disp = .bound b none →
    (b.makeup = true ∨ s.policy ≠ some .rollback) →
    let t := s.takeSpoil j mark
    let joins := s.listed b.value = false ∧ s.makeups.length < 256
    let high := joins ∧ 128 ≤ s.makeups.length + 1 ∧ s.batch = false
    t.slotAt j = some { slot with disp := .bound b (some mark) }
    ∧ (∀ i, i ≠ j → t.slotAt i = s.slotAt i)
    ∧ (joins → t.makeups = insertEntry
      ⟨b.value, b.segment, b.pass, if b.makeup then none else some j⟩ s.makeups)
    ∧ (¬ joins → t.makeups = s.makeups)
    ∧ (high → (s.runState = .running ∨ s.runState = .held) →
      t.runState = .held ∧ t.causes = { s.causes with makeups := true })
    ∧ (¬ high ∨ s.runState = .idle ∨ s.runState = .draining →
      t.runState = s.runState ∧ t.causes = s.causes)
    ∧ (joins → s.makeups.length = 127 → s.notices.length ≤ 45 →
      ⟨.makeupHigh 128 s.batch, .owner⟩ ∈ t.notices)
    ∧ (s.notices.length ≤ 45 → t.notices = s.notices
      ++ s.joinNotices s.batch s.makeups.length t.makeups.length
      ++ [⟨.spoil j mark b (if ∃ e ∈ s.makeups, e.value = b.value then .duplicate
          else if 256 ≤ s.makeups.length then .listFull else .listed), .owner⟩])
    ∧ t.batch = (s.batch || (decide joins && decide (s.endMakeups = some .auto)
      && decide (s.cursor.map (·.state) = some .chainEnd)))
    ∧ t.cursor = s.cursor ∧ t.plies = s.plies ∧ t.tallies = s.tallies ∧ s.PressFrame t

/-! ## Frames (Chapter 9) -/

/-- A receiver takes bytes one by one: hunting, it discards every byte but SYNC; receiving, it
collects; a LEN above 240, a CRC that differs and the expiry of the gap discard the frame and count it.
It then hunts again through the bytes that followed the discarded frame's SYNC, as though they arrived
one after another, so that a SYNC among them begins the next frame; with none, all are discarded. -/
def Obligations.ReceiverCollectsAndDiscards : Prop :=
  ∀ (l : Link) (b : Byte) (s : State),
    let k := s.link l
    let hunts := fun (bytes : List Byte) (u : State) => bytes.foldl (fun o x => match o with
        | .next w => exec (.frameByteReceived l x) w
        | .fault f => .fault f
        | .refused r => .refused r) (Host.Outcome.next u)
    (k.rx = none → b ≠ 0x5A → exec (.frameByteReceived l b) s = .next s)
    ∧ (k.rx = none → b = 0x5A → exec (.frameByteReceived l b) s =
      .next (s.modLink l fun k => { k with rx := some [] }))
    ∧ (∀ buf, k.rx = some buf → rxStatus (buf ++ [b]) = .incomplete →
      exec (.frameByteReceived l b) s = .next (s.modLink l fun k => { k with rx := some (buf ++ [b]) }))
    ∧ (k.rx = some [] → 240 < b.toNat → exec (.frameLengthDiscard l b) s =
      .next (s.modLink l fun k => { k with
        rx := none, counters := { k.counters with length := min (k.counters.length + 1) 65535 } }))
    ∧ (∀ buf, k.rx = some buf → rxStatus (buf ++ [b]) = .badCrc → (0x5A : Byte) ∉ buf → b ≠ 0x5A →
      exec (.frameCrcDiscard l b) s = .next (s.modLink l fun k => { k with
        rx := none, counters := { k.counters with crc := min (k.counters.crc + 1) 65535 } }))
    ∧ (∀ buf, k.rx = some buf → (0x5A : Byte) ∉ buf → exec (.frameGapExpiry l) s =
      .next (s.modLink l fun k => { k with
        rx := none, counters := { k.counters with gap := min (k.counters.gap + 1) 65535 } }))
    ∧ (k.rx = none → exec (.frameGapExpiry l) s = .next s)
    ∧ (k.rx = some [] → 240 < b.toNat →
      exec (.frameByteReceived l b) s = exec (.frameLengthDiscard l b) s)
    ∧ (∀ buf, k.rx = some buf → rxStatus (buf ++ [b]) = .badCrc →
      exec (.frameByteReceived l b) s = exec (.frameCrcDiscard l b) s
      ∧ exec (.frameCrcDiscard l b) s = hunts (buf ++ [b]) (s.modLink l fun k => { k with
        rx := none, counters := { k.counters with crc := min (k.counters.crc + 1) 65535 } }))
    ∧ (∀ buf, k.rx = some buf → exec (.frameGapExpiry l) s = hunts buf (s.modLink l fun k =>
      { k with
        rx := none, counters := { k.counters with gap := min (k.counters.gap + 1) 65535 } }))

/-- The bytes of a frame of any KIND, received one after another by a hunting receiver, are taken as
that frame: what they do is what the frame does when it is taken whole, as BAD_KIND or as the request of
its KIND (that BAD_KIND with the KIND of a request is that request is the model's, assumption log 6). -/
def Obligations.FrameBytesAreTakenAsTheFrame : Prop :=
  ∀ (l : Link) (kind tag : Byte) (pl : List Byte) (s : State), (s.link l).rx = none →
    pl.length ≤ 240 →
    (frame kind tag pl).foldl (fun o b => match o with
        | .next u => exec (.frameByteReceived l b) u
        | .fault f => .fault f
        | .refused r => .refused r) (.next s)
      = exec (.badKind l kind tag pl) s
    ∧ ∀ r, requestCode r = kind →
      exec (.badKind l kind tag pl) s = exec (requestCommand r l tag pl) s

/-- The tests of R166 in order: with 8 replies waiting a frame is discarded and counted in OVERRUN; a
KIND that is no request is refused BAD_KIND; a payload of another length BAD_LENGTH; while a RESTART is
pending WRONG_STATE; and a request that needs control from another link NOT_OWNER. A refused request
changes nothing but the reply queue. -/
def Obligations.RequestsAreTestedInOrder : Prop :=
  ∀ (r : Request) (l : Link) (kind tag : Byte) (pl : List Byte) (s : State),
    let overrun := s.modLink l fun k => { k with
      counters := { k.counters with overrun := min (k.counters.overrun + 1) 65535 } }
    (8 ≤ (s.link l).replies.length →
      exec (requestCommand r l tag pl) s = .next overrun
      ∧ exec (.badKind l kind tag pl) s = .next overrun)
    ∧ ((s.link l).replies.length < 8 → kind ∉ requestCodes → exec (.badKind l kind tag pl) s =
      .next (s.pushReply l ⟨tag, kind, .refused .badKind 0 0⟩))
    ∧ ((s.link l).replies.length < 8 → pl.length ≠ requestLength r →
      exec (requestCommand r l tag pl) s = .next (s.replied l tag r (.refused .badLength 0 0)))
    ∧ ((s.link l).replies.length < 8 → pl.length = requestLength r → s.restart ≠ .none →
      exec (requestCommand r l tag pl) s = .next (s.replied l tag r (.refused .wrongState 0 0)))
    ∧ ((s.link l).replies.length < 8 → pl.length = requestLength r → s.restart = .none →
      needsControl r = true → s.owner ≠ ownerOf l →
      exec (requestCommand r l tag pl) s = .next (s.replied l tag r (.refused .notOwner 0 0)))

/-- A free transmitter sends the front reply, and leaves its queue with it; when the last byte has
gone the transmitter is free again. The DONE of a RESTART carries the restart with it. -/
def Obligations.RepliesAreSentInOrder : Prop :=
  ∀ (l : Link) (s : State),
    (∀ r rest, (s.link l).tx = none → (s.link l).replies = r :: rest →
      (s.restart = .none → exec (.replyTransmit l) s = .next
        ((s.modLink l fun k => { k with
            replies := rest, tx := some (frame r.answer.kind r.tag r.payload) }).emit
          (.frame l (frame r.answer.kind r.tag r.payload))))
      ∧ (s.restart = .queued l → r.kind = 0x4F → (∃ d, r.answer = .done d) →
        ∃ t, exec (.replyTransmit l) s = .next t ∧ t.restart = .sending l
          ∧ (t.link l).replies = rest))
    ∧ ((s.link l).tx ≠ none ∨ (s.link l).replies = [] → exec (.replyTransmit l) s = .next s)
    ∧ (∀ bytes, (s.link l).tx = some bytes →
      (s.restart ≠ .sending l → exec (.lastByteSent l) s =
        .next (s.modLink l fun k => { k with tx := none }))
      ∧ (s.restart = .sending l → exec (.lastByteSent l) s =
        .next { s.modLink l fun k => { k with tx := none } with restart := .sent }))
    ∧ ((s.link l).tx = none → exec (.lastByteSent l) s = .next s)

/-- The front notice is sent on the link it is destined for when that link's transmitter is free and
has no reply waiting, with the link's notice count as its TAG; otherwise it waits. A notice for the
owner goes to PRESS while there is none. That the count is raised at the sending, so that it is the
TAG of the next notice, is the model's choice (assumption log 52). -/
def Obligations.FrontNoticeGoesToItsLink : Prop :=
  ∀ (l : Link) (q : QueuedNotice) (rest : List QueuedNotice) (s : State), s.notices = q :: rest →
    let dest : Link := match q.dest, s.owner with
      | .fixed m, _ => m
      | .owner, .service => .service
      | .owner, .press => .press
      | .owner, .none => .press
    let bytes := frame q.notice.kind (s.link l).noticeCount q.notice.payload
    ((s.link l).tx = none → (s.link l).replies = [] → dest = l →
      exec (.noticeTransmit l) s = .next
        (({ s with notices := rest }.modLink l fun k =>
          { k with noticeCount := k.noticeCount + 1, tx := some bytes }).emit (.frame l bytes)))
    ∧ ((s.link l).tx ≠ none ∨ (s.link l).replies ≠ [] ∨ dest ≠ l →
      exec (.noticeTransmit l) s = .next s)

/-! ## Queries and control -/

/-- Every query changes nothing but its link's reply queue, READ-STATUS apart, which clears the withheld
flag it reports. It is answered DONE, or BAD_FIELD where READ-PLY names a ply above 5 (the model's
inference, assumption log 15), READ-SLOTS a count outside 1..8 or READ-MAKEUPS one outside 1..14.
READ-LINK reports PRESS before SERVICE with no count of links, which is the model's reading (assumption
log 12). The model's too, inside the results: the firmware level of IDENTIFY, a free value (log 7), the
widths of its capacities, the length bytes of its texts, and a rate in IDENTIFY and READ-LINK as its number
of baud in 3 bytes (log 11), the order and presence of the fields that no table lays out, those of the
cursor among them (log 12), the mask of plies that READ-SLOTS gives outside a run (log 24), the order of
the fields of a layout, a block and a segment (log 39), the notice count that READ-LINK shows (log 52), entries past the last slot index
(log 53), levels and flags as 01H and 00H (log 54), END as FFH (log 55) and a splice watch above
4 294 967 295 (log 10). -/
def Obligations.QueriesAnswerAndChangeNothing : Prop :=
  ∀ (l : Link) (tag : Byte) (s : State), (s.link l).replies.length < 8 → s.restart = .none →
    exec (.identify l tag []) s = .next (s.replied l tag .identify (.done (identifyResult s)))
    ∧ exec (.readStatus l tag []) s = .next
      ({ s with withheld := false }.replied l tag .readStatus (.done (statusResult l s)))
    ∧ (∀ p, exec (.readPly l tag (be 1 (plyNumber p))) s =
      .next (s.replied l tag .readPly (.done ((s.ply p).bytes p))))
    ∧ (∀ n, 5 < n → n ≤ 255 → exec (.readPly l tag (be 1 n)) s =
      .next (s.replied l tag .readPly (.refused .badField 0 0)))
    ∧ (∀ first n, first < 4294967296 → 1 ≤ n → n ≤ 8 →
      exec (.readSlots l tag (be 4 first ++ be 1 n)) s =
        .next (s.replied l tag .readSlots (.done (slotsResult (first, n) s)))
      ∧ (slotsResult (first, n) s).length + 1 ≤ 240)
    ∧ (∀ first n, (n = 0 ∨ 8 < n) → n ≤ 255 →
      exec (.readSlots l tag (be 4 first ++ be 1 n)) s =
        .next (s.replied l tag .readSlots (.refused .badField 0 0)))
    ∧ exec (.readTally l tag []) s = .next (s.replied l tag .readTally
      (.done (s.tallies.bytes ++ lastMarriageBytes s.lastMarriage)))
    ∧ exec (.readCursor l tag []) s = .next (s.replied l tag .readCursor (.done (cursorResult s)))
    ∧ (∀ pos n, pos ≤ 255 → 1 ≤ n → n ≤ 14 →
      exec (.readMakeups l tag (be 1 pos ++ be 1 n)) s =
        .next (s.replied l tag .readMakeups (.done (makeupsResult (pos, n) s))))
    ∧ (∀ pos n, pos ≤ 255 → (n = 0 ∨ 14 < n) → n ≤ 255 →
      exec (.readMakeups l tag (be 1 pos ++ be 1 n)) s =
        .next (s.replied l tag .readMakeups (.refused .badField 0 0)))
    ∧ (∀ i, i < 64 → exec (.readBlock l tag (be 1 i)) s =
      .next (s.replied l tag .readBlock (.done (blockBytes (s.block i)))))
    ∧ (∀ i, i < 8 → exec (.readLayout l tag (be 1 i)) s =
      .next (s.replied l tag .readLayout (.done (layoutResult (s.layout i)))))
    ∧ (∀ i, i < 32 → exec (.readSegment l tag (be 1 i)) s =
      .next (s.replied l tag .readSegment (.done (segmentBytes (s.segment i)))))
    ∧ exec (.readLink l tag []) s = .next (s.replied l tag .readLink
      (.done (s.links.press.bytes ++ s.links.service.bytes)))

/-- The table of TAKE-CONTROL, and RELEASE-CONTROL: a grant that changes the owner queues a CONTROL
notice for each link, for PRESS first; every grant is answered with the owner as it then stands. -/
def Obligations.ControlFollowsItsTable : Prop :=
  ∀ (l : Link) (tag : Byte) (s : State), (s.link l).replies.length < 8 → s.restart = .none →
    let become := fun new : Owner =>
      ({ s with owner := new }.queueNotice (.control new s.owner l) (.fixed .press)).queueNotice
        (.control new s.owner l) (.fixed .service)
    (l = .service → s.owner = .press → exec (.takeControl l tag []) s =
      .next (s.replied l tag .takeControl (.refused .heldByOther 0 0)))
    ∧ (s.owner = ownerOf l → exec (.takeControl l tag []) s =
      .next (s.replied l tag .takeControl (.done (be 1 s.owner.code))))
    ∧ (s.owner = .none ∨ (l = .press ∧ s.owner = .service) → exec (.takeControl l tag []) s =
      .next ((become (ownerOf l)).replied l tag .takeControl (.done (be 1 (ownerOf l).code))))
    ∧ (s.owner = ownerOf l → exec (.releaseControl l tag []) s =
      .next ((become .none).replied l tag .releaseControl (.done [0])))
    ∧ (s.owner ≠ ownerOf l → exec (.releaseControl l tag []) s =
      .next (s.replied l tag .releaseControl (.refused .notOwner 0 0)))

/-! ## Configuration -/

/-- SET-PLY stores the record that its payload carries, with the mark window, guard and load timeout
limited, and answers with the record as stored. In IDLE it is refused with BAD_FIELD for a ply above 5,
D outside 1..120, V above 119, K above 15, S of 0, or an undefined code of the active flag, position
source, splice presence or head class; outside IDLE any payload is refused with WRONG_STATE. The wire
carries every record in range. -/
def Obligations.SetPlyStoresTheRecord : Prop :=
  ∀ (l : Link) (tag : Byte) (s : State), s.Admits .setPly l →
    (∀ (p : Ply) (r : PlyRecord), r.InRange → s.runState = .idle →
      let stored := { r with
        markWindow := max 1 r.markWindow
        guardLimit := min r.guardLimit 4095
        loadTimeout := min (max 1 r.loadTimeout) 250 }
      exec (.setPly l tag (be 1 (plyNumber p) ++ r.bytes)) s = .next
        ((s.modPly p fun ps => { ps with record := stored }).replied l tag .setPly
          (.done stored.bytes)))
    ∧ ∀ pl : List Byte, pl.length = 24 →
      let b := fun i => (pl.getD i 0).toNat
      (s.runState = .idle →
        (5 < b 0 ∨ 1 < b 1 ∨ 1 < b 2 ∨ b 3 = 0 ∨ 120 < b 3 ∨ 119 < b 4 ∨ 1 < b 5 ∨ 15 < b 6 ∨ 1 < b 13
          ∨ (b 14 = 0 ∧ b 15 = 0)) →
        exec (.setPly l tag pl) s = .next (s.replied l tag .setPly (.refused .badField 0 0)))
      ∧ (s.runState ≠ .idle → exec (.setPly l tag pl) s =
        .next (s.replied l tag .setPly (.refused .wrongState 0 0)))

/-- SET-BLOCK replaces the entry that it names, unless a VALID one is in use: the next value of a
cursor that is not EXHAUSTED lies in it, or the value of a binding that a held slot carries, BOUND or
VOID, or a value of the make-up list. It is refused with BAD_FIELD for an index above 63, a base above
9 999 999 999, a count outside 1..16 384 or an undefined code. The wire carries every entry in
range. -/
def Obligations.SetBlockReplacesTheEntry : Prop :=
  ∀ (i : Fin 64) (b : Option Block) (l : Link) (tag : Byte) (s : State), s.Admits .setBlock l →
    (∀ x, b = some x → x.InRange) →
    let inUse := (∃ c, s.cursor = some c ∧ c.state ≠ .exhausted ∧ c.next / 16384 = i)
      ∨ (∃ slot ∈ s.slots, ∃ x, slot.Carries x ∧ x.value / 16384 = i)
      ∨ ∃ e ∈ s.makeups, e.value / 16384 = i
    ((s.block i = none ∨ ¬ inUse) →
      exec (.setBlock l tag (be 1 i ++ blockBytes b)) s = .next
        ({ s with blocks := s.blocks.set i b }.replied l tag .setBlock (.done [])))
    ∧ (s.block i ≠ none → inUse →
      exec (.setBlock l tag (be 1 i ++ blockBytes b)) s = .next
        (s.replied l tag .setBlock (.refused .inUse 0 0)))
    ∧ ∀ pl : List Byte, pl.length = 10 →
      let b := fun i => (pl.getD i 0).toNat
      (63 < b 0 ∨ 1 < b 1 ∨ (b 1 = 1 ∧ (9999999999 < field pl 2 5 ∨ 1 < b 7 ∨ field pl 8 2 = 0
        ∨ 16384 < field pl 8 2))) →
      exec (.setBlock l tag pl) s = .next (s.replied l tag .setBlock (.refused .badField 0 0))

/-- SET-LAYOUT replaces the layout that it names, unless a DEFINED one is in use: the segment of the
cursor names it, or that of a binding that a held slot carries, BOUND or VOID, or that of an entry of
the make-up list. It is refused with BAD_FIELD, the layout unchanged, for an index above 7, a prefix
too long or with a character outside its set, a W outside 1..10, a separator that may not be given, a
ten-rule with another method than MOD11W or missing with it, a phase B or mask B with field B ABSENT,
masks that are both empty, or an undefined code. The wire carries every layout in range. -/
def Obligations.SetLayoutReplacesTheEntry : Prop :=
  ∀ (l : Link) (tag : Byte) (s : State), s.Admits .setLayout l →
    (∀ (i : Fin 8) (lay : Option Layout), (∀ x, lay = some x → x.InRange) →
      let named := fun seg => ∃ g, s.segment seg = some g ∧ g.layout = i
      let inUse := (∃ c, s.cursor = some c ∧ named c.segment)
        ∨ (∃ slot ∈ s.slots, ∃ x, slot.Carries x ∧ named x.segment)
        ∨ ∃ e ∈ s.makeups, named e.segment
      ((s.layout i = none ∨ ¬ inUse) →
        exec (.setLayout l tag (be 1 i ++ layoutBytes lay)) s = .next
          ({ s with layouts := s.layouts.set i lay }.replied l tag .setLayout (.done [])))
      ∧ (s.layout i ≠ none → inUse →
        exec (.setLayout l tag (be 1 i ++ layoutBytes lay)) s = .next
          (s.replied l tag .setLayout (.refused .inUse 0 0))))
    ∧ ∀ pl : List Byte, pl.length = 22 →
      let c := fun i => pl.getD i 0
      let b := fun i => (c i).toNat
      (7 < b 0 ∨ 1 < b 1 ∨ (b 1 = 1 ∧
        (4 < b 2 ∨ (∃ k, k < b 2 ∧ inPrefixSet (c (3 + k)) = false)
          ∨ b 7 = 0 ∨ 10 < b 7 ∨ 1 < b 8 ∨ 3 < b 9
          ∨ 1 < b 10 ∨ (b 10 = 1 ∧ (b 9 = 0 ∨ inPrefixSet (c 11) = false))
          ∨ (b 9 = 2 ∧ b 12 ≠ 1 ∧ b 12 ≠ 2) ∨ (b 9 ≠ 2 ∧ b 12 ≠ 0)
          ∨ 1 < b 13 ∨ (b 13 = 0 ∧ (field pl 16 2 ≠ 0 ∨ b 19 ≠ 0)) ∨ (b 18 = 0 ∧ b 19 = 0)
          ∨ 1 < b 21))) →
      exec (.setLayout l tag pl) s = .next (s.replied l tag .setLayout (.refused .badField 0 0))

/-- SET-SEGMENT replaces the entry that it names, unless a DEFINED one is in use: it is the segment of
the cursor, in whatever state, or of a binding that a held slot carries, BOUND or VOID, or of an entry
of the make-up list. It is refused with BAD_FIELD for an index above 31, a layout above 7, a quantity
of 0, a start above 1 048 575, a next segment above 31 that is not END, or an undefined code. The wire
carries every segment in range. -/
def Obligations.SetSegmentReplacesTheEntry : Prop :=
  ∀ (i : Fin 32) (g : Option Segment) (l : Link) (tag : Byte) (s : State), s.Admits .setSegment l →
    (∀ x, g = some x → x.InRange) →
    let inUse := (∃ c, s.cursor = some c ∧ c.segment = i)
      ∨ (∃ slot ∈ s.slots, ∃ x, slot.Carries x ∧ x.segment = i)
      ∨ ∃ e ∈ s.makeups, e.segment = i
    ((s.segment i = none ∨ ¬ inUse) →
      exec (.setSegment l tag (be 1 i ++ segmentBytes g)) s = .next
        ({ s with segments := s.segments.set i g }.replied l tag .setSegment (.done [])))
    ∧ (s.segment i ≠ none → inUse →
      exec (.setSegment l tag (be 1 i ++ segmentBytes g)) s = .next
        (s.replied l tag .setSegment (.refused .inUse 0 0)))
    ∧ ∀ pl : List Byte, pl.length = 12 →
      let b := fun i => (pl.getD i 0).toNat
      (31 < b 0 ∨ 1 < b 1 ∨ (b 1 = 1 ∧ (7 < b 2 ∨ field pl 3 3 = 0 ∨ 1 < b 6
        ∨ (b 6 = 1 ∧ 1048575 < field pl 7 3) ∨ 1 < b 10 ∨ (31 < b 11 ∧ b 11 ≠ 255)))) →
      exec (.setSegment l tag pl) s = .next (s.replied l tag .setSegment (.refused .badField 0 0))

/-- SET-TRIM writes the trim in the ply's stored record, and during a run, for an active ply, sets its
pending trim, limited to −(C−1)..C−1. -/
def Obligations.SetTrimStoresAndPends : Prop :=
  ∀ (p : Ply) (x : Int) (l : Link) (tag : Byte) (s : State), s.Admits .setTrim l →
    -65535 ≤ x → x ≤ 65535 →
    let limited := max (-((s.cutoff : Int) - 1)) (min x ((s.cutoff : Int) - 1))
    ((s.runState = .idle ∨ s.active p = false) →
      exec (.setTrim l tag (be 1 (plyNumber p) ++ trimBytes x)) s = .next
        ((s.modPly p fun ps => { ps with record := { ps.record with trim := x } }).replied l tag
          .setTrim (.done (trimBytes x ++ [0] ++ trimBytes 0))))
    ∧ (s.runState ≠ .idle → s.active p = true →
      exec (.setTrim l tag (be 1 (plyNumber p) ++ trimBytes x)) s = .next
        ((s.modPly p fun ps => { ps with
            record := { ps.record with trim := x }
            head := { ps.head with pendingTrim := some limited } }).replied l tag
          .setTrim (.done (trimBytes x ++ [1] ++ trimBytes limited))))
    ∧ ∀ n w, n ≤ 255 → w ≤ 16777215 → (5 < n ∨ (65535 < w ∧ w < 16711681)) →
      exec (.setTrim l tag (be 1 n ++ be 3 w)) s =
        .next (s.replied l tag .setTrim (.refused .badField 0 0))

/-- CLEAR-MAKEUPS empties the make-up list in IDLE, and nothing else: a batch flag that is set there
stays set (the model's reading, assumption log 14). In a run it is refused. -/
def Obligations.ClearMakeupsEmptiesTheList : Prop :=
  ∀ (l : Link) (tag : Byte) (s : State), s.Admits .clearMakeups l →
    (s.runState = .idle → exec (.clearMakeups l tag []) s =
      .next ({ s with makeups := [] }.replied l tag .clearMakeups (.done [])))
    ∧ (s.runState ≠ .idle → exec (.clearMakeups l tag []) s =
      .next (s.replied l tag .clearMakeups (.refused .wrongState 0 0)))

/-! ## The run (Chapter 8) -/

/-- A START-RUN that passes its checks starts the run: every block takes its start state, with the
lead-in built and the cursor at the value found, HELD with MAKEUPS where the list holds 128 entries or
more; RUN-STATE is sent. The lead-in holds the slots up to the largest path length, SKIP with stamp 0 and
a sub-record for each active ply: NOT-PRINTED, nothing fired, and AWAIT for the forms D−V+1 to D−1
between head and reader. One that fails a check, or is sent in a run, changes nothing but the reply queue. The checks are
those of section 8.4 in order: an active ply; every segment reached DEFINED, then its layout, then the
block of its start; the checks of section 3.1 on every active ply; a first value. Which segment or
layout the second detail byte names is the model's reading (assumption log 22), as is that the first
one names the lowest-numbered check of section 3.1 that the ply fails (assumption log 49). BAD_FIELD is
given for a segment above 31, a cutoff outside 256..65 535, a start above 1 048 575 and an undefined
code. -/
def Obligations.StartRunTakesTheStartState : Prop :=
  ∀ (q : StartRequest) (l : Link) (tag : Byte) (s : State), s.Admits .startRun l → q.InRange →
    (s.runState ≠ .idle → exec (.startRun l tag q.bytes) s =
      .next (s.replied l tag .startRun (.refused .wrongState 0 0)))
    ∧ (s.runState = .idle → ∀ check detail, s.startDecision q = .config check detail →
      exec (.startRun l tag q.bytes) s = .next (s.replied l tag .startRun
        (.refused .config (BitVec.ofNat 8 check) (BitVec.ofNat 8 detail))))
    ∧ (s.runState = .idle → ∀ v k, s.startDecision q = .start v k →
      ∃ t, exec (.startRun l tag q.bytes) s = .next t
        ∧ (128 ≤ s.makeups.length → t.runState = .held
          ∧ t.causes = { HoldCauses.empty with makeups := true }
          ∧ t.links = (s.replied l tag .startRun (.done [2])).links)
        ∧ (s.makeups.length < 128 → t.runState = .running ∧ t.causes = HoldCauses.empty
          ∧ t.links = (s.replied l tag .startRun (.done [1])).links)
        ∧ t.drain = none ∧ t.params = some ⟨q.cutoff, q.segment, q.faultAction⟩
        ∧ t.policy = some q.policy ∧ t.endMakeups = some q.endMakeups
        ∧ t.tallies = { Tallies.zero with skipped := min k 4294967295 } ∧ t.lastMarriage = none
        ∧ t.marriageSlot = 0 ∧ t.slots.length = s.dmax + 1
        ∧ (∀ p, s.active p = true → (s.ply p).record.pathLength < t.slots.length)
        ∧ (∃ p, s.active p = true ∧ t.slots.length = (s.ply p).record.pathLength + 1)
        ∧ (∀ slot ∈ t.slots, slot.disp = .skip ∧ slot.stamp = 0)
        ∧ (∀ j, j < t.slots.length → ∃ slot, t.slotAt j = some slot
          ∧ ∀ p, slot.subs.get p = if s.active p = true then
              some ⟨.notPrinted, 0, none, false,
                if (s.ply p).record.readerDistance = 0 then .absent
                else if ((s.ply p).record.pathLength : Int) - (s.ply p).record.readerDistance + 1 ≤ j
                  ∧ (j : Int) ≤ (s.ply p).record.pathLength - 1 then .await
                else .notDue, false, none⟩
            else none)
        ∧ (s.notices.length < 48 → t.notices = s.notices
          ++ [⟨.runState t.runState t.causes none, .owner⟩])
        ∧ t.cursor = some ⟨.active, q.segment, 1, v, 0⟩ ∧ t.batch = false ∧ t.lastGranted = .p5
        ∧ (∀ p, (t.ply p).capture = none ∧ (t.ply p).head.inhibit = false
          ∧ (t.ply p).checker = ⟨false, 0⟩ ∧ (t.ply p).record = (s.ply p).record
          ∧ (t.runPlies.get p = s.active p)
          ∧ (s.active p = true →
            (t.ply p).unit = ⟨0, 0, .search, (s.ply p).record.pathLength, false, none⟩
            ∧ (t.ply p).head = ⟨[], .empty, [], [], 0, none, false⟩
            ∧ (t.ply p).run = some
              { window := min (s.ply p).record.markWindow (q.cutoff / 8)
                allowance := min (s.ply p).record.reverseAllowance (q.cutoff / 2)
                guardLimit := min (s.ply p).record.guardLimit (q.cutoff / 4)
                trim := max (-((q.cutoff : Int) - 1)) (min (s.ply p).record.trim (q.cutoff - 1)) }))
        ∧ t.makeups = s.makeups ∧ t.segments = s.segments ∧ t.blocks = s.blocks
        ∧ t.layouts = s.layouts ∧ t.owner = s.owner)
    ∧ ((∀ p, s.active p = false) → s.startDecision q = .config 1 0)
    ∧ ((∃ p, s.active p = true) →
      let reaches := fun i => s.Reaches q.segment i
      let noLayout := fun i => ∃ g, reaches i ∧ s.segment i = some g ∧ s.layout g.layout = none
      let noBlock := fun i => ∃ g v, reaches i ∧ s.segment i = some g ∧ g.start = some v
        ∧ s.block (v / 16384) = none
      let fails := fun p n => s.active p = true ∧ s.FailsCheck q.cutoff q.segment p n
      let first := match q.start, s.cursor with
        | some v, _ => v
        | none, some c => c.next
        | none, none => ((s.segment q.segment).bind (·.start)).getD 0
      let found := normalise s.blocks (s.segmentLayout q.segment) first
      (∀ i, reaches i → s.segment i = none → s.startDecision q = .config 2 i)
      ∧ ((∀ i, reaches i → s.segment i ≠ none) →
        ((∃ i, noLayout i) → ∃ i g, reaches i ∧ s.segment i = some g ∧ s.layout g.layout = none
          ∧ s.startDecision q = .config 3 g.layout)
        ∧ ((∀ i, ¬ noLayout i) →
          ((∃ i, noBlock i) → ∃ i, noBlock i ∧ s.startDecision q = .config 4 i)
          ∧ ((∀ i, ¬ noBlock i) →
            (∀ p n, fails p n → (∀ m, m < n → ¬ fails p m) →
              (∀ p' m, plyNumber p' < plyNumber p → ¬ fails p' m) →
              s.startDecision q = .config (0x20 + n) (plyNumber p))
            ∧ ((∀ p n, ¬ fails p n) →
              (∀ r k, found = .exhausted r k → s.startDecision q = .config 6 q.segment)
              ∧ (∀ v k, found = .found v k → s.startDecision q = .start v k))))))
    ∧ ∀ pl : List Byte, pl.length = 10 → s.runState = .idle →
      let b := fun i => (pl.getD i 0).toNat
      (31 < b 0 ∨ field pl 1 2 < 256 ∨ (b 3 ≠ 1 ∧ b 3 ≠ 2) ∨ 1 < b 4 ∨ 1 < b 5
        ∨ (b 5 = 1 ∧ 1048575 < field pl 6 3) ∨ (b 9 ≠ 1 ∧ b 9 ≠ 2)) →
      exec (.startRun l tag pl) s = .next (s.replied l tag .startRun (.refused .badField 0 0))

/-- HOLD gives the cause HOST in RUNNING and HELD and is answered with the causes that result; given
again it changes nothing; in IDLE and DRAINING it is refused. -/
def Obligations.HoldGivesTheCauseHost : Prop :=
  ∀ (l : Link) (tag : Byte) (s : State), s.Admits .hold l →
    let causes := { s.causes with host := true }
    let reply := fun t : State => t.replied l tag .hold (.done (be 1 causes.byte))
    (s.runState = .running → exec (.hold l tag []) s = .next (reply
      ({ s with causes := causes, runState := .held }.notify (.runState .held causes s.drain))))
    ∧ (s.runState = .held → s.causes.host = false → exec (.hold l tag []) s = .next (reply
      ({ s with causes := causes }.notify (.runState .held causes s.drain))))
    ∧ (s.runState = .held → s.causes.host = true → exec (.hold l tag []) s = .next (reply s))
    ∧ (s.runState = .idle ∨ s.runState = .draining → exec (.hold l tag []) s =
      .next (s.replied l tag .hold (.refused .wrongState 0 0)))

/-- RELEASE makes its three tests in order, and then removes every cause: the run is RUNNING, or over
where the completion test finds it complete. A refusal at the third test leaves the cursor as the
renormalisation did, and sends no notice and gives no cause (the model's reading, assumption log 33). -/
def Obligations.ReleaseTestsAndResumes : Prop :=
  ∀ (l : Link) (tag : Byte) (s : State), s.Admits .release l →
    let refused := fun (t : State) reason => t.replied l tag .release (.refused reason 0 0)
    let pending := ∃ p, s.active p = true ∧ (s.ply p).head.inhibit = true
    let high := 128 ≤ s.makeups.length ∧ s.batch = false
    let resumes := fun t : State => t.causes = HoldCauses.empty
      ∧ (t.runState = .running ∨ t.runState = .idle)
      ∧ (t.runState = .idle ↔ t.cursor.map (·.state) = some .chainEnd ∧ s.batch = false
        ∧ ∀ slot ∈ s.slots, slot.isBound = false)
      ∧ t.makeups = s.makeups
      ∧ t.links = (s.replied l tag .release (.done [])).links ∧ s.SetupKept t
    (s.runState ≠ .held → exec (.release l tag []) s = .next (refused s .wrongState))
    ∧ (s.runState = .held → pending → exec (.release l tag []) s = .next (refused s .faultPending))
    ∧ (s.runState = .held → ¬ pending → high →
      exec (.release l tag []) s = .next (refused s .listHigh))
    ∧ (s.runState = .held → ¬ pending → ¬ high →
      (∀ c, s.cursor = some c → c.state ≠ .exhausted) →
      ∃ t, exec (.release l tag []) s = .next t ∧ resumes t ∧ t.cursor = s.cursor)
    ∧ (s.runState = .held → ¬ pending → ¬ high → ∀ c, s.cursor = some c → c.state = .exhausted →
      (∀ v k, normalise s.blocks (s.segmentLayout c.segment) c.next = .found v k →
        ∃ t, exec (.release l tag []) s = .next t ∧ resumes t
          ∧ t.cursor = some { c with state := .active, next := v })
      ∧ (∀ r k, normalise s.blocks (s.segmentLayout c.segment) c.next = .exhausted r k →
        exec (.release l tag []) s = .next
          (refused { s.countSkips k with cursor := some { c with next := r } } .exhausted)))

/-- CONTINUE takes a PAUSED cursor on: to CHAIN-END, where a make-up owed under AUTO starts the batch;
into the next segment, ACTIVE at the value found or EXHAUSTED at its resume value, which gives the
cause SEQUENCE, its RUN-STATE queued before EXHAUSTED (the model's order, assumption log 13); or not,
with CONFIG where the segment is EMPTY or its layout does not fit, the second detail byte naming the
next segment (the model's reading, assumption log 22). Elsewhere it is refused. -/
def Obligations.ContinueTakesTheChainStep : Prop :=
  ∀ (l : Link) (tag : Byte) (s : State), s.Admits .continueRun l →
    let refused := s.replied l tag .continueRun (.refused .wrongState 0 0)
    (s.runState = .idle ∨ s.runState = .draining ∨ (∀ c, s.cursor = some c → c.state ≠ .paused) →
      exec (.continueRun l tag []) s = .next refused)
    ∧ ∀ c g, (s.runState = .running ∨ s.runState = .held) → s.cursor = some c →
      c.state = .paused → s.segment c.segment = some g →
      ((g.next = none ∨ c.pass = 65535) → exec (.continueRun l tag []) s = .next
        ({ s with
            cursor := some { c with state := .chainEnd }
            batch := s.batch || (decide (s.endMakeups = some EndMakeups.auto) && !s.makeups.isEmpty)
          }.replied l tag .continueRun (.done [3])))
      ∧ (∀ i, g.next = some i → c.pass ≠ 65535 → s.segment i = none →
        exec (.continueRun l tag []) s = .next
          (s.replied l tag .continueRun (.refused .config 7 (BitVec.ofNat 8 i))))
      ∧ (∀ i g' lay v k, g.next = some i → c.pass ≠ 65535 → s.segment i = some g' →
        s.layout g'.layout = some lay → s.layoutFits lay = true →
        normalise s.blocks (some lay) (g'.start.getD c.next) = .found v k →
        exec (.continueRun l tag []) s = .next
          ({ s.countSkips k with cursor := some ⟨.active, i, c.pass + 1, v, 0⟩ }.replied l tag
            .continueRun (.done [1])))
      ∧ (∀ i g' lay, g.next = some i → c.pass ≠ 65535 → s.segment i = some g' →
        s.layout g'.layout = some lay → s.layoutFits lay = false →
        exec (.continueRun l tag []) s = .next
          (s.replied l tag .continueRun (.refused .config 8 (BitVec.ofNat 8 i))))
      ∧ (∀ i g' r k, g.next = some i → c.pass ≠ 65535 → s.segment i = some g' →
        (∀ lay, s.layout g'.layout = some lay → s.layoutFits lay = true) →
        normalise s.blocks (s.layout g'.layout) (g'.start.getD c.next) = .exhausted r k →
        ∃ t, exec (.continueRun l tag []) s = .next t
          ∧ t.cursor = some ⟨.exhausted, i, c.pass + 1, r, 0⟩
          ∧ t.runState = .held ∧ t.causes = { s.causes with sequence := true }
          ∧ t.tallies = { s.tallies with skipped := min (s.tallies.skipped + k) 4294967295 }
          ∧ (s.notices.length < 48 → s.runState = .held → s.causes.sequence = true →
            t.notices = s.notices ++ [⟨.exhausted r, .owner⟩])
          ∧ (s.notices.length < 47 → (s.runState = .running ∨ s.causes.sequence = false) →
            t.notices = s.notices
            ++ [⟨.runState .held { s.causes with sequence := true } s.drain, .owner⟩,
              ⟨.exhausted r, .owner⟩])
          ∧ t.links = (s.replied l tag .continueRun (.done [4])).links ∧ s.SetupKept t
          ∧ t.slots = s.slots ∧ t.makeups = s.makeups ∧ t.batch = s.batch ∧ t.plies = s.plies)

/-- END-RUN closes the cursor, removes every cause and drains the run, or ends it where the window
holds nothing numbered; in IDLE and DRAINING it is refused. -/
def Obligations.EndRunDrains : Prop :=
  ∀ (l : Link) (tag : Byte) (s : State), s.Admits .endRun l →
    (s.runState = .idle ∨ s.runState = .draining → exec (.endRun l tag []) s =
      .next (s.replied l tag .endRun (.refused .wrongState 0 0)))
    ∧ (s.runState = .running ∨ s.runState = .held →
      ∃ t, exec (.endRun l tag []) s = .next t
        ∧ t.cursor = s.cursor.map (fun c => { c with state := .closed })
        ∧ t.causes = HoldCauses.empty ∧ t.makeups = s.makeups ∧ t.tallies = s.tallies
        ∧ t.links = (s.replied l tag .endRun (.done [])).links ∧ s.SetupKept t
        ∧ ((∃ slot ∈ s.slots, slot.isNumbered = true) → t.runState = .draining
          ∧ t.drain = some .ended ∧ t.slots = s.slots ∧ t.marriageSlot = s.marriageSlot
          ∧ t.batch = s.batch ∧ t.plies = s.plies)
        ∧ ((∀ slot ∈ s.slots, slot.isNumbered = false) → t.runState = .idle ∧ t.drain = none
          ∧ t.slots = [] ∧ t.marriageSlot = 0))

/-- The first ABORT-RUN voids every BOUND slot, closes the cursor and drains; the second retires what
is left as VOID and ends the run. The first puts the fields of the cursor back to the Cursor-before of
the lowest slot voided that is no make-up, removes the values recalled from the list, and gives back
those of the make-ups voided that were not spoil-pending and are not recalled, in set-index order
(assumption log 46). Each head tests its LOADED image, and no queue is flushed. Where it finds nothing
numbered, the run is over at once: RUN-STATE, RUN-END and RUN-STATE are sent and the teardown
performed. Each is answered with the number of slots voided or retired, in one byte, which is the
model's choice (assumption log 11). In IDLE it is refused. The model's inferences, not the spec's words:
the removals clear the batch flag before values are given back (log 14), the cursor is closed before
they join the list, so that no join sets the flag (log 51), and RUN-STATE is sent also where the run
was already DRAINING with kind END (log 18). That a print state of NONE stays NONE in the slots made
VOID, as R10 says against R108, is log 45 (DEDUCED, unsafe). -/
def Obligations.AbortRunVoidsThenRetires : Prop :=
  ∀ (l : Link) (tag : Byte) (s : State), s.Admits .abortRun l →
    (s.runState = .idle → exec (.abortRun l tag []) s =
      .next (s.replied l tag .abortRun (.refused .wrongState 0 0)))
    ∧ ((s.runState = .running ∨ s.runState = .held
        ∨ (s.runState = .draining ∧ s.drain = some .ended)) →
      let undone := bindingsOf s.slots
      ∃ t, exec (.abortRun l tag []) s = .next t
        ∧ t.causes = HoldCauses.empty ∧ t.cursor.map (·.state) = s.cursor.map (fun _ => .closed)
        ∧ t.links = (s.replied l tag .abortRun
          (.done [BitVec.ofNat 8 (s.slots.filter Slot.isBound).length])).links ∧ s.SetupKept t
        ∧ ((∃ slot ∈ s.slots, slot.isNumbered = true) → t.runState = .draining
          ∧ t.drain = some .abort ∧ t.slots = s.slots.map (fun x => x.makeVoid .abort)
          ∧ (∀ i x b m, s.slotAt i = some x → x.disp = .bound b m → t.slotAt i =
            some { x.mapPrint (fun k => if k = .pending then .notPrinted else k) with
              disp := .void b .abort })
          ∧ t.marriageSlot = s.marriageSlot ∧ t.tallies = s.tallies
          ∧ t.cursor = s.cursor.map (fun c => restored undone { c with state := .closed })
          ∧ t.makeups = correctedList undone s.makeups
          ∧ t.batch = (s.batch && !(entriesKept undone s.makeups).isEmpty)
          ∧ s.HeadsTested t (fun _ => true))
        ∧ ((∀ slot ∈ s.slots, slot.isNumbered = false) →
          let closed : State := { s with cursor := s.cursor.map fun c => { c with state := .closed } }
          let batch := s.batch && !s.makeups.isEmpty
          closed.TornDown t ∧ t.tallies = s.tallies ∧ t.lastMarriage = s.lastMarriage
          ∧ (s.notices.length ≤ 45 → t.notices = s.notices
            ++ [⟨.runState .draining HoldCauses.empty (some .abort), .owner⟩,
              ⟨.runEnd .drained s.tallies closed.cursor batch s.makeups.length, .owner⟩,
              ⟨.runState .idle HoldCauses.empty none, .owner⟩])))
    ∧ (s.runState = .draining → s.drain = some .abort →
      ∃ t, exec (.abortRun l tag []) s = .next t ∧ t.runState = .idle ∧ t.slots = []
        ∧ t.marriageSlot = 0 ∧ t.drain = none ∧ t.cursor = s.cursor ∧ t.makeups = s.makeups
        ∧ t.links = (s.replied l tag .abortRun (.done [BitVec.ofNat 8 s.slots.length])).links
        ∧ s.SetupKept t
        ∧ (s.tallies.retired + s.slots.length ≤ 4294967295 →
          s.tallies.void + s.slots.length ≤ 4294967295 →
          t.tallies = { s.tallies with
            retired := s.tallies.retired + s.slots.length
            void := s.tallies.void + s.slots.length }))

/-- RUN-MAKEUPS with the list not empty sets the batch flag and removes the cause MAKEUPS, which makes
a HELD run with no other cause RUNNING; with the list empty, and in IDLE and DRAINING, it is refused.
Its result shows the set flag as 01H, which is the model's choice (assumption log 54). -/
def Obligations.RunMakeupsStartsTheBatch : Prop :=
  ∀ (l : Link) (tag : Byte) (s : State), s.Admits .runMakeups l →
    let rest := { s.causes with makeups := false }
    let batch := { s with batch := true }
    let reply := fun (t : State) (c : HoldCauses) =>
      t.replied l tag .runMakeups (.done (yesNo true ++ be 1 c.byte))
    ((s.runState = .idle ∨ s.runState = .draining ∨ s.makeups = []) →
      exec (.runMakeups l tag []) s =
        .next (s.replied l tag .runMakeups (.refused .wrongState 0 0)))
    ∧ ((s.runState = .running ∨ s.runState = .held) → s.makeups ≠ [] →
      (s.causes.makeups = false →
        exec (.runMakeups l tag []) s = .next (reply batch s.causes))
      ∧ (s.causes.makeups = true → rest ≠ HoldCauses.empty →
        exec (.runMakeups l tag []) s = .next (reply
          ({ batch with causes := rest }.notify (.runState s.runState rest s.drain)) rest))
      ∧ (s.causes.makeups = true → rest = HoldCauses.empty →
        exec (.runMakeups l tag []) s = .next (reply
          ({ batch with causes := HoldCauses.empty, runState := .running }.notify
            (.runState .running HoldCauses.empty s.drain)) HoldCauses.empty)))

/-- CLEAR-FAULT clears a ply's capture and inhibit, in a run puts a ply in LOST in SEARCH with mark
taken no, leaves every cause and every other ply, and answers with the capture as it stood. -/
def Obligations.ClearFaultClearsOnePly : Prop :=
  ∀ (p : Ply) (l : Link) (tag : Byte) (s : State), s.Admits .clearFault l →
    (∀ n : Fin 256, 5 < n.val → exec (.clearFault l tag (be 1 n)) s =
      .next (s.replied l tag .clearFault (.refused .badField 0 0)))
    ∧ exec (.clearFault l tag (be 1 (plyNumber p))) s = .next
      ((s.modPly p fun ps => { ps with
          capture := none
          head := { ps.head with inhibit := false }
          unit := if s.runState ≠ .idle ∧ ps.unit.registration = .lost then
              { ps.unit with registration := .search, markTaken := false }
            else ps.unit }).replied l tag .clearFault (.done (captureBytes (s.ply p).capture)))

/-- WITHDRAW-SET makes its tests in order; when every one passes, the value joins the list with no
origin slot and Withdrawn rises by one; under AUTO at CHAIN-END the join sets the batch flag, in IDLE
too (the model's reading, assumption log 14). -/
def Obligations.WithdrawSetTestsAndLists : Prop :=
  ∀ (v g : Nat) (l : Link) (tag : Byte) (s : State), s.Admits .withdrawSet l → v ≤ 16777215 →
    g ≤ 255 →
    let refused := fun reason => exec (.withdrawSet l tag (be 3 v ++ be 1 g)) s =
      .next (s.replied l tag .withdrawSet (.refused reason 0 0))
    let good := v ≤ 1048575 ∧ g ≤ 31
      ∧ ∃ lay, s.segmentLayout g = some lay ∧ issuable s.blocks lay v = true
    (¬ good → refused .badField)
    ∧ (good → s.tallies.good < s.tallies.withdrawn + 1 → refused .wrongState)
    ∧ (good → s.tallies.withdrawn + 1 ≤ s.tallies.good →
      (128 ≤ s.makeups.length → refused .listHigh)
      ∧ (s.makeups.length < 128 →
        (s.listed v = true → refused .duplicate)
        ∧ (s.listed v = false →
          (s.inFlight v g = true → refused .inFlight)
          ∧ (s.inFlight v g = false → s.tallies.withdrawn < 4294967295 →
            ∃ t, exec (.withdrawSet l tag (be 3 v ++ be 1 g)) s = .next t
              ∧ t.makeups = insertEntry ⟨v, g, (s.cursor.map (·.pass)).getD 1, none⟩ s.makeups
              ∧ t.tallies = { s.tallies with withdrawn := s.tallies.withdrawn + 1 }
              ∧ t.batch = (s.batch || (decide (s.endMakeups = some .auto)
                && decide (s.cursor.map (·.state) = some .chainEnd)))
              ∧ t.slots = s.slots ∧ t.cursor = s.cursor ∧ t.plies = s.plies
              ∧ t.links = (s.replied l tag .withdrawSet (.done [])).links ∧ s.SetupKept t))))

/-! ## Invariants that every step keeps -/

/-- Every step keeps the queues within their bounds: 48 notices, 8 replies on a link, counters of 16
bits. -/
def Obligations.StepsKeepTheQueuesBounded : Prop :=
  ∀ s t : State, s.LinksBounded → step s = .next t → t.LinksBounded

/-- Every step keeps the make-up list within 256 entries and in strictly ascending order of sequence
value. -/
def Obligations.StepsKeepTheMakeupListOrdered : Prop :=
  ∀ s t : State, s.MakeupsOrdered → step s = .next t → t.MakeupsOrdered

/-- Every step keeps the run state, hold causes, drain kind and batch flag in agreement, with the
table empty in IDLE. -/
def Obligations.StepsKeepTheRunInAgreement : Prop :=
  ∀ s t : State, s.RunAgrees → step s = .next t → t.RunAgrees

/-- Every step keeps the window within 128 slots and below the top of the index range; and, in such a
window, it keeps every active head slot of a run at or below the top, with every slot at or below it
BOUND, SKIP or VOID. -/
def Obligations.StepsKeepTheWindowBounded : Prop :=
  (∀ s t : State, s.WindowBounded → step s = .next t → t.WindowBounded)
  ∧ ∀ s t : State, s.WindowBounded → s.HeadsPassed → step s = .next t → t.HeadsPassed

/-- Every step keeps a staging queue within 4 entries. -/
def Obligations.StepsKeepTheStagingBounded : Prop :=
  ∀ s t : State, s.StagingBounded → step s = .next t → t.StagingBounded

/-- Every step keeps the position of each active ply of a run below C and its owed reverse count
within the allowance. -/
def Obligations.StepsKeepPositionsInTheForm : Prop :=
  ∀ s t : State, s.PositionsInForm → step s = .next t → t.PositionsInForm

/-- Every step keeps Withdrawn within Good, while the Good tally has not reached the end of its 32
bits. -/
def Obligations.StepsKeepWithdrawnWithinGood : Prop :=
  ∀ s t : State, s.WithdrawnWithinGood → s.tallies.good < 4294967295 → step s = .next t →
    t.WithdrawnWithinGood

/-- The state after reset meets every invariant. -/
def Obligations.ResetMeetsTheInvariants : Prop :=
  State.reset.LinksBounded ∧ State.reset.MakeupsOrdered ∧ State.reset.RunAgrees
  ∧ State.reset.WindowBounded ∧ State.reset.StagingBounded ∧ State.reset.PositionsInForm
  ∧ State.reset.WithdrawnWithinGood ∧ State.reset.HeadsPassed
end

