-- ==== Sys2Proof/Laws/State.lean ====
section
/-! SUPPORT. The small lemmas of State: one for each field that an update leaves alone, and what the
update of a ply or a link gives. They are tagged simp, so that no proof unfolds a record update. -/

namespace Sys2Proof.Machine

/-! ## Values held per ply and per link -/

@[simp] theorem PerPly.get_set_self {α : Type} (v : PerPly α) (p : Ply) (a : α) :
    (v.set p a).get p = a := by cases p <;> rfl

@[simp] theorem PerPly.get_set_ne {α : Type} (v : PerPly α) {p q : Ply} (a : α) (h : q ≠ p) :
    (v.set p a).get q = v.get q := by cases p <;> cases q <;> first | rfl | exact absurd rfl h

@[simp] theorem PerPly.get_map {α β : Type} (f : Ply → α → β) (v : PerPly α) (p : Ply) :
    (v.map f).get p = f p (v.get p) := by cases p <;> rfl

@[simp] theorem PerPly.get_all {α : Type} (a : α) (p : Ply) : (PerPly.all a).get p = a := by
  cases p <;> rfl

theorem PerPly.get_injective {α : Type} {v w : PerPly α} (h : ∀ p, v.get p = w.get p) : v = w := by
  cases v; cases w
  simp only [PerPly.mk.injEq]
  exact ⟨h .p0, h .p1, h .p2, h .p3, h .p4, h .p5⟩

@[simp] theorem PerLink.get_set_self {α : Type} (v : PerLink α) (l : Link) (a : α) :
    (v.set l a).get l = a := by cases l <;> rfl

@[simp] theorem PerLink.get_set_ne {α : Type} (v : PerLink α) {l m : Link} (a : α) (h : m ≠ l) :
    (v.set l a).get m = v.get m := by cases l <;> cases m <;> first | rfl | exact absurd rfl h

@[simp] theorem State.ply_modPly_self (s : State) (p : Ply) (f : PlyState → PlyState) :
    (s.modPly p f).ply p = f (s.ply p) := PerPly.get_set_self ..

@[simp] theorem State.ply_modPly_ne (s : State) {p q : Ply} (f : PlyState → PlyState) (h : q ≠ p) :
    (s.modPly p f).ply q = s.ply q := PerPly.get_set_ne _ _ h

@[simp] theorem State.link_modLink_self (s : State) (l : Link) (f : LinkState → LinkState) :
    (s.modLink l f).link l = f (s.link l) := PerLink.get_set_self ..

@[simp] theorem State.link_modLink_ne (s : State) {l m : Link} (f : LinkState → LinkState)
    (h : m ≠ l) : (s.modLink l f).link m = s.link m := PerLink.get_set_ne _ _ h

theorem plyOrder_mem (p : Ply) : p ∈ plyOrder := by cases p <;> decide


/-! ## `modPly`, and the updates of a part of a ply -/

@[simp] theorem State.modPly_runState (s : State) (p : Ply) (f : PlyState → PlyState) :
    (s.modPly p f).runState = s.runState := rfl
@[simp] theorem State.modPly_causes (s : State) (p : Ply) (f : PlyState → PlyState) :
    (s.modPly p f).causes = s.causes := rfl
@[simp] theorem State.modPly_drain (s : State) (p : Ply) (f : PlyState → PlyState) :
    (s.modPly p f).drain = s.drain := rfl
@[simp] theorem State.modPly_params (s : State) (p : Ply) (f : PlyState → PlyState) :
    (s.modPly p f).params = s.params := rfl
@[simp] theorem State.modPly_runPlies (s : State) (p : Ply) (f : PlyState → PlyState) :
    (s.modPly p f).runPlies = s.runPlies := rfl
@[simp] theorem State.modPly_segments (s : State) (p : Ply) (f : PlyState → PlyState) :
    (s.modPly p f).segments = s.segments := rfl
@[simp] theorem State.modPly_marriageSlot (s : State) (p : Ply) (f : PlyState → PlyState) :
    (s.modPly p f).marriageSlot = s.marriageSlot := rfl
@[simp] theorem State.modPly_slots (s : State) (p : Ply) (f : PlyState → PlyState) :
    (s.modPly p f).slots = s.slots := rfl
@[simp] theorem State.modPly_blocks (s : State) (p : Ply) (f : PlyState → PlyState) :
    (s.modPly p f).blocks = s.blocks := rfl
@[simp] theorem State.modPly_layouts (s : State) (p : Ply) (f : PlyState → PlyState) :
    (s.modPly p f).layouts = s.layouts := rfl
@[simp] theorem State.modPly_cursor (s : State) (p : Ply) (f : PlyState → PlyState) :
    (s.modPly p f).cursor = s.cursor := rfl
@[simp] theorem State.modPly_batch (s : State) (p : Ply) (f : PlyState → PlyState) :
    (s.modPly p f).batch = s.batch := rfl
@[simp] theorem State.modPly_render (s : State) (p : Ply) (f : PlyState → PlyState) :
    (s.modPly p f).render = s.render := rfl
@[simp] theorem State.modPly_lastGranted (s : State) (p : Ply) (f : PlyState → PlyState) :
    (s.modPly p f).lastGranted = s.lastGranted := rfl
@[simp] theorem State.modPly_marker (s : State) (p : Ply) (f : PlyState → PlyState) :
    (s.modPly p f).marker = s.marker := rfl
@[simp] theorem State.modPly_tallies (s : State) (p : Ply) (f : PlyState → PlyState) :
    (s.modPly p f).tallies = s.tallies := rfl
@[simp] theorem State.modPly_lastMarriage (s : State) (p : Ply) (f : PlyState → PlyState) :
    (s.modPly p f).lastMarriage = s.lastMarriage := rfl
@[simp] theorem State.modPly_policy (s : State) (p : Ply) (f : PlyState → PlyState) :
    (s.modPly p f).policy = s.policy := rfl
@[simp] theorem State.modPly_endMakeups (s : State) (p : Ply) (f : PlyState → PlyState) :
    (s.modPly p f).endMakeups = s.endMakeups := rfl
@[simp] theorem State.modPly_makeups (s : State) (p : Ply) (f : PlyState → PlyState) :
    (s.modPly p f).makeups = s.makeups := rfl
@[simp] theorem State.modPly_links (s : State) (p : Ply) (f : PlyState → PlyState) :
    (s.modPly p f).links = s.links := rfl
@[simp] theorem State.modPly_owner (s : State) (p : Ply) (f : PlyState → PlyState) :
    (s.modPly p f).owner = s.owner := rfl
@[simp] theorem State.modPly_notices (s : State) (p : Ply) (f : PlyState → PlyState) :
    (s.modPly p f).notices = s.notices := rfl
@[simp] theorem State.modPly_withheld (s : State) (p : Ply) (f : PlyState → PlyState) :
    (s.modPly p f).withheld = s.withheld := rfl
@[simp] theorem State.modPly_restart (s : State) (p : Ply) (f : PlyState → PlyState) :
    (s.modPly p f).restart = s.restart := rfl
@[simp] theorem State.modPly_pending (s : State) (p : Ply) (f : PlyState → PlyState) :
    (s.modPly p f).pending = s.pending := rfl
@[simp] theorem State.modPly_out (s : State) (p : Ply) (f : PlyState → PlyState) :
    (s.modPly p f).out = s.out := rfl
@[simp] theorem State.modUnit_runState (s : State) (p : Ply) (f : PositionUnit → PositionUnit) :
    (s.modUnit p f).runState = s.runState := rfl
@[simp] theorem State.modUnit_causes (s : State) (p : Ply) (f : PositionUnit → PositionUnit) :
    (s.modUnit p f).causes = s.causes := rfl
@[simp] theorem State.modUnit_drain (s : State) (p : Ply) (f : PositionUnit → PositionUnit) :
    (s.modUnit p f).drain = s.drain := rfl
@[simp] theorem State.modUnit_params (s : State) (p : Ply) (f : PositionUnit → PositionUnit) :
    (s.modUnit p f).params = s.params := rfl
@[simp] theorem State.modUnit_runPlies (s : State) (p : Ply) (f : PositionUnit → PositionUnit) :
    (s.modUnit p f).runPlies = s.runPlies := rfl
@[simp] theorem State.modUnit_segments (s : State) (p : Ply) (f : PositionUnit → PositionUnit) :
    (s.modUnit p f).segments = s.segments := rfl
@[simp] theorem State.modUnit_marriageSlot (s : State) (p : Ply) (f : PositionUnit → PositionUnit) :
    (s.modUnit p f).marriageSlot = s.marriageSlot := rfl
@[simp] theorem State.modUnit_slots (s : State) (p : Ply) (f : PositionUnit → PositionUnit) :
    (s.modUnit p f).slots = s.slots := rfl
@[simp] theorem State.modUnit_blocks (s : State) (p : Ply) (f : PositionUnit → PositionUnit) :
    (s.modUnit p f).blocks = s.blocks := rfl
@[simp] theorem State.modUnit_layouts (s : State) (p : Ply) (f : PositionUnit → PositionUnit) :
    (s.modUnit p f).layouts = s.layouts := rfl
@[simp] theorem State.modUnit_cursor (s : State) (p : Ply) (f : PositionUnit → PositionUnit) :
    (s.modUnit p f).cursor = s.cursor := rfl
@[simp] theorem State.modUnit_batch (s : State) (p : Ply) (f : PositionUnit → PositionUnit) :
    (s.modUnit p f).batch = s.batch := rfl
@[simp] theorem State.modUnit_render (s : State) (p : Ply) (f : PositionUnit → PositionUnit) :
    (s.modUnit p f).render = s.render := rfl
@[simp] theorem State.modUnit_lastGranted (s : State) (p : Ply) (f : PositionUnit → PositionUnit) :
    (s.modUnit p f).lastGranted = s.lastGranted := rfl
@[simp] theorem State.modUnit_marker (s : State) (p : Ply) (f : PositionUnit → PositionUnit) :
    (s.modUnit p f).marker = s.marker := rfl
@[simp] theorem State.modUnit_tallies (s : State) (p : Ply) (f : PositionUnit → PositionUnit) :
    (s.modUnit p f).tallies = s.tallies := rfl
@[simp] theorem State.modUnit_lastMarriage (s : State) (p : Ply) (f : PositionUnit → PositionUnit) :
    (s.modUnit p f).lastMarriage = s.lastMarriage := rfl
@[simp] theorem State.modUnit_policy (s : State) (p : Ply) (f : PositionUnit → PositionUnit) :
    (s.modUnit p f).policy = s.policy := rfl
@[simp] theorem State.modUnit_endMakeups (s : State) (p : Ply) (f : PositionUnit → PositionUnit) :
    (s.modUnit p f).endMakeups = s.endMakeups := rfl
@[simp] theorem State.modUnit_makeups (s : State) (p : Ply) (f : PositionUnit → PositionUnit) :
    (s.modUnit p f).makeups = s.makeups := rfl
@[simp] theorem State.modUnit_links (s : State) (p : Ply) (f : PositionUnit → PositionUnit) :
    (s.modUnit p f).links = s.links := rfl
@[simp] theorem State.modUnit_owner (s : State) (p : Ply) (f : PositionUnit → PositionUnit) :
    (s.modUnit p f).owner = s.owner := rfl
@[simp] theorem State.modUnit_notices (s : State) (p : Ply) (f : PositionUnit → PositionUnit) :
    (s.modUnit p f).notices = s.notices := rfl
@[simp] theorem State.modUnit_withheld (s : State) (p : Ply) (f : PositionUnit → PositionUnit) :
    (s.modUnit p f).withheld = s.withheld := rfl
@[simp] theorem State.modUnit_restart (s : State) (p : Ply) (f : PositionUnit → PositionUnit) :
    (s.modUnit p f).restart = s.restart := rfl
@[simp] theorem State.modUnit_pending (s : State) (p : Ply) (f : PositionUnit → PositionUnit) :
    (s.modUnit p f).pending = s.pending := rfl
@[simp] theorem State.modUnit_out (s : State) (p : Ply) (f : PositionUnit → PositionUnit) :
    (s.modUnit p f).out = s.out := rfl
@[simp] theorem State.modHead_runState (s : State) (p : Ply) (f : HeadController → HeadController) :
    (s.modHead p f).runState = s.runState := rfl
@[simp] theorem State.modHead_causes (s : State) (p : Ply) (f : HeadController → HeadController) :
    (s.modHead p f).causes = s.causes := rfl
@[simp] theorem State.modHead_drain (s : State) (p : Ply) (f : HeadController → HeadController) :
    (s.modHead p f).drain = s.drain := rfl
@[simp] theorem State.modHead_params (s : State) (p : Ply) (f : HeadController → HeadController) :
    (s.modHead p f).params = s.params := rfl
@[simp] theorem State.modHead_runPlies (s : State) (p : Ply) (f : HeadController → HeadController) :
    (s.modHead p f).runPlies = s.runPlies := rfl
@[simp] theorem State.modHead_segments (s : State) (p : Ply) (f : HeadController → HeadController) :
    (s.modHead p f).segments = s.segments := rfl
@[simp] theorem State.modHead_marriageSlot (s : State) (p : Ply) (f : HeadController → HeadController) :
    (s.modHead p f).marriageSlot = s.marriageSlot := rfl
@[simp] theorem State.modHead_slots (s : State) (p : Ply) (f : HeadController → HeadController) :
    (s.modHead p f).slots = s.slots := rfl
@[simp] theorem State.modHead_blocks (s : State) (p : Ply) (f : HeadController → HeadController) :
    (s.modHead p f).blocks = s.blocks := rfl
@[simp] theorem State.modHead_layouts (s : State) (p : Ply) (f : HeadController → HeadController) :
    (s.modHead p f).layouts = s.layouts := rfl
@[simp] theorem State.modHead_cursor (s : State) (p : Ply) (f : HeadController → HeadController) :
    (s.modHead p f).cursor = s.cursor := rfl
@[simp] theorem State.modHead_batch (s : State) (p : Ply) (f : HeadController → HeadController) :
    (s.modHead p f).batch = s.batch := rfl
@[simp] theorem State.modHead_render (s : State) (p : Ply) (f : HeadController → HeadController) :
    (s.modHead p f).render = s.render := rfl
@[simp] theorem State.modHead_lastGranted (s : State) (p : Ply) (f : HeadController → HeadController) :
    (s.modHead p f).lastGranted = s.lastGranted := rfl
@[simp] theorem State.modHead_marker (s : State) (p : Ply) (f : HeadController → HeadController) :
    (s.modHead p f).marker = s.marker := rfl
@[simp] theorem State.modHead_tallies (s : State) (p : Ply) (f : HeadController → HeadController) :
    (s.modHead p f).tallies = s.tallies := rfl
@[simp] theorem State.modHead_lastMarriage (s : State) (p : Ply) (f : HeadController → HeadController) :
    (s.modHead p f).lastMarriage = s.lastMarriage := rfl
@[simp] theorem State.modHead_policy (s : State) (p : Ply) (f : HeadController → HeadController) :
    (s.modHead p f).policy = s.policy := rfl
@[simp] theorem State.modHead_endMakeups (s : State) (p : Ply) (f : HeadController → HeadController) :
    (s.modHead p f).endMakeups = s.endMakeups := rfl
@[simp] theorem State.modHead_makeups (s : State) (p : Ply) (f : HeadController → HeadController) :
    (s.modHead p f).makeups = s.makeups := rfl
@[simp] theorem State.modHead_links (s : State) (p : Ply) (f : HeadController → HeadController) :
    (s.modHead p f).links = s.links := rfl
@[simp] theorem State.modHead_owner (s : State) (p : Ply) (f : HeadController → HeadController) :
    (s.modHead p f).owner = s.owner := rfl
@[simp] theorem State.modHead_notices (s : State) (p : Ply) (f : HeadController → HeadController) :
    (s.modHead p f).notices = s.notices := rfl
@[simp] theorem State.modHead_withheld (s : State) (p : Ply) (f : HeadController → HeadController) :
    (s.modHead p f).withheld = s.withheld := rfl
@[simp] theorem State.modHead_restart (s : State) (p : Ply) (f : HeadController → HeadController) :
    (s.modHead p f).restart = s.restart := rfl
@[simp] theorem State.modHead_pending (s : State) (p : Ply) (f : HeadController → HeadController) :
    (s.modHead p f).pending = s.pending := rfl
@[simp] theorem State.modHead_out (s : State) (p : Ply) (f : HeadController → HeadController) :
    (s.modHead p f).out = s.out := rfl
@[simp] theorem State.modChecker_runState (s : State) (p : Ply) (f : Checker → Checker) :
    (s.modChecker p f).runState = s.runState := rfl
@[simp] theorem State.modChecker_causes (s : State) (p : Ply) (f : Checker → Checker) :
    (s.modChecker p f).causes = s.causes := rfl
@[simp] theorem State.modChecker_drain (s : State) (p : Ply) (f : Checker → Checker) :
    (s.modChecker p f).drain = s.drain := rfl
@[simp] theorem State.modChecker_params (s : State) (p : Ply) (f : Checker → Checker) :
    (s.modChecker p f).params = s.params := rfl
@[simp] theorem State.modChecker_runPlies (s : State) (p : Ply) (f : Checker → Checker) :
    (s.modChecker p f).runPlies = s.runPlies := rfl
@[simp] theorem State.modChecker_segments (s : State) (p : Ply) (f : Checker → Checker) :
    (s.modChecker p f).segments = s.segments := rfl
@[simp] theorem State.modChecker_marriageSlot (s : State) (p : Ply) (f : Checker → Checker) :
    (s.modChecker p f).marriageSlot = s.marriageSlot := rfl
@[simp] theorem State.modChecker_slots (s : State) (p : Ply) (f : Checker → Checker) :
    (s.modChecker p f).slots = s.slots := rfl
@[simp] theorem State.modChecker_blocks (s : State) (p : Ply) (f : Checker → Checker) :
    (s.modChecker p f).blocks = s.blocks := rfl
@[simp] theorem State.modChecker_layouts (s : State) (p : Ply) (f : Checker → Checker) :
    (s.modChecker p f).layouts = s.layouts := rfl
@[simp] theorem State.modChecker_cursor (s : State) (p : Ply) (f : Checker → Checker) :
    (s.modChecker p f).cursor = s.cursor := rfl
@[simp] theorem State.modChecker_batch (s : State) (p : Ply) (f : Checker → Checker) :
    (s.modChecker p f).batch = s.batch := rfl
@[simp] theorem State.modChecker_render (s : State) (p : Ply) (f : Checker → Checker) :
    (s.modChecker p f).render = s.render := rfl
@[simp] theorem State.modChecker_lastGranted (s : State) (p : Ply) (f : Checker → Checker) :
    (s.modChecker p f).lastGranted = s.lastGranted := rfl
@[simp] theorem State.modChecker_marker (s : State) (p : Ply) (f : Checker → Checker) :
    (s.modChecker p f).marker = s.marker := rfl
@[simp] theorem State.modChecker_tallies (s : State) (p : Ply) (f : Checker → Checker) :
    (s.modChecker p f).tallies = s.tallies := rfl
@[simp] theorem State.modChecker_lastMarriage (s : State) (p : Ply) (f : Checker → Checker) :
    (s.modChecker p f).lastMarriage = s.lastMarriage := rfl
@[simp] theorem State.modChecker_policy (s : State) (p : Ply) (f : Checker → Checker) :
    (s.modChecker p f).policy = s.policy := rfl
@[simp] theorem State.modChecker_endMakeups (s : State) (p : Ply) (f : Checker → Checker) :
    (s.modChecker p f).endMakeups = s.endMakeups := rfl
@[simp] theorem State.modChecker_makeups (s : State) (p : Ply) (f : Checker → Checker) :
    (s.modChecker p f).makeups = s.makeups := rfl
@[simp] theorem State.modChecker_links (s : State) (p : Ply) (f : Checker → Checker) :
    (s.modChecker p f).links = s.links := rfl
@[simp] theorem State.modChecker_owner (s : State) (p : Ply) (f : Checker → Checker) :
    (s.modChecker p f).owner = s.owner := rfl
@[simp] theorem State.modChecker_notices (s : State) (p : Ply) (f : Checker → Checker) :
    (s.modChecker p f).notices = s.notices := rfl
@[simp] theorem State.modChecker_withheld (s : State) (p : Ply) (f : Checker → Checker) :
    (s.modChecker p f).withheld = s.withheld := rfl
@[simp] theorem State.modChecker_restart (s : State) (p : Ply) (f : Checker → Checker) :
    (s.modChecker p f).restart = s.restart := rfl
@[simp] theorem State.modChecker_pending (s : State) (p : Ply) (f : Checker → Checker) :
    (s.modChecker p f).pending = s.pending := rfl
@[simp] theorem State.modChecker_out (s : State) (p : Ply) (f : Checker → Checker) :
    (s.modChecker p f).out = s.out := rfl

/-! ## `modLink` -/

@[simp] theorem State.modLink_runState (s : State) (l : Link) (f : LinkState → LinkState) :
    (s.modLink l f).runState = s.runState := rfl
@[simp] theorem State.modLink_causes (s : State) (l : Link) (f : LinkState → LinkState) :
    (s.modLink l f).causes = s.causes := rfl
@[simp] theorem State.modLink_drain (s : State) (l : Link) (f : LinkState → LinkState) :
    (s.modLink l f).drain = s.drain := rfl
@[simp] theorem State.modLink_params (s : State) (l : Link) (f : LinkState → LinkState) :
    (s.modLink l f).params = s.params := rfl
@[simp] theorem State.modLink_runPlies (s : State) (l : Link) (f : LinkState → LinkState) :
    (s.modLink l f).runPlies = s.runPlies := rfl
@[simp] theorem State.modLink_segments (s : State) (l : Link) (f : LinkState → LinkState) :
    (s.modLink l f).segments = s.segments := rfl
@[simp] theorem State.modLink_marriageSlot (s : State) (l : Link) (f : LinkState → LinkState) :
    (s.modLink l f).marriageSlot = s.marriageSlot := rfl
@[simp] theorem State.modLink_slots (s : State) (l : Link) (f : LinkState → LinkState) :
    (s.modLink l f).slots = s.slots := rfl
@[simp] theorem State.modLink_blocks (s : State) (l : Link) (f : LinkState → LinkState) :
    (s.modLink l f).blocks = s.blocks := rfl
@[simp] theorem State.modLink_layouts (s : State) (l : Link) (f : LinkState → LinkState) :
    (s.modLink l f).layouts = s.layouts := rfl
@[simp] theorem State.modLink_cursor (s : State) (l : Link) (f : LinkState → LinkState) :
    (s.modLink l f).cursor = s.cursor := rfl
@[simp] theorem State.modLink_batch (s : State) (l : Link) (f : LinkState → LinkState) :
    (s.modLink l f).batch = s.batch := rfl
@[simp] theorem State.modLink_render (s : State) (l : Link) (f : LinkState → LinkState) :
    (s.modLink l f).render = s.render := rfl
@[simp] theorem State.modLink_lastGranted (s : State) (l : Link) (f : LinkState → LinkState) :
    (s.modLink l f).lastGranted = s.lastGranted := rfl
@[simp] theorem State.modLink_plies (s : State) (l : Link) (f : LinkState → LinkState) :
    (s.modLink l f).plies = s.plies := rfl
@[simp] theorem State.modLink_marker (s : State) (l : Link) (f : LinkState → LinkState) :
    (s.modLink l f).marker = s.marker := rfl
@[simp] theorem State.modLink_tallies (s : State) (l : Link) (f : LinkState → LinkState) :
    (s.modLink l f).tallies = s.tallies := rfl
@[simp] theorem State.modLink_lastMarriage (s : State) (l : Link) (f : LinkState → LinkState) :
    (s.modLink l f).lastMarriage = s.lastMarriage := rfl
@[simp] theorem State.modLink_policy (s : State) (l : Link) (f : LinkState → LinkState) :
    (s.modLink l f).policy = s.policy := rfl
@[simp] theorem State.modLink_endMakeups (s : State) (l : Link) (f : LinkState → LinkState) :
    (s.modLink l f).endMakeups = s.endMakeups := rfl
@[simp] theorem State.modLink_makeups (s : State) (l : Link) (f : LinkState → LinkState) :
    (s.modLink l f).makeups = s.makeups := rfl
@[simp] theorem State.modLink_owner (s : State) (l : Link) (f : LinkState → LinkState) :
    (s.modLink l f).owner = s.owner := rfl
@[simp] theorem State.modLink_notices (s : State) (l : Link) (f : LinkState → LinkState) :
    (s.modLink l f).notices = s.notices := rfl
@[simp] theorem State.modLink_withheld (s : State) (l : Link) (f : LinkState → LinkState) :
    (s.modLink l f).withheld = s.withheld := rfl
@[simp] theorem State.modLink_restart (s : State) (l : Link) (f : LinkState → LinkState) :
    (s.modLink l f).restart = s.restart := rfl
@[simp] theorem State.modLink_pending (s : State) (l : Link) (f : LinkState → LinkState) :
    (s.modLink l f).pending = s.pending := rfl
@[simp] theorem State.modLink_out (s : State) (l : Link) (f : LinkState → LinkState) :
    (s.modLink l f).out = s.out := rfl

/-! ## `emit` -/

@[simp] theorem State.emit_runState (s : State) (o : Output) :
    (s.emit o).runState = s.runState := rfl
@[simp] theorem State.emit_causes (s : State) (o : Output) : (s.emit o).causes = s.causes := rfl
@[simp] theorem State.emit_drain (s : State) (o : Output) : (s.emit o).drain = s.drain := rfl
@[simp] theorem State.emit_params (s : State) (o : Output) : (s.emit o).params = s.params := rfl
@[simp] theorem State.emit_runPlies (s : State) (o : Output) :
    (s.emit o).runPlies = s.runPlies := rfl
@[simp] theorem State.emit_segments (s : State) (o : Output) :
    (s.emit o).segments = s.segments := rfl
@[simp] theorem State.emit_marriageSlot (s : State) (o : Output) :
    (s.emit o).marriageSlot = s.marriageSlot := rfl
@[simp] theorem State.emit_slots (s : State) (o : Output) : (s.emit o).slots = s.slots := rfl
@[simp] theorem State.emit_blocks (s : State) (o : Output) : (s.emit o).blocks = s.blocks := rfl
@[simp] theorem State.emit_layouts (s : State) (o : Output) : (s.emit o).layouts = s.layouts := rfl
@[simp] theorem State.emit_cursor (s : State) (o : Output) : (s.emit o).cursor = s.cursor := rfl
@[simp] theorem State.emit_batch (s : State) (o : Output) : (s.emit o).batch = s.batch := rfl
@[simp] theorem State.emit_render (s : State) (o : Output) : (s.emit o).render = s.render := rfl
@[simp] theorem State.emit_lastGranted (s : State) (o : Output) :
    (s.emit o).lastGranted = s.lastGranted := rfl
@[simp] theorem State.emit_plies (s : State) (o : Output) : (s.emit o).plies = s.plies := rfl
@[simp] theorem State.emit_marker (s : State) (o : Output) : (s.emit o).marker = s.marker := rfl
@[simp] theorem State.emit_tallies (s : State) (o : Output) : (s.emit o).tallies = s.tallies := rfl
@[simp] theorem State.emit_lastMarriage (s : State) (o : Output) :
    (s.emit o).lastMarriage = s.lastMarriage := rfl
@[simp] theorem State.emit_policy (s : State) (o : Output) : (s.emit o).policy = s.policy := rfl
@[simp] theorem State.emit_endMakeups (s : State) (o : Output) :
    (s.emit o).endMakeups = s.endMakeups := rfl
@[simp] theorem State.emit_makeups (s : State) (o : Output) : (s.emit o).makeups = s.makeups := rfl
@[simp] theorem State.emit_links (s : State) (o : Output) : (s.emit o).links = s.links := rfl
@[simp] theorem State.emit_owner (s : State) (o : Output) : (s.emit o).owner = s.owner := rfl
@[simp] theorem State.emit_notices (s : State) (o : Output) : (s.emit o).notices = s.notices := rfl
@[simp] theorem State.emit_withheld (s : State) (o : Output) :
    (s.emit o).withheld = s.withheld := rfl
@[simp] theorem State.emit_restart (s : State) (o : Output) : (s.emit o).restart = s.restart := rfl
@[simp] theorem State.emit_pending (s : State) (o : Output) : (s.emit o).pending = s.pending := rfl
@[simp] theorem State.emit_out (s : State) (o : Output) : (s.emit o).out = o :: s.out := rfl

/-! ## `countSkips` -/

@[simp] theorem State.countSkips_runState (s : State) (n : Nat) :
    (s.countSkips n).runState = s.runState := rfl
@[simp] theorem State.countSkips_causes (s : State) (n : Nat) :
    (s.countSkips n).causes = s.causes := rfl
@[simp] theorem State.countSkips_drain (s : State) (n : Nat) :
    (s.countSkips n).drain = s.drain := rfl
@[simp] theorem State.countSkips_params (s : State) (n : Nat) :
    (s.countSkips n).params = s.params := rfl
@[simp] theorem State.countSkips_runPlies (s : State) (n : Nat) :
    (s.countSkips n).runPlies = s.runPlies := rfl
@[simp] theorem State.countSkips_segments (s : State) (n : Nat) :
    (s.countSkips n).segments = s.segments := rfl
@[simp] theorem State.countSkips_marriageSlot (s : State) (n : Nat) :
    (s.countSkips n).marriageSlot = s.marriageSlot := rfl
@[simp] theorem State.countSkips_slots (s : State) (n : Nat) :
    (s.countSkips n).slots = s.slots := rfl
@[simp] theorem State.countSkips_blocks (s : State) (n : Nat) :
    (s.countSkips n).blocks = s.blocks := rfl
@[simp] theorem State.countSkips_layouts (s : State) (n : Nat) :
    (s.countSkips n).layouts = s.layouts := rfl
@[simp] theorem State.countSkips_cursor (s : State) (n : Nat) :
    (s.countSkips n).cursor = s.cursor := rfl
@[simp] theorem State.countSkips_batch (s : State) (n : Nat) :
    (s.countSkips n).batch = s.batch := rfl
@[simp] theorem State.countSkips_render (s : State) (n : Nat) :
    (s.countSkips n).render = s.render := rfl
@[simp] theorem State.countSkips_lastGranted (s : State) (n : Nat) :
    (s.countSkips n).lastGranted = s.lastGranted := rfl
@[simp] theorem State.countSkips_plies (s : State) (n : Nat) :
    (s.countSkips n).plies = s.plies := rfl
@[simp] theorem State.countSkips_marker (s : State) (n : Nat) :
    (s.countSkips n).marker = s.marker := rfl
@[simp] theorem State.countSkips_lastMarriage (s : State) (n : Nat) :
    (s.countSkips n).lastMarriage = s.lastMarriage := rfl
@[simp] theorem State.countSkips_policy (s : State) (n : Nat) :
    (s.countSkips n).policy = s.policy := rfl
@[simp] theorem State.countSkips_endMakeups (s : State) (n : Nat) :
    (s.countSkips n).endMakeups = s.endMakeups := rfl
@[simp] theorem State.countSkips_makeups (s : State) (n : Nat) :
    (s.countSkips n).makeups = s.makeups := rfl
@[simp] theorem State.countSkips_links (s : State) (n : Nat) :
    (s.countSkips n).links = s.links := rfl
@[simp] theorem State.countSkips_owner (s : State) (n : Nat) :
    (s.countSkips n).owner = s.owner := rfl
@[simp] theorem State.countSkips_notices (s : State) (n : Nat) :
    (s.countSkips n).notices = s.notices := rfl
@[simp] theorem State.countSkips_withheld (s : State) (n : Nat) :
    (s.countSkips n).withheld = s.withheld := rfl
@[simp] theorem State.countSkips_restart (s : State) (n : Nat) :
    (s.countSkips n).restart = s.restart := rfl
@[simp] theorem State.countSkips_pending (s : State) (n : Nat) :
    (s.countSkips n).pending = s.pending := rfl
@[simp] theorem State.countSkips_out (s : State) (n : Nat) : (s.countSkips n).out = s.out := rfl

/-! ## `dropSlot` -/

@[simp] theorem State.dropSlot_runState (s : State) : (s.dropSlot).runState = s.runState := rfl
@[simp] theorem State.dropSlot_causes (s : State) : (s.dropSlot).causes = s.causes := rfl
@[simp] theorem State.dropSlot_drain (s : State) : (s.dropSlot).drain = s.drain := rfl
@[simp] theorem State.dropSlot_params (s : State) : (s.dropSlot).params = s.params := rfl
@[simp] theorem State.dropSlot_runPlies (s : State) : (s.dropSlot).runPlies = s.runPlies := rfl
@[simp] theorem State.dropSlot_segments (s : State) : (s.dropSlot).segments = s.segments := rfl
@[simp] theorem State.dropSlot_blocks (s : State) : (s.dropSlot).blocks = s.blocks := rfl
@[simp] theorem State.dropSlot_layouts (s : State) : (s.dropSlot).layouts = s.layouts := rfl
@[simp] theorem State.dropSlot_cursor (s : State) : (s.dropSlot).cursor = s.cursor := rfl
@[simp] theorem State.dropSlot_batch (s : State) : (s.dropSlot).batch = s.batch := rfl
@[simp] theorem State.dropSlot_render (s : State) : (s.dropSlot).render = s.render := rfl
@[simp] theorem State.dropSlot_lastGranted (s : State) :
    (s.dropSlot).lastGranted = s.lastGranted := rfl
@[simp] theorem State.dropSlot_plies (s : State) : (s.dropSlot).plies = s.plies := rfl
@[simp] theorem State.dropSlot_marker (s : State) : (s.dropSlot).marker = s.marker := rfl
@[simp] theorem State.dropSlot_tallies (s : State) : (s.dropSlot).tallies = s.tallies := rfl
@[simp] theorem State.dropSlot_lastMarriage (s : State) :
    (s.dropSlot).lastMarriage = s.lastMarriage := rfl
@[simp] theorem State.dropSlot_policy (s : State) : (s.dropSlot).policy = s.policy := rfl
@[simp] theorem State.dropSlot_endMakeups (s : State) :
    (s.dropSlot).endMakeups = s.endMakeups := rfl
@[simp] theorem State.dropSlot_makeups (s : State) : (s.dropSlot).makeups = s.makeups := rfl
@[simp] theorem State.dropSlot_links (s : State) : (s.dropSlot).links = s.links := rfl
@[simp] theorem State.dropSlot_owner (s : State) : (s.dropSlot).owner = s.owner := rfl
@[simp] theorem State.dropSlot_notices (s : State) : (s.dropSlot).notices = s.notices := rfl
@[simp] theorem State.dropSlot_withheld (s : State) : (s.dropSlot).withheld = s.withheld := rfl
@[simp] theorem State.dropSlot_restart (s : State) : (s.dropSlot).restart = s.restart := rfl
@[simp] theorem State.dropSlot_pending (s : State) : (s.dropSlot).pending = s.pending := rfl
@[simp] theorem State.dropSlot_out (s : State) : (s.dropSlot).out = s.out := rfl
@[simp] theorem State.dropSlot_marriageSlot (s : State) :
    (s.dropSlot).marriageSlot = s.marriageSlot + 1 := rfl
@[simp] theorem State.dropSlot_slots (s : State) : (s.dropSlot).slots = s.slots.drop 1 := rfl

/-! ## `modSlot` and `modSub` -/

@[simp] theorem State.modSlot_runState (s : State) (j : Nat) (f : Slot → Slot) :
    (s.modSlot j f).runState = s.runState := by
  unfold State.modSlot; split <;> rfl
@[simp] theorem State.modSlot_causes (s : State) (j : Nat) (f : Slot → Slot) :
    (s.modSlot j f).causes = s.causes := by
  unfold State.modSlot; split <;> rfl
@[simp] theorem State.modSlot_drain (s : State) (j : Nat) (f : Slot → Slot) :
    (s.modSlot j f).drain = s.drain := by
  unfold State.modSlot; split <;> rfl
@[simp] theorem State.modSlot_params (s : State) (j : Nat) (f : Slot → Slot) :
    (s.modSlot j f).params = s.params := by
  unfold State.modSlot; split <;> rfl
@[simp] theorem State.modSlot_runPlies (s : State) (j : Nat) (f : Slot → Slot) :
    (s.modSlot j f).runPlies = s.runPlies := by
  unfold State.modSlot; split <;> rfl
@[simp] theorem State.modSlot_segments (s : State) (j : Nat) (f : Slot → Slot) :
    (s.modSlot j f).segments = s.segments := by
  unfold State.modSlot; split <;> rfl
@[simp] theorem State.modSlot_marriageSlot (s : State) (j : Nat) (f : Slot → Slot) :
    (s.modSlot j f).marriageSlot = s.marriageSlot := by
  unfold State.modSlot; split <;> rfl
@[simp] theorem State.modSlot_blocks (s : State) (j : Nat) (f : Slot → Slot) :
    (s.modSlot j f).blocks = s.blocks := by
  unfold State.modSlot; split <;> rfl
@[simp] theorem State.modSlot_layouts (s : State) (j : Nat) (f : Slot → Slot) :
    (s.modSlot j f).layouts = s.layouts := by
  unfold State.modSlot; split <;> rfl
@[simp] theorem State.modSlot_cursor (s : State) (j : Nat) (f : Slot → Slot) :
    (s.modSlot j f).cursor = s.cursor := by
  unfold State.modSlot; split <;> rfl
@[simp] theorem State.modSlot_batch (s : State) (j : Nat) (f : Slot → Slot) :
    (s.modSlot j f).batch = s.batch := by
  unfold State.modSlot; split <;> rfl
@[simp] theorem State.modSlot_render (s : State) (j : Nat) (f : Slot → Slot) :
    (s.modSlot j f).render = s.render := by
  unfold State.modSlot; split <;> rfl
@[simp] theorem State.modSlot_lastGranted (s : State) (j : Nat) (f : Slot → Slot) :
    (s.modSlot j f).lastGranted = s.lastGranted := by
  unfold State.modSlot; split <;> rfl
@[simp] theorem State.modSlot_plies (s : State) (j : Nat) (f : Slot → Slot) :
    (s.modSlot j f).plies = s.plies := by
  unfold State.modSlot; split <;> rfl
@[simp] theorem State.modSlot_marker (s : State) (j : Nat) (f : Slot → Slot) :
    (s.modSlot j f).marker = s.marker := by
  unfold State.modSlot; split <;> rfl
@[simp] theorem State.modSlot_tallies (s : State) (j : Nat) (f : Slot → Slot) :
    (s.modSlot j f).tallies = s.tallies := by
  unfold State.modSlot; split <;> rfl
@[simp] theorem State.modSlot_lastMarriage (s : State) (j : Nat) (f : Slot → Slot) :
    (s.modSlot j f).lastMarriage = s.lastMarriage := by
  unfold State.modSlot; split <;> rfl
@[simp] theorem State.modSlot_policy (s : State) (j : Nat) (f : Slot → Slot) :
    (s.modSlot j f).policy = s.policy := by
  unfold State.modSlot; split <;> rfl
@[simp] theorem State.modSlot_endMakeups (s : State) (j : Nat) (f : Slot → Slot) :
    (s.modSlot j f).endMakeups = s.endMakeups := by
  unfold State.modSlot; split <;> rfl
@[simp] theorem State.modSlot_makeups (s : State) (j : Nat) (f : Slot → Slot) :
    (s.modSlot j f).makeups = s.makeups := by
  unfold State.modSlot; split <;> rfl
@[simp] theorem State.modSlot_links (s : State) (j : Nat) (f : Slot → Slot) :
    (s.modSlot j f).links = s.links := by
  unfold State.modSlot; split <;> rfl
@[simp] theorem State.modSlot_owner (s : State) (j : Nat) (f : Slot → Slot) :
    (s.modSlot j f).owner = s.owner := by
  unfold State.modSlot; split <;> rfl
@[simp] theorem State.modSlot_notices (s : State) (j : Nat) (f : Slot → Slot) :
    (s.modSlot j f).notices = s.notices := by
  unfold State.modSlot; split <;> rfl
@[simp] theorem State.modSlot_withheld (s : State) (j : Nat) (f : Slot → Slot) :
    (s.modSlot j f).withheld = s.withheld := by
  unfold State.modSlot; split <;> rfl
@[simp] theorem State.modSlot_restart (s : State) (j : Nat) (f : Slot → Slot) :
    (s.modSlot j f).restart = s.restart := by
  unfold State.modSlot; split <;> rfl
@[simp] theorem State.modSlot_pending (s : State) (j : Nat) (f : Slot → Slot) :
    (s.modSlot j f).pending = s.pending := by
  unfold State.modSlot; split <;> rfl
@[simp] theorem State.modSlot_out (s : State) (j : Nat) (f : Slot → Slot) :
    (s.modSlot j f).out = s.out := by
  unfold State.modSlot; split <;> rfl
@[simp] theorem State.modSub_runState (s : State) (j : Nat) (p : Ply) (f : SubRecord → SubRecord) :
    (s.modSub j p f).runState = s.runState := by simp [State.modSub]
@[simp] theorem State.modSub_causes (s : State) (j : Nat) (p : Ply) (f : SubRecord → SubRecord) :
    (s.modSub j p f).causes = s.causes := by simp [State.modSub]
@[simp] theorem State.modSub_drain (s : State) (j : Nat) (p : Ply) (f : SubRecord → SubRecord) :
    (s.modSub j p f).drain = s.drain := by simp [State.modSub]
@[simp] theorem State.modSub_params (s : State) (j : Nat) (p : Ply) (f : SubRecord → SubRecord) :
    (s.modSub j p f).params = s.params := by simp [State.modSub]
@[simp] theorem State.modSub_runPlies (s : State) (j : Nat) (p : Ply) (f : SubRecord → SubRecord) :
    (s.modSub j p f).runPlies = s.runPlies := by simp [State.modSub]
@[simp] theorem State.modSub_segments (s : State) (j : Nat) (p : Ply) (f : SubRecord → SubRecord) :
    (s.modSub j p f).segments = s.segments := by simp [State.modSub]
@[simp] theorem State.modSub_marriageSlot (s : State) (j : Nat) (p : Ply) (f : SubRecord → SubRecord) :
    (s.modSub j p f).marriageSlot = s.marriageSlot := by simp [State.modSub]
@[simp] theorem State.modSub_blocks (s : State) (j : Nat) (p : Ply) (f : SubRecord → SubRecord) :
    (s.modSub j p f).blocks = s.blocks := by simp [State.modSub]
@[simp] theorem State.modSub_layouts (s : State) (j : Nat) (p : Ply) (f : SubRecord → SubRecord) :
    (s.modSub j p f).layouts = s.layouts := by simp [State.modSub]
@[simp] theorem State.modSub_cursor (s : State) (j : Nat) (p : Ply) (f : SubRecord → SubRecord) :
    (s.modSub j p f).cursor = s.cursor := by simp [State.modSub]
@[simp] theorem State.modSub_batch (s : State) (j : Nat) (p : Ply) (f : SubRecord → SubRecord) :
    (s.modSub j p f).batch = s.batch := by simp [State.modSub]
@[simp] theorem State.modSub_render (s : State) (j : Nat) (p : Ply) (f : SubRecord → SubRecord) :
    (s.modSub j p f).render = s.render := by simp [State.modSub]
@[simp] theorem State.modSub_lastGranted (s : State) (j : Nat) (p : Ply) (f : SubRecord → SubRecord) :
    (s.modSub j p f).lastGranted = s.lastGranted := by simp [State.modSub]
@[simp] theorem State.modSub_plies (s : State) (j : Nat) (p : Ply) (f : SubRecord → SubRecord) :
    (s.modSub j p f).plies = s.plies := by simp [State.modSub]
@[simp] theorem State.modSub_marker (s : State) (j : Nat) (p : Ply) (f : SubRecord → SubRecord) :
    (s.modSub j p f).marker = s.marker := by simp [State.modSub]
@[simp] theorem State.modSub_tallies (s : State) (j : Nat) (p : Ply) (f : SubRecord → SubRecord) :
    (s.modSub j p f).tallies = s.tallies := by simp [State.modSub]
@[simp] theorem State.modSub_lastMarriage (s : State) (j : Nat) (p : Ply) (f : SubRecord → SubRecord) :
    (s.modSub j p f).lastMarriage = s.lastMarriage := by simp [State.modSub]
@[simp] theorem State.modSub_policy (s : State) (j : Nat) (p : Ply) (f : SubRecord → SubRecord) :
    (s.modSub j p f).policy = s.policy := by simp [State.modSub]
@[simp] theorem State.modSub_endMakeups (s : State) (j : Nat) (p : Ply) (f : SubRecord → SubRecord) :
    (s.modSub j p f).endMakeups = s.endMakeups := by simp [State.modSub]
@[simp] theorem State.modSub_makeups (s : State) (j : Nat) (p : Ply) (f : SubRecord → SubRecord) :
    (s.modSub j p f).makeups = s.makeups := by simp [State.modSub]
@[simp] theorem State.modSub_links (s : State) (j : Nat) (p : Ply) (f : SubRecord → SubRecord) :
    (s.modSub j p f).links = s.links := by simp [State.modSub]
@[simp] theorem State.modSub_owner (s : State) (j : Nat) (p : Ply) (f : SubRecord → SubRecord) :
    (s.modSub j p f).owner = s.owner := by simp [State.modSub]
@[simp] theorem State.modSub_notices (s : State) (j : Nat) (p : Ply) (f : SubRecord → SubRecord) :
    (s.modSub j p f).notices = s.notices := by simp [State.modSub]
@[simp] theorem State.modSub_withheld (s : State) (j : Nat) (p : Ply) (f : SubRecord → SubRecord) :
    (s.modSub j p f).withheld = s.withheld := by simp [State.modSub]
@[simp] theorem State.modSub_restart (s : State) (j : Nat) (p : Ply) (f : SubRecord → SubRecord) :
    (s.modSub j p f).restart = s.restart := by simp [State.modSub]
@[simp] theorem State.modSub_pending (s : State) (j : Nat) (p : Ply) (f : SubRecord → SubRecord) :
    (s.modSub j p f).pending = s.pending := by simp [State.modSub]
@[simp] theorem State.modSub_out (s : State) (j : Nat) (p : Ply) (f : SubRecord → SubRecord) :
    (s.modSub j p f).out = s.out := by simp [State.modSub]

/-! ## `create` -/

@[simp] theorem State.create_runState (s : State) (j : Nat) :
    (s.create j).runState = s.runState := by
  unfold State.create; split <;> rfl
@[simp] theorem State.create_causes (s : State) (j : Nat) :
    (s.create j).causes = s.causes := by
  unfold State.create; split <;> rfl
@[simp] theorem State.create_drain (s : State) (j : Nat) :
    (s.create j).drain = s.drain := by
  unfold State.create; split <;> rfl
@[simp] theorem State.create_params (s : State) (j : Nat) :
    (s.create j).params = s.params := by
  unfold State.create; split <;> rfl
@[simp] theorem State.create_runPlies (s : State) (j : Nat) :
    (s.create j).runPlies = s.runPlies := by
  unfold State.create; split <;> rfl
@[simp] theorem State.create_segments (s : State) (j : Nat) :
    (s.create j).segments = s.segments := by
  unfold State.create; split <;> rfl
@[simp] theorem State.create_marriageSlot (s : State) (j : Nat) :
    (s.create j).marriageSlot = s.marriageSlot := by
  unfold State.create; split <;> rfl
@[simp] theorem State.create_blocks (s : State) (j : Nat) :
    (s.create j).blocks = s.blocks := by
  unfold State.create; split <;> rfl
@[simp] theorem State.create_layouts (s : State) (j : Nat) :
    (s.create j).layouts = s.layouts := by
  unfold State.create; split <;> rfl
@[simp] theorem State.create_cursor (s : State) (j : Nat) :
    (s.create j).cursor = s.cursor := by
  unfold State.create; split <;> rfl
@[simp] theorem State.create_batch (s : State) (j : Nat) :
    (s.create j).batch = s.batch := by
  unfold State.create; split <;> rfl
@[simp] theorem State.create_render (s : State) (j : Nat) :
    (s.create j).render = s.render := by
  unfold State.create; split <;> rfl
@[simp] theorem State.create_lastGranted (s : State) (j : Nat) :
    (s.create j).lastGranted = s.lastGranted := by
  unfold State.create; split <;> rfl
@[simp] theorem State.create_plies (s : State) (j : Nat) :
    (s.create j).plies = s.plies := by
  unfold State.create; split <;> rfl
@[simp] theorem State.create_marker (s : State) (j : Nat) :
    (s.create j).marker = s.marker := by
  unfold State.create; split <;> rfl
@[simp] theorem State.create_tallies (s : State) (j : Nat) :
    (s.create j).tallies = s.tallies := by
  unfold State.create; split <;> rfl
@[simp] theorem State.create_lastMarriage (s : State) (j : Nat) :
    (s.create j).lastMarriage = s.lastMarriage := by
  unfold State.create; split <;> rfl
@[simp] theorem State.create_policy (s : State) (j : Nat) :
    (s.create j).policy = s.policy := by
  unfold State.create; split <;> rfl
@[simp] theorem State.create_endMakeups (s : State) (j : Nat) :
    (s.create j).endMakeups = s.endMakeups := by
  unfold State.create; split <;> rfl
@[simp] theorem State.create_makeups (s : State) (j : Nat) :
    (s.create j).makeups = s.makeups := by
  unfold State.create; split <;> rfl
@[simp] theorem State.create_links (s : State) (j : Nat) :
    (s.create j).links = s.links := by
  unfold State.create; split <;> rfl
@[simp] theorem State.create_owner (s : State) (j : Nat) :
    (s.create j).owner = s.owner := by
  unfold State.create; split <;> rfl
@[simp] theorem State.create_notices (s : State) (j : Nat) :
    (s.create j).notices = s.notices := by
  unfold State.create; split <;> rfl
@[simp] theorem State.create_withheld (s : State) (j : Nat) :
    (s.create j).withheld = s.withheld := by
  unfold State.create; split <;> rfl
@[simp] theorem State.create_restart (s : State) (j : Nat) :
    (s.create j).restart = s.restart := by
  unfold State.create; split <;> rfl
@[simp] theorem State.create_pending (s : State) (j : Nat) :
    (s.create j).pending = s.pending := by
  unfold State.create; split <;> rfl
@[simp] theorem State.create_out (s : State) (j : Nat) :
    (s.create j).out = s.out := by
  unfold State.create; split <;> rfl

/-! ## `askSlot` and `retireSlot` -/

/-- R17: asking for a slot adds fresh slots at the top, or nothing. -/
theorem State.askSlot_adds (s : State) (p : Ply) :
    ∃ n, s.askSlot p = { s with slots := s.slots ++ List.replicate n s.freshSlot } := by
  unfold State.askSlot State.create
  split
  · split
    · exact ⟨_, rfl⟩
    · exact ⟨0, by simp⟩
  · exact ⟨0, by simp⟩

/-- R17: the same, for several plies that ask one after another. -/
theorem State.askAll_adds (ps : List Ply) (s : State) :
    ∃ n, ps.foldl State.askSlot s =
      { s with slots := s.slots ++ List.replicate n s.freshSlot } := by
  induction ps generalizing s with
  | nil => exact ⟨0, by simp⟩
  | cons p ps ih =>
    obtain ⟨m, hm⟩ := s.askSlot_adds p
    obtain ⟨n, hn⟩ := ih (s.askSlot p)
    refine ⟨m + n, ?_⟩
    rw [List.foldl_cons, hn, hm]
    simp [State.freshSlot]

/-- R22: a retirement takes the slot at the marriage slot away, and adds fresh slots at the top for
the needs that waited. -/
theorem State.retireSlot_adds (s : State) :
    ∃ n, s.retireSlot =
      { s.dropSlot with slots := s.slots.drop 1 ++ List.replicate n s.freshSlot } :=
  State.askAll_adds _ s.dropSlot

@[simp] theorem State.askSlot_runState (s : State) (p : Ply) :
    (s.askSlot p).runState = s.runState := by
  obtain ⟨_, h⟩ := s.askSlot_adds p; rw [h]
@[simp] theorem State.askSlot_causes (s : State) (p : Ply) :
    (s.askSlot p).causes = s.causes := by
  obtain ⟨_, h⟩ := s.askSlot_adds p; rw [h]
@[simp] theorem State.askSlot_drain (s : State) (p : Ply) :
    (s.askSlot p).drain = s.drain := by
  obtain ⟨_, h⟩ := s.askSlot_adds p; rw [h]
@[simp] theorem State.askSlot_params (s : State) (p : Ply) :
    (s.askSlot p).params = s.params := by
  obtain ⟨_, h⟩ := s.askSlot_adds p; rw [h]
@[simp] theorem State.askSlot_runPlies (s : State) (p : Ply) :
    (s.askSlot p).runPlies = s.runPlies := by
  obtain ⟨_, h⟩ := s.askSlot_adds p; rw [h]
@[simp] theorem State.askSlot_segments (s : State) (p : Ply) :
    (s.askSlot p).segments = s.segments := by
  obtain ⟨_, h⟩ := s.askSlot_adds p; rw [h]
@[simp] theorem State.askSlot_blocks (s : State) (p : Ply) :
    (s.askSlot p).blocks = s.blocks := by
  obtain ⟨_, h⟩ := s.askSlot_adds p; rw [h]
@[simp] theorem State.askSlot_layouts (s : State) (p : Ply) :
    (s.askSlot p).layouts = s.layouts := by
  obtain ⟨_, h⟩ := s.askSlot_adds p; rw [h]
@[simp] theorem State.askSlot_cursor (s : State) (p : Ply) :
    (s.askSlot p).cursor = s.cursor := by
  obtain ⟨_, h⟩ := s.askSlot_adds p; rw [h]
@[simp] theorem State.askSlot_batch (s : State) (p : Ply) :
    (s.askSlot p).batch = s.batch := by
  obtain ⟨_, h⟩ := s.askSlot_adds p; rw [h]
@[simp] theorem State.askSlot_render (s : State) (p : Ply) :
    (s.askSlot p).render = s.render := by
  obtain ⟨_, h⟩ := s.askSlot_adds p; rw [h]
@[simp] theorem State.askSlot_lastGranted (s : State) (p : Ply) :
    (s.askSlot p).lastGranted = s.lastGranted := by
  obtain ⟨_, h⟩ := s.askSlot_adds p; rw [h]
@[simp] theorem State.askSlot_plies (s : State) (p : Ply) :
    (s.askSlot p).plies = s.plies := by
  obtain ⟨_, h⟩ := s.askSlot_adds p; rw [h]
@[simp] theorem State.askSlot_marker (s : State) (p : Ply) :
    (s.askSlot p).marker = s.marker := by
  obtain ⟨_, h⟩ := s.askSlot_adds p; rw [h]
@[simp] theorem State.askSlot_tallies (s : State) (p : Ply) :
    (s.askSlot p).tallies = s.tallies := by
  obtain ⟨_, h⟩ := s.askSlot_adds p; rw [h]
@[simp] theorem State.askSlot_lastMarriage (s : State) (p : Ply) :
    (s.askSlot p).lastMarriage = s.lastMarriage := by
  obtain ⟨_, h⟩ := s.askSlot_adds p; rw [h]
@[simp] theorem State.askSlot_policy (s : State) (p : Ply) :
    (s.askSlot p).policy = s.policy := by
  obtain ⟨_, h⟩ := s.askSlot_adds p; rw [h]
@[simp] theorem State.askSlot_endMakeups (s : State) (p : Ply) :
    (s.askSlot p).endMakeups = s.endMakeups := by
  obtain ⟨_, h⟩ := s.askSlot_adds p; rw [h]
@[simp] theorem State.askSlot_makeups (s : State) (p : Ply) :
    (s.askSlot p).makeups = s.makeups := by
  obtain ⟨_, h⟩ := s.askSlot_adds p; rw [h]
@[simp] theorem State.askSlot_links (s : State) (p : Ply) :
    (s.askSlot p).links = s.links := by
  obtain ⟨_, h⟩ := s.askSlot_adds p; rw [h]
@[simp] theorem State.askSlot_owner (s : State) (p : Ply) :
    (s.askSlot p).owner = s.owner := by
  obtain ⟨_, h⟩ := s.askSlot_adds p; rw [h]
@[simp] theorem State.askSlot_notices (s : State) (p : Ply) :
    (s.askSlot p).notices = s.notices := by
  obtain ⟨_, h⟩ := s.askSlot_adds p; rw [h]
@[simp] theorem State.askSlot_withheld (s : State) (p : Ply) :
    (s.askSlot p).withheld = s.withheld := by
  obtain ⟨_, h⟩ := s.askSlot_adds p; rw [h]
@[simp] theorem State.askSlot_restart (s : State) (p : Ply) :
    (s.askSlot p).restart = s.restart := by
  obtain ⟨_, h⟩ := s.askSlot_adds p; rw [h]
@[simp] theorem State.askSlot_pending (s : State) (p : Ply) :
    (s.askSlot p).pending = s.pending := by
  obtain ⟨_, h⟩ := s.askSlot_adds p; rw [h]
@[simp] theorem State.askSlot_out (s : State) (p : Ply) :
    (s.askSlot p).out = s.out := by
  obtain ⟨_, h⟩ := s.askSlot_adds p; rw [h]
@[simp] theorem State.askSlot_marriageSlot (s : State) (p : Ply) :
    (s.askSlot p).marriageSlot = s.marriageSlot := by
  obtain ⟨_, h⟩ := s.askSlot_adds p; rw [h]
@[simp] theorem State.retireSlot_runState (s : State) :
    (s.retireSlot).runState = s.runState := by
  obtain ⟨_, h⟩ := s.retireSlot_adds; rw [h]; rfl
@[simp] theorem State.retireSlot_causes (s : State) :
    (s.retireSlot).causes = s.causes := by
  obtain ⟨_, h⟩ := s.retireSlot_adds; rw [h]; rfl
@[simp] theorem State.retireSlot_drain (s : State) :
    (s.retireSlot).drain = s.drain := by
  obtain ⟨_, h⟩ := s.retireSlot_adds; rw [h]; rfl
@[simp] theorem State.retireSlot_params (s : State) :
    (s.retireSlot).params = s.params := by
  obtain ⟨_, h⟩ := s.retireSlot_adds; rw [h]; rfl
@[simp] theorem State.retireSlot_runPlies (s : State) :
    (s.retireSlot).runPlies = s.runPlies := by
  obtain ⟨_, h⟩ := s.retireSlot_adds; rw [h]; rfl
@[simp] theorem State.retireSlot_segments (s : State) :
    (s.retireSlot).segments = s.segments := by
  obtain ⟨_, h⟩ := s.retireSlot_adds; rw [h]; rfl
@[simp] theorem State.retireSlot_blocks (s : State) :
    (s.retireSlot).blocks = s.blocks := by
  obtain ⟨_, h⟩ := s.retireSlot_adds; rw [h]; rfl
@[simp] theorem State.retireSlot_layouts (s : State) :
    (s.retireSlot).layouts = s.layouts := by
  obtain ⟨_, h⟩ := s.retireSlot_adds; rw [h]; rfl
@[simp] theorem State.retireSlot_cursor (s : State) :
    (s.retireSlot).cursor = s.cursor := by
  obtain ⟨_, h⟩ := s.retireSlot_adds; rw [h]; rfl
@[simp] theorem State.retireSlot_batch (s : State) :
    (s.retireSlot).batch = s.batch := by
  obtain ⟨_, h⟩ := s.retireSlot_adds; rw [h]; rfl
@[simp] theorem State.retireSlot_render (s : State) :
    (s.retireSlot).render = s.render := by
  obtain ⟨_, h⟩ := s.retireSlot_adds; rw [h]; rfl
@[simp] theorem State.retireSlot_lastGranted (s : State) :
    (s.retireSlot).lastGranted = s.lastGranted := by
  obtain ⟨_, h⟩ := s.retireSlot_adds; rw [h]; rfl
@[simp] theorem State.retireSlot_plies (s : State) :
    (s.retireSlot).plies = s.plies := by
  obtain ⟨_, h⟩ := s.retireSlot_adds; rw [h]; rfl
@[simp] theorem State.retireSlot_marker (s : State) :
    (s.retireSlot).marker = s.marker := by
  obtain ⟨_, h⟩ := s.retireSlot_adds; rw [h]; rfl
@[simp] theorem State.retireSlot_tallies (s : State) :
    (s.retireSlot).tallies = s.tallies := by
  obtain ⟨_, h⟩ := s.retireSlot_adds; rw [h]; rfl
@[simp] theorem State.retireSlot_lastMarriage (s : State) :
    (s.retireSlot).lastMarriage = s.lastMarriage := by
  obtain ⟨_, h⟩ := s.retireSlot_adds; rw [h]; rfl
@[simp] theorem State.retireSlot_policy (s : State) :
    (s.retireSlot).policy = s.policy := by
  obtain ⟨_, h⟩ := s.retireSlot_adds; rw [h]; rfl
@[simp] theorem State.retireSlot_endMakeups (s : State) :
    (s.retireSlot).endMakeups = s.endMakeups := by
  obtain ⟨_, h⟩ := s.retireSlot_adds; rw [h]; rfl
@[simp] theorem State.retireSlot_makeups (s : State) :
    (s.retireSlot).makeups = s.makeups := by
  obtain ⟨_, h⟩ := s.retireSlot_adds; rw [h]; rfl
@[simp] theorem State.retireSlot_links (s : State) :
    (s.retireSlot).links = s.links := by
  obtain ⟨_, h⟩ := s.retireSlot_adds; rw [h]; rfl
@[simp] theorem State.retireSlot_owner (s : State) :
    (s.retireSlot).owner = s.owner := by
  obtain ⟨_, h⟩ := s.retireSlot_adds; rw [h]; rfl
@[simp] theorem State.retireSlot_notices (s : State) :
    (s.retireSlot).notices = s.notices := by
  obtain ⟨_, h⟩ := s.retireSlot_adds; rw [h]; rfl
@[simp] theorem State.retireSlot_withheld (s : State) :
    (s.retireSlot).withheld = s.withheld := by
  obtain ⟨_, h⟩ := s.retireSlot_adds; rw [h]; rfl
@[simp] theorem State.retireSlot_restart (s : State) :
    (s.retireSlot).restart = s.restart := by
  obtain ⟨_, h⟩ := s.retireSlot_adds; rw [h]; rfl
@[simp] theorem State.retireSlot_pending (s : State) :
    (s.retireSlot).pending = s.pending := by
  obtain ⟨_, h⟩ := s.retireSlot_adds; rw [h]; rfl
@[simp] theorem State.retireSlot_out (s : State) :
    (s.retireSlot).out = s.out := by
  obtain ⟨_, h⟩ := s.retireSlot_adds; rw [h]; rfl
@[simp] theorem State.retireSlot_marriageSlot (s : State) :
    (s.retireSlot).marriageSlot = s.marriageSlot + 1 := by
  obtain ⟨_, h⟩ := s.retireSlot_adds; rw [h]; rfl

/-! ## `queueNotice`, `notify`, `notifyRunState` -/

@[simp] theorem State.queueNotice_runState (s : State) (n : Notice) (d : Destination) :
    (s.queueNotice n d).runState = s.runState := by
  unfold State.queueNotice; split <;> rfl
@[simp] theorem State.queueNotice_causes (s : State) (n : Notice) (d : Destination) :
    (s.queueNotice n d).causes = s.causes := by
  unfold State.queueNotice; split <;> rfl
@[simp] theorem State.queueNotice_drain (s : State) (n : Notice) (d : Destination) :
    (s.queueNotice n d).drain = s.drain := by
  unfold State.queueNotice; split <;> rfl
@[simp] theorem State.queueNotice_params (s : State) (n : Notice) (d : Destination) :
    (s.queueNotice n d).params = s.params := by
  unfold State.queueNotice; split <;> rfl
@[simp] theorem State.queueNotice_runPlies (s : State) (n : Notice) (d : Destination) :
    (s.queueNotice n d).runPlies = s.runPlies := by
  unfold State.queueNotice; split <;> rfl
@[simp] theorem State.queueNotice_segments (s : State) (n : Notice) (d : Destination) :
    (s.queueNotice n d).segments = s.segments := by
  unfold State.queueNotice; split <;> rfl
@[simp] theorem State.queueNotice_marriageSlot (s : State) (n : Notice) (d : Destination) :
    (s.queueNotice n d).marriageSlot = s.marriageSlot := by
  unfold State.queueNotice; split <;> rfl
@[simp] theorem State.queueNotice_slots (s : State) (n : Notice) (d : Destination) :
    (s.queueNotice n d).slots = s.slots := by
  unfold State.queueNotice; split <;> rfl
@[simp] theorem State.queueNotice_blocks (s : State) (n : Notice) (d : Destination) :
    (s.queueNotice n d).blocks = s.blocks := by
  unfold State.queueNotice; split <;> rfl
@[simp] theorem State.queueNotice_layouts (s : State) (n : Notice) (d : Destination) :
    (s.queueNotice n d).layouts = s.layouts := by
  unfold State.queueNotice; split <;> rfl
@[simp] theorem State.queueNotice_cursor (s : State) (n : Notice) (d : Destination) :
    (s.queueNotice n d).cursor = s.cursor := by
  unfold State.queueNotice; split <;> rfl
@[simp] theorem State.queueNotice_batch (s : State) (n : Notice) (d : Destination) :
    (s.queueNotice n d).batch = s.batch := by
  unfold State.queueNotice; split <;> rfl
@[simp] theorem State.queueNotice_render (s : State) (n : Notice) (d : Destination) :
    (s.queueNotice n d).render = s.render := by
  unfold State.queueNotice; split <;> rfl
@[simp] theorem State.queueNotice_lastGranted (s : State) (n : Notice) (d : Destination) :
    (s.queueNotice n d).lastGranted = s.lastGranted := by
  unfold State.queueNotice; split <;> rfl
@[simp] theorem State.queueNotice_plies (s : State) (n : Notice) (d : Destination) :
    (s.queueNotice n d).plies = s.plies := by
  unfold State.queueNotice; split <;> rfl
@[simp] theorem State.queueNotice_marker (s : State) (n : Notice) (d : Destination) :
    (s.queueNotice n d).marker = s.marker := by
  unfold State.queueNotice; split <;> rfl
@[simp] theorem State.queueNotice_tallies (s : State) (n : Notice) (d : Destination) :
    (s.queueNotice n d).tallies = s.tallies := by
  unfold State.queueNotice; split <;> rfl
@[simp] theorem State.queueNotice_lastMarriage (s : State) (n : Notice) (d : Destination) :
    (s.queueNotice n d).lastMarriage = s.lastMarriage := by
  unfold State.queueNotice; split <;> rfl
@[simp] theorem State.queueNotice_policy (s : State) (n : Notice) (d : Destination) :
    (s.queueNotice n d).policy = s.policy := by
  unfold State.queueNotice; split <;> rfl
@[simp] theorem State.queueNotice_endMakeups (s : State) (n : Notice) (d : Destination) :
    (s.queueNotice n d).endMakeups = s.endMakeups := by
  unfold State.queueNotice; split <;> rfl
@[simp] theorem State.queueNotice_makeups (s : State) (n : Notice) (d : Destination) :
    (s.queueNotice n d).makeups = s.makeups := by
  unfold State.queueNotice; split <;> rfl
@[simp] theorem State.queueNotice_links (s : State) (n : Notice) (d : Destination) :
    (s.queueNotice n d).links = s.links := by
  unfold State.queueNotice; split <;> rfl
@[simp] theorem State.queueNotice_owner (s : State) (n : Notice) (d : Destination) :
    (s.queueNotice n d).owner = s.owner := by
  unfold State.queueNotice; split <;> rfl
@[simp] theorem State.queueNotice_restart (s : State) (n : Notice) (d : Destination) :
    (s.queueNotice n d).restart = s.restart := by
  unfold State.queueNotice; split <;> rfl
@[simp] theorem State.queueNotice_pending (s : State) (n : Notice) (d : Destination) :
    (s.queueNotice n d).pending = s.pending := by
  unfold State.queueNotice; split <;> rfl
@[simp] theorem State.queueNotice_out (s : State) (n : Notice) (d : Destination) :
    (s.queueNotice n d).out = s.out := by
  unfold State.queueNotice; split <;> rfl
@[simp] theorem State.notify_runState (s : State) (n : Notice) :
    (s.notify n).runState = s.runState := by simp [State.notify]
@[simp] theorem State.notify_causes (s : State) (n : Notice) :
    (s.notify n).causes = s.causes := by simp [State.notify]
@[simp] theorem State.notify_drain (s : State) (n : Notice) :
    (s.notify n).drain = s.drain := by simp [State.notify]
@[simp] theorem State.notify_params (s : State) (n : Notice) :
    (s.notify n).params = s.params := by simp [State.notify]
@[simp] theorem State.notify_runPlies (s : State) (n : Notice) :
    (s.notify n).runPlies = s.runPlies := by simp [State.notify]
@[simp] theorem State.notify_segments (s : State) (n : Notice) :
    (s.notify n).segments = s.segments := by simp [State.notify]
@[simp] theorem State.notify_marriageSlot (s : State) (n : Notice) :
    (s.notify n).marriageSlot = s.marriageSlot := by simp [State.notify]
@[simp] theorem State.notify_slots (s : State) (n : Notice) :
    (s.notify n).slots = s.slots := by simp [State.notify]
@[simp] theorem State.notify_blocks (s : State) (n : Notice) :
    (s.notify n).blocks = s.blocks := by simp [State.notify]
@[simp] theorem State.notify_layouts (s : State) (n : Notice) :
    (s.notify n).layouts = s.layouts := by simp [State.notify]
@[simp] theorem State.notify_cursor (s : State) (n : Notice) :
    (s.notify n).cursor = s.cursor := by simp [State.notify]
@[simp] theorem State.notify_batch (s : State) (n : Notice) :
    (s.notify n).batch = s.batch := by simp [State.notify]
@[simp] theorem State.notify_render (s : State) (n : Notice) :
    (s.notify n).render = s.render := by simp [State.notify]
@[simp] theorem State.notify_lastGranted (s : State) (n : Notice) :
    (s.notify n).lastGranted = s.lastGranted := by simp [State.notify]
@[simp] theorem State.notify_plies (s : State) (n : Notice) :
    (s.notify n).plies = s.plies := by simp [State.notify]
@[simp] theorem State.notify_marker (s : State) (n : Notice) :
    (s.notify n).marker = s.marker := by simp [State.notify]
@[simp] theorem State.notify_tallies (s : State) (n : Notice) :
    (s.notify n).tallies = s.tallies := by simp [State.notify]
@[simp] theorem State.notify_lastMarriage (s : State) (n : Notice) :
    (s.notify n).lastMarriage = s.lastMarriage := by simp [State.notify]
@[simp] theorem State.notify_policy (s : State) (n : Notice) :
    (s.notify n).policy = s.policy := by simp [State.notify]
@[simp] theorem State.notify_endMakeups (s : State) (n : Notice) :
    (s.notify n).endMakeups = s.endMakeups := by simp [State.notify]
@[simp] theorem State.notify_makeups (s : State) (n : Notice) :
    (s.notify n).makeups = s.makeups := by simp [State.notify]
@[simp] theorem State.notify_links (s : State) (n : Notice) :
    (s.notify n).links = s.links := by simp [State.notify]
@[simp] theorem State.notify_owner (s : State) (n : Notice) :
    (s.notify n).owner = s.owner := by simp [State.notify]
@[simp] theorem State.notify_restart (s : State) (n : Notice) :
    (s.notify n).restart = s.restart := by simp [State.notify]
@[simp] theorem State.notify_pending (s : State) (n : Notice) :
    (s.notify n).pending = s.pending := by simp [State.notify]
@[simp] theorem State.notify_out (s : State) (n : Notice) :
    (s.notify n).out = s.out := by simp [State.notify]
@[simp] theorem State.notifyRunState_runState (s : State) :
    (s.notifyRunState).runState = s.runState := by simp [State.notifyRunState]
@[simp] theorem State.notifyRunState_causes (s : State) :
    (s.notifyRunState).causes = s.causes := by simp [State.notifyRunState]
@[simp] theorem State.notifyRunState_drain (s : State) :
    (s.notifyRunState).drain = s.drain := by simp [State.notifyRunState]
@[simp] theorem State.notifyRunState_params (s : State) :
    (s.notifyRunState).params = s.params := by simp [State.notifyRunState]
@[simp] theorem State.notifyRunState_runPlies (s : State) :
    (s.notifyRunState).runPlies = s.runPlies := by simp [State.notifyRunState]
@[simp] theorem State.notifyRunState_segments (s : State) :
    (s.notifyRunState).segments = s.segments := by simp [State.notifyRunState]
@[simp] theorem State.notifyRunState_marriageSlot (s : State) :
    (s.notifyRunState).marriageSlot = s.marriageSlot := by simp [State.notifyRunState]
@[simp] theorem State.notifyRunState_slots (s : State) :
    (s.notifyRunState).slots = s.slots := by simp [State.notifyRunState]
@[simp] theorem State.notifyRunState_blocks (s : State) :
    (s.notifyRunState).blocks = s.blocks := by simp [State.notifyRunState]
@[simp] theorem State.notifyRunState_layouts (s : State) :
    (s.notifyRunState).layouts = s.layouts := by simp [State.notifyRunState]
@[simp] theorem State.notifyRunState_cursor (s : State) :
    (s.notifyRunState).cursor = s.cursor := by simp [State.notifyRunState]
@[simp] theorem State.notifyRunState_batch (s : State) :
    (s.notifyRunState).batch = s.batch := by simp [State.notifyRunState]
@[simp] theorem State.notifyRunState_render (s : State) :
    (s.notifyRunState).render = s.render := by simp [State.notifyRunState]
@[simp] theorem State.notifyRunState_lastGranted (s : State) :
    (s.notifyRunState).lastGranted = s.lastGranted := by simp [State.notifyRunState]
@[simp] theorem State.notifyRunState_plies (s : State) :
    (s.notifyRunState).plies = s.plies := by simp [State.notifyRunState]
@[simp] theorem State.notifyRunState_marker (s : State) :
    (s.notifyRunState).marker = s.marker := by simp [State.notifyRunState]
@[simp] theorem State.notifyRunState_tallies (s : State) :
    (s.notifyRunState).tallies = s.tallies := by simp [State.notifyRunState]
@[simp] theorem State.notifyRunState_lastMarriage (s : State) :
    (s.notifyRunState).lastMarriage = s.lastMarriage := by simp [State.notifyRunState]
@[simp] theorem State.notifyRunState_policy (s : State) :
    (s.notifyRunState).policy = s.policy := by simp [State.notifyRunState]
@[simp] theorem State.notifyRunState_endMakeups (s : State) :
    (s.notifyRunState).endMakeups = s.endMakeups := by simp [State.notifyRunState]
@[simp] theorem State.notifyRunState_makeups (s : State) :
    (s.notifyRunState).makeups = s.makeups := by simp [State.notifyRunState]
@[simp] theorem State.notifyRunState_links (s : State) :
    (s.notifyRunState).links = s.links := by simp [State.notifyRunState]
@[simp] theorem State.notifyRunState_owner (s : State) :
    (s.notifyRunState).owner = s.owner := by simp [State.notifyRunState]
@[simp] theorem State.notifyRunState_restart (s : State) :
    (s.notifyRunState).restart = s.restart := by simp [State.notifyRunState]
@[simp] theorem State.notifyRunState_pending (s : State) :
    (s.notifyRunState).pending = s.pending := by simp [State.notifyRunState]
@[simp] theorem State.notifyRunState_out (s : State) :
    (s.notifyRunState).out = s.out := by simp [State.notifyRunState]

/-! ## `giveCause` -/

@[simp] theorem State.giveCause_drain (s : State) (c : HoldCause) :
    (s.giveCause c).drain = s.drain := by
  unfold State.giveCause; split <;> (try split) <;> simp
@[simp] theorem State.giveCause_params (s : State) (c : HoldCause) :
    (s.giveCause c).params = s.params := by
  unfold State.giveCause; split <;> (try split) <;> simp
@[simp] theorem State.giveCause_runPlies (s : State) (c : HoldCause) :
    (s.giveCause c).runPlies = s.runPlies := by
  unfold State.giveCause; split <;> (try split) <;> simp
@[simp] theorem State.giveCause_segments (s : State) (c : HoldCause) :
    (s.giveCause c).segments = s.segments := by
  unfold State.giveCause; split <;> (try split) <;> simp
@[simp] theorem State.giveCause_marriageSlot (s : State) (c : HoldCause) :
    (s.giveCause c).marriageSlot = s.marriageSlot := by
  unfold State.giveCause; split <;> (try split) <;> simp
@[simp] theorem State.giveCause_slots (s : State) (c : HoldCause) :
    (s.giveCause c).slots = s.slots := by
  unfold State.giveCause; split <;> (try split) <;> simp
@[simp] theorem State.giveCause_blocks (s : State) (c : HoldCause) :
    (s.giveCause c).blocks = s.blocks := by
  unfold State.giveCause; split <;> (try split) <;> simp
@[simp] theorem State.giveCause_layouts (s : State) (c : HoldCause) :
    (s.giveCause c).layouts = s.layouts := by
  unfold State.giveCause; split <;> (try split) <;> simp
@[simp] theorem State.giveCause_cursor (s : State) (c : HoldCause) :
    (s.giveCause c).cursor = s.cursor := by
  unfold State.giveCause; split <;> (try split) <;> simp
@[simp] theorem State.giveCause_batch (s : State) (c : HoldCause) :
    (s.giveCause c).batch = s.batch := by
  unfold State.giveCause; split <;> (try split) <;> simp
@[simp] theorem State.giveCause_render (s : State) (c : HoldCause) :
    (s.giveCause c).render = s.render := by
  unfold State.giveCause; split <;> (try split) <;> simp
@[simp] theorem State.giveCause_lastGranted (s : State) (c : HoldCause) :
    (s.giveCause c).lastGranted = s.lastGranted := by
  unfold State.giveCause; split <;> (try split) <;> simp
@[simp] theorem State.giveCause_plies (s : State) (c : HoldCause) :
    (s.giveCause c).plies = s.plies := by
  unfold State.giveCause; split <;> (try split) <;> simp
@[simp] theorem State.giveCause_marker (s : State) (c : HoldCause) :
    (s.giveCause c).marker = s.marker := by
  unfold State.giveCause; split <;> (try split) <;> simp
@[simp] theorem State.giveCause_tallies (s : State) (c : HoldCause) :
    (s.giveCause c).tallies = s.tallies := by
  unfold State.giveCause; split <;> (try split) <;> simp
@[simp] theorem State.giveCause_lastMarriage (s : State) (c : HoldCause) :
    (s.giveCause c).lastMarriage = s.lastMarriage := by
  unfold State.giveCause; split <;> (try split) <;> simp
@[simp] theorem State.giveCause_policy (s : State) (c : HoldCause) :
    (s.giveCause c).policy = s.policy := by
  unfold State.giveCause; split <;> (try split) <;> simp
@[simp] theorem State.giveCause_endMakeups (s : State) (c : HoldCause) :
    (s.giveCause c).endMakeups = s.endMakeups := by
  unfold State.giveCause; split <;> (try split) <;> simp
@[simp] theorem State.giveCause_makeups (s : State) (c : HoldCause) :
    (s.giveCause c).makeups = s.makeups := by
  unfold State.giveCause; split <;> (try split) <;> simp
@[simp] theorem State.giveCause_links (s : State) (c : HoldCause) :
    (s.giveCause c).links = s.links := by
  unfold State.giveCause; split <;> (try split) <;> simp
@[simp] theorem State.giveCause_owner (s : State) (c : HoldCause) :
    (s.giveCause c).owner = s.owner := by
  unfold State.giveCause; split <;> (try split) <;> simp
@[simp] theorem State.giveCause_restart (s : State) (c : HoldCause) :
    (s.giveCause c).restart = s.restart := by
  unfold State.giveCause; split <;> (try split) <;> simp
@[simp] theorem State.giveCause_pending (s : State) (c : HoldCause) :
    (s.giveCause c).pending = s.pending := by
  unfold State.giveCause; split <;> (try split) <;> simp
@[simp] theorem State.giveCause_out (s : State) (c : HoldCause) :
    (s.giveCause c).out = s.out := by
  unfold State.giveCause; split <;> (try split) <;> simp

/-! ## `raiseFault` -/

@[simp] theorem State.raiseFault_drain (s : State) (p : Ply) (r : FaultReport) :
    (s.raiseFault p r).drain = s.drain := by
  unfold State.raiseFault; dsimp only; split <;> simp
@[simp] theorem State.raiseFault_params (s : State) (p : Ply) (r : FaultReport) :
    (s.raiseFault p r).params = s.params := by
  unfold State.raiseFault; dsimp only; split <;> simp
@[simp] theorem State.raiseFault_runPlies (s : State) (p : Ply) (r : FaultReport) :
    (s.raiseFault p r).runPlies = s.runPlies := by
  unfold State.raiseFault; dsimp only; split <;> simp
@[simp] theorem State.raiseFault_segments (s : State) (p : Ply) (r : FaultReport) :
    (s.raiseFault p r).segments = s.segments := by
  unfold State.raiseFault; dsimp only; split <;> simp
@[simp] theorem State.raiseFault_marriageSlot (s : State) (p : Ply) (r : FaultReport) :
    (s.raiseFault p r).marriageSlot = s.marriageSlot := by
  unfold State.raiseFault; dsimp only; split <;> simp
@[simp] theorem State.raiseFault_slots (s : State) (p : Ply) (r : FaultReport) :
    (s.raiseFault p r).slots = s.slots := by
  unfold State.raiseFault; dsimp only; split <;> simp
@[simp] theorem State.raiseFault_blocks (s : State) (p : Ply) (r : FaultReport) :
    (s.raiseFault p r).blocks = s.blocks := by
  unfold State.raiseFault; dsimp only; split <;> simp
@[simp] theorem State.raiseFault_layouts (s : State) (p : Ply) (r : FaultReport) :
    (s.raiseFault p r).layouts = s.layouts := by
  unfold State.raiseFault; dsimp only; split <;> simp
@[simp] theorem State.raiseFault_cursor (s : State) (p : Ply) (r : FaultReport) :
    (s.raiseFault p r).cursor = s.cursor := by
  unfold State.raiseFault; dsimp only; split <;> simp
@[simp] theorem State.raiseFault_batch (s : State) (p : Ply) (r : FaultReport) :
    (s.raiseFault p r).batch = s.batch := by
  unfold State.raiseFault; dsimp only; split <;> simp
@[simp] theorem State.raiseFault_render (s : State) (p : Ply) (r : FaultReport) :
    (s.raiseFault p r).render = s.render := by
  unfold State.raiseFault; dsimp only; split <;> simp
@[simp] theorem State.raiseFault_lastGranted (s : State) (p : Ply) (r : FaultReport) :
    (s.raiseFault p r).lastGranted = s.lastGranted := by
  unfold State.raiseFault; dsimp only; split <;> simp
@[simp] theorem State.raiseFault_marker (s : State) (p : Ply) (r : FaultReport) :
    (s.raiseFault p r).marker = s.marker := by
  unfold State.raiseFault; dsimp only; split <;> simp
@[simp] theorem State.raiseFault_tallies (s : State) (p : Ply) (r : FaultReport) :
    (s.raiseFault p r).tallies = s.tallies := by
  unfold State.raiseFault; dsimp only; split <;> simp
@[simp] theorem State.raiseFault_lastMarriage (s : State) (p : Ply) (r : FaultReport) :
    (s.raiseFault p r).lastMarriage = s.lastMarriage := by
  unfold State.raiseFault; dsimp only; split <;> simp
@[simp] theorem State.raiseFault_policy (s : State) (p : Ply) (r : FaultReport) :
    (s.raiseFault p r).policy = s.policy := by
  unfold State.raiseFault; dsimp only; split <;> simp
@[simp] theorem State.raiseFault_endMakeups (s : State) (p : Ply) (r : FaultReport) :
    (s.raiseFault p r).endMakeups = s.endMakeups := by
  unfold State.raiseFault; dsimp only; split <;> simp
@[simp] theorem State.raiseFault_makeups (s : State) (p : Ply) (r : FaultReport) :
    (s.raiseFault p r).makeups = s.makeups := by
  unfold State.raiseFault; dsimp only; split <;> simp
@[simp] theorem State.raiseFault_links (s : State) (p : Ply) (r : FaultReport) :
    (s.raiseFault p r).links = s.links := by
  unfold State.raiseFault; dsimp only; split <;> simp
@[simp] theorem State.raiseFault_owner (s : State) (p : Ply) (r : FaultReport) :
    (s.raiseFault p r).owner = s.owner := by
  unfold State.raiseFault; dsimp only; split <;> simp
@[simp] theorem State.raiseFault_restart (s : State) (p : Ply) (r : FaultReport) :
    (s.raiseFault p r).restart = s.restart := by
  unfold State.raiseFault; dsimp only; split <;> simp
@[simp] theorem State.raiseFault_pending (s : State) (p : Ply) (r : FaultReport) :
    (s.raiseFault p r).pending = s.pending := by
  unfold State.raiseFault; dsimp only; split <;> simp
@[simp] theorem State.raiseFault_out (s : State) (p : Ply) (r : FaultReport) :
    (s.raiseFault p r).out = s.out := by
  unfold State.raiseFault; dsimp only; split <;> simp

end Sys2Proof.Machine
end

