-- ==== Sys2Proof/Laws/Links.lean ====
section
/-! SUPPORT. Frames and the request catalogue: what a receiver reads of a frame's bytes, and that
Table 9-2 gives each request one KIND. -/

namespace Sys2Proof.Machine

/-- The KIND of a request is read back as that request. -/
@[simp] theorem requestOfCode_requestCode (r : Request) : requestOfCode (requestCode r) = some r := by
  cases r <;> decide

/-- The KINDs of the requests are those that `requestCodes` lists. -/
theorem requestCode_mem_requestCodes (r : Request) : requestCode r ∈ requestCodes := by
  cases r <;> decide

/-- A KIND that Table 9-2 does not list is no request. -/
theorem requestOfCode_none_of_not_mem {k : Byte} (h : k ∉ requestCodes) : requestOfCode k = none := by
  unfold requestOfCode
  rw [List.find?_eq_none]
  intro r _ hr
  exact h ((of_decide_eq_true hr) ▸ requestCode_mem_requestCodes r)

theorem frameBody_length (kind tag : Byte) (pl : List Byte) :
    (frameBody kind tag pl).length = pl.length + 3 := rfl

/-- The number of payload bytes fits in the LEN byte of a frame that can be sent. -/
theorem toNat_len {pl : List Byte} (h : pl.length ≤ Config.maxPayload) :
    (BitVec.ofNat 8 pl.length).toNat = pl.length := by
  have : pl.length < 256 := by unfold Config.maxPayload at h; omega
  simpa using this

/-- A frame is LEN + 6 bytes long (R164). -/
theorem frame_length (kind tag : Byte) (pl : List Byte) :
    (frame kind tag pl).length = pl.length + 6 := by
  simp [frame, frameBody, crcBytes]

/-- What follows the SYNC of a frame is read back as its KIND, TAG and payload, with a good CRC. -/
theorem rxStatus_frame (kind tag : Byte) {pl : List Byte} (h : pl.length ≤ Config.maxPayload) :
    rxStatus (frame kind tag pl).tail = .good kind tag pl := by
  have hl := toNat_len h
  have hn : ¬ Config.maxPayload < pl.length := by omega
  simp only [frame, frameBody, crcBytes, List.tail_cons, List.cons_append, rxStatus, hl, if_neg hn]
  rw [if_neg (by simp)]
  have htake : (kind :: tag :: (pl ++ [(crc (BitVec.ofNat 8 pl.length :: kind :: tag :: pl) >>> 8).setWidth 8,
      (crc (BitVec.ofNat 8 pl.length :: kind :: tag :: pl)).setWidth 8])).take (pl.length + 2)
      = kind :: tag :: pl := by simp
  have hdrop : (kind :: tag :: (pl ++ [(crc (BitVec.ofNat 8 pl.length :: kind :: tag :: pl) >>> 8).setWidth 8,
      (crc (BitVec.ofNat 8 pl.length :: kind :: tag :: pl)).setWidth 8])).drop (pl.length + 2)
      = [(crc (BitVec.ofNat 8 pl.length :: kind :: tag :: pl) >>> 8).setWidth 8,
        (crc (BitVec.ofNat 8 pl.length :: kind :: tag :: pl)).setWidth 8] := by simp
  rw [htake, hdrop, if_pos rfl]
  simp

end Sys2Proof.Machine
end

