-- ==== Sys2Proof/Laws/Ops.lean ====
section
/-! SUPPORT. One lemma for each shared operation of Machine/Ops.lean, Schedule.lean and Recovery.lean:
once, everything it can do. -/

namespace Sys2Proof.Machine

/-! ## Notices (R173) -/

/-- A notice joins the queue, or is lost with the withheld flag set, and nothing else changes. -/
theorem State.queueNotice_cases (s : State) (n : Notice) (d : Destination) :
    (s.notices.length < Config.noticeCapacity ∧
      s.queueNotice n d = { s with notices := s.notices ++ [⟨n, d⟩] }) ∨
    (Config.noticeCapacity ≤ s.notices.length ∧ s.queueNotice n d = { s with withheld := true }) := by
  unfold State.queueNotice
  split
  · exact .inl ⟨‹_›, rfl⟩
  · exact .inr ⟨by omega, rfl⟩

/-- The notice queue never passes 48. -/
theorem State.queueNotice_bounded {s : State} (h : s.notices.length ≤ Config.noticeCapacity)
    (n : Notice) (d : Destination) :
    (s.queueNotice n d).notices.length ≤ Config.noticeCapacity := by
  obtain ⟨hl, he⟩ | ⟨-, he⟩ := s.queueNotice_cases n d <;> rw [he] <;> simp <;> omega

/-- Only the notice queue and the withheld flag change. -/
theorem State.notify_only (s : State) (n : Notice) :
    s.notify n = { s with notices := (s.notify n).notices, withheld := (s.notify n).withheld } := by
  unfold State.notify
  obtain ⟨-, he⟩ | ⟨-, he⟩ := s.queueNotice_cases n .owner <;> rw [he]

theorem State.notify_bounded {s : State} (h : s.notices.length ≤ Config.noticeCapacity)
    (n : Notice) : (s.notify n).notices.length ≤ Config.noticeCapacity :=
  State.queueNotice_bounded h n .owner

@[simp] theorem State.ply_notify (s : State) (n : Notice) (p : Ply) : (s.notify n).ply p = s.ply p := by
  simp [State.ply]

@[simp] theorem State.ply_notifyRunState (s : State) (p : Ply) :
    s.notifyRunState.ply p = s.ply p := by simp [State.ply]

/-! ## Hold causes (R151) -/

/-- What a cause given does, by the run state. -/
theorem State.giveCause_cases (s : State) (c : HoldCause) :
    (s.runState = .running ∧
      s.giveCause c = { s with causes := s.causes.join c, runState := .held }.notifyRunState) ∨
    (s.runState = .held ∧ s.causes.has c = false ∧
      s.giveCause c = { s with causes := s.causes.join c }.notifyRunState) ∨
    ((s.runState = .held ∧ s.causes.has c = true ∨ s.runState = .draining ∨ s.runState = .idle) ∧
      s.giveCause c = s) := by
  unfold State.giveCause
  split
  · exact .inl ⟨‹_›, rfl⟩
  · rename_i h
    cases hc : s.causes.has c
    · exact .inr (.inl ⟨h, rfl, by simp⟩)
    · exact .inr (.inr ⟨.inl ⟨h, rfl⟩, by simp⟩)
  · exact .inr (.inr ⟨.inr (.inl ‹_›), rfl⟩)
  · exact .inr (.inr ⟨.inr (.inr ‹_›), rfl⟩)

/-- A cause joined is in the set. -/
@[simp] theorem HoldCauses.join_ne_empty (k : HoldCauses) (c : HoldCause) :
    k.join c ≠ HoldCauses.empty := by
  cases c <;> simp [HoldCauses.join, HoldCauses.empty]

theorem State.giveCause_bounded {s : State} (h : s.notices.length ≤ Config.noticeCapacity)
    (c : HoldCause) : (s.giveCause c).notices.length ≤ Config.noticeCapacity := by
  obtain ⟨-, he⟩ | ⟨-, -, he⟩ | ⟨-, he⟩ := s.giveCause_cases c <;> rw [he]
  · exact State.notify_bounded (s := { s with causes := s.causes.join c, runState := .held }) h _
  · exact State.notify_bounded (s := { s with causes := s.causes.join c }) h _
  · exact h

@[simp] theorem State.ply_giveCause (s : State) (c : HoldCause) (p : Ply) :
    (s.giveCause c).ply p = s.ply p := by simp [State.ply]

/-- A cause given does not end a run or begin one. -/
@[simp] theorem State.inRun_giveCause (s : State) (c : HoldCause) :
    (s.giveCause c).inRun = s.inRun := by
  obtain ⟨hr, he⟩ | ⟨hr, -, he⟩ | ⟨-, he⟩ := s.giveCause_cases c <;> rw [he] <;>
    simp [State.inRun, hr]

/-! ## Faults (R158, R159) -/

/-- What a fault leaves of its own ply: the capture, and the inhibit where its kind is in the inhibit
set; the record, unit, checker and run values stand. -/
theorem State.ply_raiseFault_self (s : State) (p : Ply) (r : FaultReport) :
    (s.raiseFault p r).ply p =
      { s.ply p with
        capture := some (recordCapture (s.ply p).capture r)
        head := { (s.ply p).head with
          inhibit := (s.ply p).head.inhibit || (s.ply p).record.inhibitSet.has r.kind } } := by
  unfold State.raiseFault
  dsimp only
  split <;> simp

/-- A fault of one ply leaves the others alone. -/
theorem State.ply_raiseFault_ne (s : State) {p q : Ply} (r : FaultReport) (h : q ≠ p) :
    (s.raiseFault p r).ply q = s.ply q := by
  unfold State.raiseFault
  dsimp only
  split <;> simp [h]

@[simp] theorem State.unit_raiseFault (s : State) (p q : Ply) (r : FaultReport) :
    ((s.raiseFault p r).ply q).unit = (s.ply q).unit := by
  by_cases h : q = p
  · subst h; rw [State.ply_raiseFault_self]
  · rw [State.ply_raiseFault_ne _ _ h]

@[simp] theorem State.record_raiseFault (s : State) (p q : Ply) (r : FaultReport) :
    ((s.raiseFault p r).ply q).record = (s.ply q).record := by
  by_cases h : q = p
  · subst h; rw [State.ply_raiseFault_self]
  · rw [State.ply_raiseFault_ne _ _ h]

@[simp] theorem State.inRun_raiseFault (s : State) (p : Ply) (r : FaultReport) :
    (s.raiseFault p r).inRun = s.inRun := by
  unfold State.raiseFault
  dsimp only
  split <;> simp [State.inRun]
  simpa [State.inRun] using State.inRun_giveCause
    ((s.modPly p fun ps => { ps with
      capture := some (recordCapture ps.capture r)
      head := { ps.head with inhibit := ps.head.inhibit || (s.ply p).record.inhibitSet.has r.kind } }).notify
      (.plyFault p r (decide ((s.ply p).capture = none)) ((s.ply p).record.inhibitSet.has r.kind))) .fault

/-! ## Slots (R1, R2) -/

/-- The slot held at an index is the one at its place in the window. -/
theorem State.slotAt_eq_some {s : State} {j : Nat} {slot : Slot} :
    s.slotAt j = some slot ↔ s.marriageSlot ≤ j ∧ s.slots[j - s.marriageSlot]? = some slot := by
  unfold State.slotAt State.lookup
  by_cases h : j < s.marriageSlot
  · simp [h]
  · have hm : s.marriageSlot ≤ j := by omega
    cases s.slots[j - s.marriageSlot]? <;> simp [h, hm]

/-- R2: a change to a slot that is not held changes no slot. -/
theorem State.modSlot_of_not_held {s : State} {j : Nat} (h : s.slotAt j = none) (f : Slot → Slot) :
    s.modSlot j f = s := by
  unfold State.modSlot
  by_cases hj : j < s.marriageSlot
  · simp [hj]
  · have hn : s.slots[j - s.marriageSlot]? = none := by
      cases hs : s.slots[j - s.marriageSlot]? with
      | none => rfl
      | some slot => exact absurd (State.slotAt_eq_some.2 ⟨by omega, hs⟩) (by simp [h])
    have : s.slots.modify (j - s.marriageSlot) f = s.slots := by
      apply List.ext_getElem?
      intro i
      rw [List.getElem?_modify]
      by_cases hi : j - s.marriageSlot = i
      · subst hi; simp [hn]
      · simp [hi]
    simp [hj, this]

/-- A change to a held slot. -/
theorem State.slotAt_modSlot_self {s : State} {j : Nat} {slot : Slot} (h : s.slotAt j = some slot)
    (f : Slot → Slot) : (s.modSlot j f).slotAt j = some (f slot) := by
  obtain ⟨hm, hs⟩ := State.slotAt_eq_some.1 h
  refine State.slotAt_eq_some.2 ⟨by simpa using hm, ?_⟩
  simp [State.modSlot, Nat.not_lt.2 hm, hs]

/-- A change to one slot leaves the others alone. -/
theorem State.slotAt_modSlot_ne (s : State) {j k : Nat} (h : k ≠ j) (f : Slot → Slot) :
    (s.modSlot j f).slotAt k = s.slotAt k := by
  unfold State.slotAt State.lookup State.modSlot
  by_cases hj : j < s.marriageSlot
  · simp [hj]
  · by_cases hk : k < s.marriageSlot
    · simp [hj, hk]
    · have hne : ¬ j - s.marriageSlot = k - s.marriageSlot := by omega
      simp only [hj, hk, if_false, List.getElem?_modify, hne, id_map']

@[simp] theorem State.slots_modSlot_length (s : State) (j : Nat) (f : Slot → Slot) :
    (s.modSlot j f).slots.length = s.slots.length := by
  unfold State.modSlot
  split <;> simp

/-! ## Creation (R16) -/

/-- A creation adds fresh slots at the top up to the index where there is room, and otherwise does
nothing. -/
theorem State.create_cases (s : State) (j : Nat) :
    (s.hasRoom j = true ∧ s.create j =
      { s with slots := s.slots ++ List.replicate (j + 1 - s.windowEnd) s.freshSlot }) ∨
    (s.hasRoom j = false ∧ s.create j = s) := by
  unfold State.create
  cases h : s.hasRoom j <;> simp

/-- A creation keeps the window within 128 slots and its top within the index range. -/
theorem State.create_bounded {s : State} (h : s.slots.length ≤ Config.windowCapacity)
    (ht : s.windowEnd ≤ Config.maxSetIndex + 1) (j : Nat) :
    (s.create j).slots.length ≤ Config.windowCapacity ∧
    (s.create j).windowEnd ≤ Config.maxSetIndex + 1 := by
  obtain ⟨hr, he⟩ | ⟨-, he⟩ := s.create_cases j
  · simp only [State.hasRoom, Bool.and_eq_true, decide_eq_true_eq] at hr
    rw [he]
    simp only [State.windowEnd, List.length_append, List.length_replicate] at *
    omega
  · rw [he]; exact ⟨h, ht⟩

/-! ## The make-up list (R135) -/

theorem mem_insertEntry {e x : MakeupEntry} {l : List MakeupEntry} :
    x ∈ insertEntry e l ↔ x = e ∨ x ∈ l := by
  induction l with
  | nil => simp [insertEntry]
  | cons y ys ih =>
    unfold insertEntry
    split
    · simp
    · simp only [List.mem_cons, ih]; tauto

@[simp] theorem insertEntry_length (e : MakeupEntry) (l : List MakeupEntry) :
    (insertEntry e l).length = l.length + 1 := by
  induction l with
  | nil => rfl
  | cons y ys ih => unfold insertEntry; split <;> simp [ih]

/-- An entry with a value that is not listed is placed in ascending order. -/
theorem insertEntry_ordered {e : MakeupEntry} {l : List MakeupEntry}
    (h : (l.map (·.value)).Pairwise (· < ·)) (hn : ∀ x ∈ l, x.value ≠ e.value) :
    ((insertEntry e l).map (·.value)).Pairwise (· < ·) := by
  induction l with
  | nil => simp [insertEntry]
  | cons y ys ih =>
    simp only [List.map_cons, List.pairwise_cons, List.mem_map, forall_exists_index, and_imp,
      forall_apply_eq_imp_iff₂] at h
    unfold insertEntry
    split
    · rename_i hlt
      simp only [List.map_cons, List.pairwise_cons, List.mem_cons, List.mem_map]
      refine ⟨?_, ?_, h.2⟩
      · rintro a (rfl | ⟨z, hz, rfl⟩)
        · exact hlt
        · exact lt_trans hlt (h.1 z hz)
      · rintro a ⟨z, hz, rfl⟩
        exact h.1 z hz
    · rename_i hge
      simp only [List.map_cons, List.pairwise_cons, List.mem_map, forall_exists_index, and_imp,
        forall_apply_eq_imp_iff₂]
      refine ⟨fun z hz => ?_, ih h.2 fun x hx => hn x (List.mem_cons_of_mem _ hx)⟩
      rcases mem_insertEntry.1 hz with rfl | hz
      · exact lt_of_le_of_ne (by omega) (hn y (by simp))
      · exact h.1 z hz

/-- How a join turns out. -/
theorem State.joinMakeup_cases (s : State) (e : MakeupEntry) :
    (s.listed e.value = true ∧ s.joinMakeup e = (.duplicate, s)) ∨
    (s.listed e.value = false ∧ Config.makeupCapacity ≤ s.makeups.length ∧
      s.joinMakeup e = (.full, s)) ∨
    (s.listed e.value = false ∧ s.makeups.length < Config.makeupCapacity ∧
      s.joinMakeup e =
        (.joined, ({ s with makeups := insertEntry e s.makeups }.afterJoin).batchAtJoin)) := by
  unfold State.joinMakeup
  by_cases h : s.listed e.value = true
  · simp [h]
  · by_cases hc : Config.makeupCapacity ≤ s.makeups.length
    · simp [h, hc]
    · simp [h, hc]; omega

@[simp] theorem State.afterJoin_makeups (s : State) : s.afterJoin.makeups = s.makeups := by
  unfold State.afterJoin
  dsimp only
  split <;> split <;> simp

@[simp] theorem State.batchAtJoin_makeups (s : State) : s.batchAtJoin.makeups = s.makeups := by
  unfold State.batchAtJoin
  split <;> rfl

/-- R135: a join keeps the list within 256 entries and in ascending order. -/
theorem State.joinMakeup_ordered {s : State} (h : s.MakeupsOrdered) (e : MakeupEntry) :
    (s.joinMakeup e).2.MakeupsOrdered := by
  obtain ⟨-, he⟩ | ⟨-, -, he⟩ | ⟨hl, hc, he⟩ := s.joinMakeup_cases e <;> rw [he]
  · exact h
  · exact h
  · refine ⟨by simp; omega, ?_⟩
    simp only [State.batchAtJoin_makeups, State.afterJoin_makeups]
    refine insertEntry_ordered h.2 fun x hx hv => ?_
    have : s.listed e.value = true :=
      List.any_eq_true.2 ⟨x, hx, decide_eq_true hv⟩
    rw [hl] at this
    exact Bool.false_ne_true this

/-! ## Spoils (R124) -/

/-- What a spoil does, by the slot as the Schedule answers for it. -/
theorem State.takeSpoil_cases (s : State) (j : Nat) (mark : SpoilMark) :
    ((s.slotAt j = none ∨ ∃ slot, s.slotAt j = some slot ∧
        (slot.disp = .opened ∨ slot.disp = .skip)) ∧ s.takeSpoil j mark = s) ∨
    (∃ slot, s.slotAt j = some slot ∧
      ((∃ b r, slot.disp = .void b r) ∨ ∃ b m, slot.disp = .bound b (some m)) ∧
      s.takeSpoil j mark = s.secondReason j mark) ∨
    (∃ slot b, s.slotAt j = some slot ∧ slot.disp = .bound b none ∧
      ((b.makeup = false ∧ s.policy = some .rollback ∧
          s.takeSpoil j mark = s.rollbackSpoil j mark b) ∨
       ((b.makeup = true ∨ s.policy ≠ some .rollback) ∧
          s.takeSpoil j mark = s.deferSpoil j mark b))) := by
  unfold State.takeSpoil
  cases hs : s.slotAt j with
  | none => exact .inl ⟨.inl rfl, rfl⟩
  | some slot =>
    obtain ⟨disp, stamp, subs⟩ := slot
    cases disp with
    | opened => exact .inl ⟨.inr ⟨_, rfl, .inl rfl⟩, rfl⟩
    | skip => exact .inl ⟨.inr ⟨_, rfl, .inr rfl⟩, rfl⟩
    | void b r => exact .inr (.inl ⟨_, rfl, .inl ⟨b, r, rfl⟩, rfl⟩)
    | bound b m =>
      cases m with
      | some m => exact .inr (.inl ⟨_, rfl, .inr ⟨b, m, rfl⟩, rfl⟩)
      | none =>
        refine .inr (.inr ⟨_, b, rfl, rfl, ?_⟩)
        by_cases hm : b.makeup = true
        · exact .inr ⟨.inl hm, by simp [hm]⟩
        · by_cases hp : s.policy = some .rollback
          · exact .inl ⟨by simpa using hm, hp, by simp [hm, hp]⟩
          · exact .inr ⟨.inr hp, by simp [hp]⟩

end Sys2Proof.Machine
end

