-- ==== Sys2Proof/Laws/PerInstr.lean ====
section
/-! SUPPORT. One lemma per command for the family FrameForm: a well-formed command that is a frame on a
link is read back by the receiver from the bytes the wire carries, and a request's frame names that
request. -/

namespace Sys2Proof.Laws.FrameForm

open Sys2Proof.Machine

/-- The frame a command stands for, where it stands for one: its KIND, TAG and payload. -/
def frameOf : Instr → Option (Byte × Byte × List Byte)
  | .powerOn _ _ => none
  | .forwardCount _ => none
  | .reverseCount _ => none
  | .guardExpiry _ => none
  | .markPulse _ => none
  | .spliceEvent _ => none
  | .setCutoff => none
  | .readerRecord _ _ => none
  | .stageNextSlot _ => none
  | .renderGrant => none
  | .renderCompletion => none
  | .loadStart _ => none
  | .accept _ _ => none
  | .reject _ _ _ => none
  | .loadTimerExpiry _ => none
  | .frameLengthDiscard _ _ => none
  | .frameGapExpiry _ => none
  | .frameCrcDiscard _ _ => none
  | .badKind _ kind tag payload => some (kind, tag, payload)
  | .replyTransmit _ => none
  | .noticeTransmit _ => none
  | .identify _ tag payload => some (requestCode .identify, tag, payload)
  | .readStatus _ tag payload => some (requestCode .readStatus, tag, payload)
  | .readPly _ tag payload => some (requestCode .readPly, tag, payload)
  | .readSlots _ tag payload => some (requestCode .readSlots, tag, payload)
  | .readTally _ tag payload => some (requestCode .readTally, tag, payload)
  | .readCursor _ tag payload => some (requestCode .readCursor, tag, payload)
  | .readMakeups _ tag payload => some (requestCode .readMakeups, tag, payload)
  | .readBlock _ tag payload => some (requestCode .readBlock, tag, payload)
  | .readLayout _ tag payload => some (requestCode .readLayout, tag, payload)
  | .readSegment _ tag payload => some (requestCode .readSegment, tag, payload)
  | .readLink _ tag payload => some (requestCode .readLink, tag, payload)
  | .takeControl _ tag payload => some (requestCode .takeControl, tag, payload)
  | .releaseControl _ tag payload => some (requestCode .releaseControl, tag, payload)
  | .setPly _ tag payload => some (requestCode .setPly, tag, payload)
  | .setLayout _ tag payload => some (requestCode .setLayout, tag, payload)
  | .setBlock _ tag payload => some (requestCode .setBlock, tag, payload)
  | .setSegment _ tag payload => some (requestCode .setSegment, tag, payload)
  | .setTrim _ tag payload => some (requestCode .setTrim, tag, payload)
  | .clearMakeups _ tag payload => some (requestCode .clearMakeups, tag, payload)
  | .startRun _ tag payload => some (requestCode .startRun, tag, payload)
  | .hold _ tag payload => some (requestCode .hold, tag, payload)
  | .release _ tag payload => some (requestCode .release, tag, payload)
  | .continueRun _ tag payload => some (requestCode .continueRun, tag, payload)
  | .endRun _ tag payload => some (requestCode .endRun, tag, payload)
  | .abortRun _ tag payload => some (requestCode .abortRun, tag, payload)
  | .runMakeups _ tag payload => some (requestCode .runMakeups, tag, payload)
  | .clearFault _ tag payload => some (requestCode .clearFault, tag, payload)
  | .withdrawSet _ tag payload => some (requestCode .withdrawSet, tag, payload)
  | .restart _ tag payload => some (requestCode .restart, tag, payload)
  | .restartPerformed _ _ => none
  | .frameByteReceived _ _ => none
  | .lastByteSent _ => none

/-- What a receiver makes of the frame a command stands for (R164, R165). -/
def ReadsBack (i : Instr) : Prop :=
  ∀ kind tag payload, frameOf i = some (kind, tag, payload) → i.wellFormed = true →
    rxStatus (frame kind tag payload).tail = .good kind tag payload

/-- The family: a command's frame reads back, and the KIND of a BAD_KIND frame is no request. -/
def Statement (i : Instr) : Prop :=
  ReadsBack i ∧ ∀ l kind tag payload, i = .badKind l kind tag payload → i.wellFormed = true →
    requestOfCode kind = none

/-- A command that stands for no frame. -/
theorem of_no_frame {i : Instr} (h : frameOf i = none)
    (hb : ∀ l kind tag payload, i ≠ .badKind l kind tag payload) : Statement i :=
  ⟨fun _ _ _ hf => by rw [h] at hf; exact absurd hf (by simp),
    fun l kind tag payload hi => absurd hi (hb l kind tag payload)⟩

/-- A command that stands for a request's frame. -/
theorem of_request {i : Instr} {r : Request} {tag : Byte} {payload : List Byte}
    (h : frameOf i = some (requestCode r, tag, payload)) (hw : i.wellFormed = payloadFits payload)
    (hb : ∀ l kind tag payload, i ≠ .badKind l kind tag payload) : Statement i := by
  refine ⟨fun kind t pl hf hi => ?_, fun l kind t pl hi => absurd hi (hb l kind t pl)⟩
  rw [h] at hf
  obtain ⟨rfl, rfl, rfl⟩ : requestCode r = kind ∧ tag = t ∧ payload = pl := by simpa using hf
  rw [hw] at hi
  exact rxStatus_frame _ _ (of_decide_eq_true hi)

theorem powerOn (press service : Rate) :
    Statement (.powerOn press service) := of_no_frame rfl (by simp)

theorem forwardCount (e : Edge) : Statement (.forwardCount e) := of_no_frame rfl (by simp)

theorem reverseCount (e : Edge) : Statement (.reverseCount e) := of_no_frame rfl (by simp)

theorem guardExpiry (p : Ply) : Statement (.guardExpiry p) := of_no_frame rfl (by simp)

theorem markPulse (p : Ply) : Statement (.markPulse p) := of_no_frame rfl (by simp)

theorem spliceEvent (p : Ply) : Statement (.spliceEvent p) := of_no_frame rfl (by simp)

theorem setCutoff : Statement .setCutoff := of_no_frame rfl (by simp)

theorem readerRecord (p : Ply) (r : ReaderRecord) :
    Statement (.readerRecord p r) := of_no_frame rfl (by simp)

theorem stageNextSlot (p : Ply) : Statement (.stageNextSlot p) := of_no_frame rfl (by simp)

theorem renderGrant : Statement .renderGrant := of_no_frame rfl (by simp)

theorem renderCompletion : Statement .renderCompletion := of_no_frame rfl (by simp)

theorem loadStart (p : Ply) : Statement (.loadStart p) := of_no_frame rfl (by simp)

theorem accept (p : Ply) (stamp : Byte) : Statement (.accept p stamp) := of_no_frame rfl (by simp)

theorem reject (p : Ply) (stamp cause : Byte) :
    Statement (.reject p stamp cause) := of_no_frame rfl (by simp)

theorem loadTimerExpiry (p : Ply) : Statement (.loadTimerExpiry p) := of_no_frame rfl (by simp)

theorem frameLengthDiscard (l : Link) (len : Byte) :
    Statement (.frameLengthDiscard l len) := of_no_frame rfl (by simp)

theorem frameGapExpiry (l : Link) : Statement (.frameGapExpiry l) := of_no_frame rfl (by simp)

theorem frameCrcDiscard (l : Link) (last : Byte) :
    Statement (.frameCrcDiscard l last) := of_no_frame rfl (by simp)

theorem badKind (l : Link) (kind tag : Byte) (payload : List Byte) :
    Statement (.badKind l kind tag payload) := by
  have hp : ∀ h : (Instr.badKind l kind tag payload).wellFormed = true,
      kind ∉ requestCodes ∧ payload.length ≤ Config.maxPayload := fun h => by
    simpa [Instr.wellFormed, payloadFits] using h
  refine ⟨fun k t pl hf hi => ?_, fun l' k t pl he hi => ?_⟩
  · obtain ⟨rfl, rfl, rfl⟩ : kind = k ∧ tag = t ∧ payload = pl := by simpa [frameOf] using hf
    exact rxStatus_frame _ _ (hp hi).2
  · obtain ⟨-, rfl, -, -⟩ : l = l' ∧ kind = k ∧ tag = t ∧ payload = pl := by simpa using he
    exact requestOfCode_none_of_not_mem (hp hi).1

theorem replyTransmit (l : Link) : Statement (.replyTransmit l) := of_no_frame rfl (by simp)

theorem noticeTransmit (l : Link) : Statement (.noticeTransmit l) := of_no_frame rfl (by simp)

theorem identify (l : Link) (tag : Byte) (payload : List Byte) :
    Statement (.identify l tag payload) := of_request rfl rfl (by simp)

theorem readStatus (l : Link) (tag : Byte) (payload : List Byte) :
    Statement (.readStatus l tag payload) := of_request rfl rfl (by simp)

theorem readPly (l : Link) (tag : Byte) (payload : List Byte) :
    Statement (.readPly l tag payload) := of_request rfl rfl (by simp)

theorem readSlots (l : Link) (tag : Byte) (payload : List Byte) :
    Statement (.readSlots l tag payload) := of_request rfl rfl (by simp)

theorem readTally (l : Link) (tag : Byte) (payload : List Byte) :
    Statement (.readTally l tag payload) := of_request rfl rfl (by simp)

theorem readCursor (l : Link) (tag : Byte) (payload : List Byte) :
    Statement (.readCursor l tag payload) := of_request rfl rfl (by simp)

theorem readMakeups (l : Link) (tag : Byte) (payload : List Byte) :
    Statement (.readMakeups l tag payload) := of_request rfl rfl (by simp)

theorem readBlock (l : Link) (tag : Byte) (payload : List Byte) :
    Statement (.readBlock l tag payload) := of_request rfl rfl (by simp)

theorem readLayout (l : Link) (tag : Byte) (payload : List Byte) :
    Statement (.readLayout l tag payload) := of_request rfl rfl (by simp)

theorem readSegment (l : Link) (tag : Byte) (payload : List Byte) :
    Statement (.readSegment l tag payload) := of_request rfl rfl (by simp)

theorem readLink (l : Link) (tag : Byte) (payload : List Byte) :
    Statement (.readLink l tag payload) := of_request rfl rfl (by simp)

theorem takeControl (l : Link) (tag : Byte) (payload : List Byte) :
    Statement (.takeControl l tag payload) := of_request rfl rfl (by simp)

theorem releaseControl (l : Link) (tag : Byte) (payload : List Byte) :
    Statement (.releaseControl l tag payload) := of_request rfl rfl (by simp)

theorem setPly (l : Link) (tag : Byte) (payload : List Byte) :
    Statement (.setPly l tag payload) := of_request rfl rfl (by simp)

theorem setLayout (l : Link) (tag : Byte) (payload : List Byte) :
    Statement (.setLayout l tag payload) := of_request rfl rfl (by simp)

theorem setBlock (l : Link) (tag : Byte) (payload : List Byte) :
    Statement (.setBlock l tag payload) := of_request rfl rfl (by simp)

theorem setSegment (l : Link) (tag : Byte) (payload : List Byte) :
    Statement (.setSegment l tag payload) := of_request rfl rfl (by simp)

theorem setTrim (l : Link) (tag : Byte) (payload : List Byte) :
    Statement (.setTrim l tag payload) := of_request rfl rfl (by simp)

theorem clearMakeups (l : Link) (tag : Byte) (payload : List Byte) :
    Statement (.clearMakeups l tag payload) := of_request rfl rfl (by simp)

theorem startRun (l : Link) (tag : Byte) (payload : List Byte) :
    Statement (.startRun l tag payload) := of_request rfl rfl (by simp)

theorem hold (l : Link) (tag : Byte) (payload : List Byte) :
    Statement (.hold l tag payload) := of_request rfl rfl (by simp)

theorem release (l : Link) (tag : Byte) (payload : List Byte) :
    Statement (.release l tag payload) := of_request rfl rfl (by simp)

theorem continueRun (l : Link) (tag : Byte) (payload : List Byte) :
    Statement (.continueRun l tag payload) := of_request rfl rfl (by simp)

theorem endRun (l : Link) (tag : Byte) (payload : List Byte) :
    Statement (.endRun l tag payload) := of_request rfl rfl (by simp)

theorem abortRun (l : Link) (tag : Byte) (payload : List Byte) :
    Statement (.abortRun l tag payload) := of_request rfl rfl (by simp)

theorem runMakeups (l : Link) (tag : Byte) (payload : List Byte) :
    Statement (.runMakeups l tag payload) := of_request rfl rfl (by simp)

theorem clearFault (l : Link) (tag : Byte) (payload : List Byte) :
    Statement (.clearFault l tag payload) := of_request rfl rfl (by simp)

theorem withdrawSet (l : Link) (tag : Byte) (payload : List Byte) :
    Statement (.withdrawSet l tag payload) := of_request rfl rfl (by simp)

theorem restart (l : Link) (tag : Byte) (payload : List Byte) :
    Statement (.restart l tag payload) := of_request rfl rfl (by simp)

theorem restartPerformed (press service : Rate) :
    Statement (.restartPerformed press service) := of_no_frame rfl (by simp)

theorem frameByteReceived (l : Link) (b : Byte) :
    Statement (.frameByteReceived l b) := of_no_frame rfl (by simp)

theorem lastByteSent (l : Link) : Statement (.lastByteSent l) := of_no_frame rfl (by simp)

end Sys2Proof.Laws.FrameForm
end

