-- ==== Sys2Proof/Laws/Recovery.lean ====
section
/-! SUPPORT. The frame of the Recovery Logic: what a join, a rewind, a spoil and a splice leave
alone, said once for all of them; and how the terms that the statements use of a rewind (Sys2Proof.Safety)
agree with the operations that make it. -/

namespace Sys2Proof.Machine

/-- What no act of the Recovery Logic changes: everything but the run state and hold causes, the
disposition and sub-records of slots, the cursor, the batch flag, the make-up list, the tallies, the
notices, and the queues and load states of the heads. -/
structure RecoveryFrame (s t : State) : Prop where
  drain : t.drain = s.drain
  params : t.params = s.params
  runPlies : t.runPlies = s.runPlies
  segments : t.segments = s.segments
  marriageSlot : t.marriageSlot = s.marriageSlot
  length : t.slots.length = s.slots.length
  blocks : t.blocks = s.blocks
  layouts : t.layouts = s.layouts
  render : t.render = s.render
  lastGranted : t.lastGranted = s.lastGranted
  marker : t.marker = s.marker
  lastMarriage : t.lastMarriage = s.lastMarriage
  policy : t.policy = s.policy
  endMakeups : t.endMakeups = s.endMakeups
  links : t.links = s.links
  owner : t.owner = s.owner
  restart : t.restart = s.restart
  pending : t.pending = s.pending
  out : t.out = s.out
  inRun : t.inRun = s.inRun
  ply : ∀ p, t.ply p = { s.ply p with head :=
    { (s.ply p).head with queue := (t.ply p).head.queue, load := (t.ply p).head.load } }

namespace RecoveryFrame

theorem refl (s : State) : RecoveryFrame s s := by constructor <;> intros <;> rfl

theorem trans {s t u : State} (h : RecoveryFrame s t) (k : RecoveryFrame t u) :
    RecoveryFrame s u := by
  constructor
  case ply =>
    intro p
    have hk := k.ply p
    rw [h.ply p] at hk
    exact hk
  all_goals first
    | exact k.drain.trans h.drain | exact k.params.trans h.params
    | exact k.runPlies.trans h.runPlies | exact k.segments.trans h.segments
    | exact k.marriageSlot.trans h.marriageSlot | exact k.length.trans h.length
    | exact k.blocks.trans h.blocks | exact k.layouts.trans h.layouts
    | exact k.render.trans h.render | exact k.lastGranted.trans h.lastGranted
    | exact k.marker.trans h.marker | exact k.lastMarriage.trans h.lastMarriage
    | exact k.policy.trans h.policy | exact k.endMakeups.trans h.endMakeups
    | exact k.links.trans h.links | exact k.owner.trans h.owner
    | exact k.restart.trans h.restart | exact k.pending.trans h.pending
    | exact k.out.trans h.out | exact k.inRun.trans h.inRun

end RecoveryFrame

theorem State.notify_frame (s : State) (n : Notice) : RecoveryFrame s (s.notify n) := by
  constructor <;> intros <;> simp [State.inRun]

theorem State.giveCause_frame (s : State) (c : HoldCause) : RecoveryFrame s (s.giveCause c) := by
  constructor <;> intros <;> simp

theorem State.modSlot_frame (s : State) (j : Nat) (f : Slot → Slot) :
    RecoveryFrame s (s.modSlot j f) := by
  constructor <;> intros <;> simp [State.inRun, State.ply]

theorem State.modSub_frame (s : State) (j : Nat) (p : Ply) (f : SubRecord → SubRecord) :
    RecoveryFrame s (s.modSub j p f) := s.modSlot_frame j _

theorem State.afterJoin_frame (s : State) : RecoveryFrame s s.afterJoin := by
  unfold State.afterJoin
  dsimp only
  have h : RecoveryFrame s (if decide (Config.makeupHigh ≤ s.makeups.length) && !s.batch then
      s.giveCause .makeups else s) := by
    split
    · exact s.giveCause_frame _
    · exact .refl s
  split
  · exact h.trans (State.notify_frame _ _)
  · exact h

theorem State.batchAtJoin_frame (s : State) : RecoveryFrame s s.batchAtJoin := by
  unfold State.batchAtJoin
  split
  · constructor <;> intros <;> rfl
  · exact .refl s

/-- R135: a join changes the list, and may give a cause, send a notice and set the batch flag. -/
theorem State.joinMakeup_frame (s : State) (e : MakeupEntry) :
    RecoveryFrame s (s.joinMakeup e).2 := by
  obtain ⟨-, he⟩ | ⟨-, -, he⟩ | ⟨-, -, he⟩ := s.joinMakeup_cases e <;> rw [he]
  · exact .refl s
  · exact .refl s
  · have h : RecoveryFrame s { s with makeups := insertEntry e s.makeups } := by
      constructor <;> intros <;> rfl
    exact (h.trans (State.afterJoin_frame _)).trans (State.batchAtJoin_frame _)

theorem State.joinAll_frame (es : List MakeupEntry) (s : State) :
    RecoveryFrame s (State.joinAll es s).2.2 := by
  induction es generalizing s with
  | nil => exact .refl s
  | cons e es ih =>
    have hj := s.joinMakeup_frame e
    unfold State.joinAll
    split <;> rename_i s1 he <;> rw [he] at hj <;> exact hj.trans (ih s1)

/-- R130, R131: the bookkeeping of a rewind or an abort. -/
theorem State.bookkeeping_frame (s : State) (us : List Undone) :
    RecoveryFrame s (s.bookkeeping us).1 := by
  have h1 : RecoveryFrame s (s.removeRecalled us) := by constructor <;> intros <;> rfl
  have h2 := h1.trans (State.joinAll_frame (givenBack us) _)
  unfold State.bookkeeping
  dsimp only
  cases restorePoint us with
  | none => exact h2
  | some cb =>
    refine h2.trans ?_
    constructor <;> intros <;> rfl

/-- R74, R80: a flush takes entries and images, and nothing else of a head. -/
theorem State.flush_frame (s : State) (u : Nat) : RecoveryFrame s (s.flush u) := by
  constructor
  case ply =>
    intro p
    simp only [State.flush, State.ply, PerPly.get_map]
    split
    · simp only [State.testLoaded, HeadController.dropFrom]
      split
      · split <;> rfl
      · rfl
      · rfl
    · rfl
  all_goals rfl

/-- Section 7.4: a rewind. -/
theorem State.rewind_frame (s : State) (u : Nat) (init : Option Undone) :
    RecoveryFrame s (s.rewind u init).1 := by
  have h1 : RecoveryFrame s (s.rewindSlots u) := by
    constructor
    case length => simp [State.rewindSlots]
    case ply => exact fun _ => rfl
    all_goals rfl
  exact (h1.trans (State.bookkeeping_frame _ _)).trans (State.flush_frame _ _)

theorem State.rollbackSpoil_frame (s : State) (j : Nat) (mark : SpoilMark) (b : Binding) :
    RecoveryFrame s (s.rollbackSpoil j mark b) := by
  have h := (s.modSlot_frame j fun slot => slot.makeVoid (.spoil mark)).trans
    (State.rewind_frame _ (j + 1) (some ⟨b, false⟩))
  unfold State.rollbackSpoil
  dsimp only
  refine ((h.trans ?_).trans (State.notify_frame _ _)).trans (State.notify_frame _ _)
  constructor <;> intros <;> rfl

theorem State.deferSpoil_frame (s : State) (j : Nat) (mark : SpoilMark) (b : Binding) :
    RecoveryFrame s (s.deferSpoil j mark b) :=
  ((s.modSlot_frame j _).trans (State.joinMakeup_frame _ _)).trans (State.notify_frame _ _)

/-- R124: a spoil, whatever it does, leaves the frame of the Recovery Logic alone. -/
theorem State.takeSpoil_frame (s : State) (j : Nat) (mark : SpoilMark) :
    RecoveryFrame s (s.takeSpoil j mark) := by
  obtain ⟨-, he⟩ | ⟨_, -, -, he⟩ | ⟨_, b, -, -, ⟨-, -, he⟩ | ⟨-, he⟩⟩ := s.takeSpoil_cases j mark <;>
    rw [he]
  · exact .refl s
  · exact s.modSub_frame _ _ _
  · exact s.rollbackSpoil_frame j mark b
  · exact s.deferSpoil_frame j mark b

theorem State.takeSpoils_frame (marks : List SpoilMark) (s : State) (j : Nat) :
    RecoveryFrame s (s.takeSpoils j marks) := by
  induction marks generalizing s with
  | nil => exact .refl s
  | cons m ms ih => exact (s.takeSpoil_frame j m).trans (ih _)

theorem State.spliceSkip_frame (s : State) (p : Ply) (j : Nat) (slot : Slot) (b : Binding) :
    RecoveryFrame s (s.spliceSkip p j slot b) :=
  ((s.modSlot_frame j _).trans (State.rewind_frame _ _ _)).trans (State.notify_frame _ _)

/-- R133: a splice, whatever it does, leaves the frame of the Recovery Logic alone. -/
theorem State.takeSplice_frame (s : State) (p : Ply) (j : Nat) :
    RecoveryFrame s (s.takeSplice p j) := by
  unfold State.takeSplice
  split
  · exact .refl s
  · dsimp only
    have h := s.modSub_frame j p fun r => { r with splice := true }
    split
    · exact (h.trans (State.modSlot_frame _ _ _)).trans (State.notify_frame _ _)
    · exact h
    · exact h
    · split
      · exact h.trans (State.takeSpoil_frame _ _ _)
      · exact h.trans (State.spliceSkip_frame _ _ _ _ _)

/-! ## The terms of the statements and the operations of the bookkeeping -/

/-- R11: the flag `touched` says what `IsTouched` does. -/
theorem Slot.touched_iff (slot : Slot) : slot.touched = true ↔ slot.IsTouched := by
  have plies : ∀ q : Ply, q ∈ plyOrder := by intro q; cases q <;> decide
  unfold Slot.touched Slot.IsTouched SubRecord.touches
  rw [List.any_eq_true]
  constructor
  · rintro ⟨q, -, h⟩
    cases hr : slot.subs.get q with
    | none => simp [hr] at h
    | some r =>
      refine ⟨q, r, hr, ?_⟩
      simp only [hr, Bool.or_eq_true, decide_eq_true_eq] at h
      exact h.imp id fun h => by cases hp : r.print <;> simp [hp, PrintState.final] at h ⊢
  · rintro ⟨q, r, hr, h⟩
    refine ⟨q, plies q, ?_⟩
    simp only [hr, Bool.or_eq_true, decide_eq_true_eq]
    exact h.imp id fun h => by rcases h with h | h | h <;> simp [h, PrintState.final]

/-- The bindings among slots are those that the bookkeeping of a rewind reads. -/
theorem undone_eq_bindingsOf (slots : List Slot) :
    slots.filterMap Slot.undone = (bindingsOf slots).map fun u => ⟨u.1, u.2.isSome⟩ := by
  unfold bindingsOf
  rw [List.map_filterMap]
  congr 1
  funext x
  cases h : x.disp <;> simp [Slot.undone, h]

/-- R131: the restore point of the slots undone is the first binding that is no make-up. -/
theorem restorePoint_eq (us : List (Binding × Option SpoilMark)) :
    restorePoint (us.map fun u => ⟨u.1, u.2.isSome⟩) = us.findSome? (·.1.before) := by
  unfold restorePoint
  rw [List.findSome?_map]
  rfl

/-- R130: what is recalled, as the bookkeeping lists it. -/
theorem recalledValues_contains (us : List (Binding × Option SpoilMark)) (v g : Nat) :
    (recalledValues (us.map fun u => ⟨u.1, u.2.isSome⟩)).contains (v, g) = recalls us v g := by
  rw [Bool.eq_iff_iff]
  simp only [recalledValues, recalls, List.contains_iff_mem, List.mem_filterMap, List.mem_map,
    List.any_eq_true, Binding.makeup]
  constructor
  · rintro ⟨_, ⟨u, hu, rfl⟩, h⟩
    refine ⟨u, hu, ?_⟩
    cases hb : u.1.before <;> simp_all
  · rintro ⟨u, hu, h⟩
    simp only [Bool.and_eq_true, decide_eq_true_eq] at h
    obtain ⟨⟨hs, rfl⟩, rfl⟩ := h
    refine ⟨_, ⟨u, hu, rfl⟩, if_neg ?_⟩
    simp only [Option.isNone_iff_eq_none]
    exact Option.isSome_iff_ne_none.mp hs

/-- R130 step 2: the entries given back, as the bookkeeping joins them. -/
theorem givenBack_eq (us : List (Binding × Option SpoilMark)) :
    givenBack (us.map fun u => ⟨u.1, u.2.isSome⟩) = entriesBack us := by
  unfold givenBack entriesBack
  rw [List.filterMap_map]
  congr 1
  funext u
  simp only [Function.comp, recalledValues_contains, Binding.makeup]
  cases hb : u.1.before <;> cases hm : u.2 <;> cases hr : recalls us u.1.value u.1.segment <;> rfl

/-- R130 step 1: the entries that stay. -/
theorem State.removeRecalled_makeups (s : State) (us : List (Binding × Option SpoilMark)) :
    (s.removeRecalled (us.map fun u => ⟨u.1, u.2.isSome⟩)).makeups = entriesKept us s.makeups := by
  simp only [State.removeRecalled, recalledValues_contains, entriesKept]

end Sys2Proof.Machine
end

