-- ==== Sys2Proof/Tests/Slice0.lean ====
section
/-! SUPPORT. Tests: ill-formed commands that the check refuses, the manual's worked examples, and, for
each statement with hypotheses, a state and operands that meet them (`test_witness_<statement>`), at the
boundaries of their ranges. -/

namespace Sys2Proof.Tests

-- The tests are checked one after another: each holds a thread while the kernel evaluates it.
set_option Elab.async false

open Sys2Proof Sys2Proof.Machine

/-! ## Ill-formed commands -/

theorem test_wellFormed_readerTextEmpty :
    (Instr.readerRecord .p0 (.text 1 [])).wellFormed = false := by decide +kernel

theorem test_wellFormed_readerText17 :
    (Instr.readerRecord .p0 (.text 1 (List.replicate 17 0x41))).wellFormed = false := by decide +kernel

theorem test_wellFormed_lengthDiscard240 :
    (Instr.frameLengthDiscard .press 240).wellFormed = false := by decide +kernel

theorem test_wellFormed_badKindOfARequest :
    (Instr.badKind .press 0x4F 1 []).wellFormed = false := by decide +kernel

theorem test_wellFormed_badKindPayload241 :
    (Instr.badKind .press 0x50 1 (List.replicate 241 0)).wellFormed = false := by decide +kernel

theorem test_wellFormed_requestPayload241 :
    (Instr.hold .press 1 (List.replicate 241 0)).wellFormed = false := by decide +kernel

theorem test_wellFormed_accepts :
    (Instr.readerRecord .p0 (.text 1 (List.replicate 16 0x41))).wellFormed = true
    ∧ (Instr.frameLengthDiscard .press 241).wellFormed = true
    ∧ (Instr.badKind .press 0x50 1 (List.replicate 240 0)).wellFormed = true := by decide +kernel

/-- No row of the opcode table gives bits, so a word spells no command. -/
theorem test_decodeTableWord : decodeTableWord 16 0x5A = none := rfl

/-! ## A small press: P0 alone, at D = 2 with a reader at V = 1 and a splice sensor at K = 1 -/

/-- Layout 1 of section 2.9.1, "NO." with 7 digits, MOD10W31 and "-", printed on P0 at phase 100. -/
def lay1 : Layout where
  prefixText := [0x4E, 0x4F, 0x2E]
  width := 7
  fill := .zero
  check := .mod10w31
  separator := some 0x2D
  phaseA := 100
  phaseB := none
  maskA := ⟨true, false, false, false, false, false⟩
  maskB := PerPly.all false
  tolerance := 3
  overflow := .stop

/-- Segment 2: layout 1, a pass of 1 000 values, then END. -/
def seg2 : Segment := ⟨1, 1000, none, .carryOn, none⟩

/-- Block 3 of section 2.9.1. -/
def blk3 : Block := ⟨4700000, .asc, 5000⟩

/-- The record of P0. -/
def rec0 : PlyRecord where
  active := true
  source := .line
  pathLength := 2
  readerDistance := 1
  splice := some 1
  markPhase := 60
  markWindow := 8
  reverseAllowance := 4
  headClass := .wide
  splitPitch := 1
  guardLimit := 10
  loadTimeout := 20
  inhibitSet := ⟨true, true, true, true, true⟩
  trim := 0

/-- An IDLE part with P0, layout 1, segment 2 and block 3 configured, PRESS in control, and the
RESTARTED notice of power-on sent. -/
def idle : State := { State.reset with
  notices := []
  owner := .press
  plies := State.reset.plies.set .p0 { PlyState.initial with record := rec0 }
  layouts := State.reset.layouts.set 1 (some lay1)
  segments := State.reset.segments.set 2 (some seg2)
  blocks := State.reset.blocks.set 3 (some blk3) }

/-- A sub-record of P0. -/
def sub (print : PrintState) (fired : Nat) (verify : VerifyState) : PerPly (Option SubRecord) :=
  (PerPly.all none).set .p0 (some ⟨print, fired, none, false, verify, false, none⟩)

/-- A binding of segment 2 in pass 1. -/
def bound (value issued : Nat) : Binding :=
  ⟨value, value - 49152 + 4700000, 2, 1, some ⟨2, 1, value, issued⟩⟩

/-- The image of slot 12, of section 2.9.1. -/
def img12 : Image := composeImage lay1 .p0 .wide 12 1 4700217

/-- A RUNNING part under ROLLBACK with C = 1 000. Slot 10 is at the delivery end, slot 11 lies between
head and reader, slot 12 is under the head one count before phase A, and slot 13 is OPEN. -/
def run : State :=
  let s := { idle with
    runState := .running
    params := some ⟨1000, 2, .hold⟩
    runPlies := ⟨true, false, false, false, false, false⟩
    policy := some .rollback
    endMakeups := some .auto
    cursor := some ⟨.active, 2, 1, 49370, 3⟩
    marriageSlot := 10
    slots :=
      [⟨.bound (bound 49367 0) none, 1, sub .printed 1 .isMatch⟩,
       ⟨.bound (bound 49368 1) none, 1, sub .printed 1 .await⟩,
       ⟨.bound (bound 49369 2) none, 1, sub .pending 0 .notDue⟩,
       ⟨.opened, 0, sub .pending 0 .notDue⟩] }
  s.modPly .p0 fun ps => { ps with
    run := some ⟨8, 4, 10, 0⟩
    unit := ⟨99, 0, .locked, 12, false, none⟩
    head := { ps.head with
      queue := [.image img12 true], load := .loaded img12, plan := [⟨.a1, 100, .waiting, 0⟩] } }

/-- Whether a command is taken with a next state of a kind. -/
def leads (c : Instr) (s : State) (holds : State → Bool) : Bool :=
  match exec c s with
  | .next t => holds t
  | .fault _ => false
  | .refused _ => false

/-! ## The manual's worked examples -/

/-- Section 2.9.1: 49 369 in block 3 is serial 4 700 217, and field A is "NO.4700217-3". -/
theorem test_serial_and_field :
    serialUnder idle.blocks lay1 49369 = some 4700217
    ∧ lay1.textA 4700217
      = [0x4E, 0x4F, 0x2E, 0x34, 0x37, 0x30, 0x30, 0x32, 0x31, 0x37, 0x2D, 0x33] := by
  decide +kernel

/-- Section 2.9.1: the checks of 4 700 217 are 3, 6 and 4. -/
theorem test_checks :
    lay1.checkValue 4700217 = some 3
    ∧ { lay1 with check := .mod11w .x }.checkValue 4700217 = some 6
    ∧ { lay1 with check := .mod7r }.checkValue 4700217 = some 4 := by decide +kernel

/-- R176: READ-LAYOUT sends the prefix "NO." as its length and its characters, where SET-LAYOUT has
four places for it (section 9.5); the codes are those of Table 9-6. -/
theorem test_read_layout :
    layoutResult (some lay1)
      = [1, 3, 0x4E, 0x4F, 0x2E, 7, 0, 1, 1, 0x2D, 0, 0, 0, 100, 0, 0, 1, 0, 3, 1]
    ∧ (layoutBytes (some lay1)).length = 21 := by decide +kernel

/-- Section 2.9.1: on a NARROW head the image is A1 "NO.47002" and A2 "17-3". -/
theorem test_split_image :
    (composeImage lay1 .p0 .narrow 12 1 4700217).impressions
      = [(.a1, [0x4E, 0x4F, 0x2E, 0x34, 0x37, 0x30, 0x30, 0x32]), (.a2, [0x31, 0x37, 0x2D, 0x33])] := by
  decide +kernel

/-- Table 2-4: under ten-rule SKIP, 49 367 is passed over and 49 368 found; section 2.9.2: under
ten-rule X, field A reads "NO.4700215-X". -/
theorem test_ten_rule :
    normalise idle.blocks (some { lay1 with check := .mod11w .skip }) 49367 = .found 49368 1
    ∧ ({ lay1 with check := .mod11w .x }.textA 4700215).getLast? = some 0x58 := by decide +kernel

/-- Section 2.9.3: block 9 prints 10 000 000 as 0 under ROLL, and is at its end under STOP. -/
theorem test_top_of_the_field :
    let blocks := idle.blocks.set 9 (some ⟨9999998, .asc, 16384⟩)
    serialUnder blocks { lay1 with overflow := .roll } 147458 = some 0
    ∧ issuable blocks lay1 147457 = true ∧ issuable blocks lay1 147458 = false := by decide +kernel

/-- Section 2.9.4: block 7 under W = 3 prints 999 at offset 121 and 921 at offset 199 under ROLL. -/
theorem test_descending :
    let blocks := idle.blocks.set 7 (some ⟨120, .desc, 200⟩)
    let lay := { lay1 with width := 3, overflow := .roll }
    serialUnder blocks lay 114808 = some 0 ∧ serialUnder blocks lay 114809 = some 999
    ∧ serialUnder blocks lay 114887 = some 921 := by decide +kernel

/-- Table 2-5: the walk from the end of block 3 over the ABSENT block 4 to block 5. -/
theorem test_block_walk :
    normalise (idle.blocks.set 5 (some ⟨250000, .desc, 300⟩)) (some lay1) 54152 = .found 81920 0 := by
  decide +kernel

/-- Section 2.9.5: the second job is EXHAUSTED with resume value 1 015 908. -/
theorem test_exhausted :
    normalise (idle.blocks.set 62 (some ⟨0, .asc, 100⟩)) (some lay1) 1015908
      = .exhausted 1015908 0 := by decide +kernel

/-- The check value of CRC-16 with polynomial 1021H and initial value FFFFH over "123456789" is
29B1H (the value published for this CRC, outside the manual). -/
theorem test_crc :
    crc [0x31, 0x32, 0x33, 0x34, 0x35, 0x36, 0x37, 0x38, 0x39] = 0x29B1 := by decide +kernel

/-- Table 3-2: the mark of P1 at 560 in COAST, 40 below E = 600 with Wm = 150, is accepted. -/
theorem test_mark_in_coast :
    leads (.markPulse .p0)
      ((run.modPly .p0 fun ps => { ps with
        record := { ps.record with markPhase := 600 }, run := some ⟨150, 1200, 10, 0⟩ }).modUnit .p0
          fun _ => ⟨560, 0, .coast, 12, false, none⟩)
      (fun t => decide ((t.ply .p0).unit = ⟨600, 0, .locked, 12, true, none⟩)) = true := by
  decide +kernel

/-- R86: the one impression of the form fires at phase A, and the form is PRINTED. -/
theorem test_fires :
    leads (.forwardCount .line) run (fun t => decide (t.out = [.fire .p0 .a1])
      && decide (t.subAt 12 .p0 = some ⟨.printed, 1, some 0, false, .notDue, false, none⟩)
      && decide ((t.ply .p0).head.load = .empty) && decide ((t.ply .p0).head.guardCount = 10))
      = true := by decide +kernel

/-- R115, R117: slot 10 is married GOOD. -/
theorem test_marries_good :
    leads .setCutoff run (fun t => decide (t.tallies = { Tallies.zero with retired := 1, good := 1 })
      && decide (t.marriageSlot = 11) && !t.marker) = true := by decide +kernel

/-- R113, R126: slot 11 still AWAIT at its marriage is NORESULT and its number is restored. -/
theorem test_marries_noresult :
    leads .setCutoff ({ run with marriageSlot := 11, slots := run.slots.drop 1 }.modUnit .p0
        fun u => { u with headSlot := 13 })
      (fun t => decide (t.cursor = some ⟨.active, 2, 1, 49368, 1⟩) && t.marker
        && decide (t.lastMarriage = some ⟨11, .spoiled, some (bound 49368 1), some ⟨.noresult, .p0⟩⟩)
        && decide (t.tallies = { Tallies.zero with retired := 1, spoiled := 1, rollbacks := 1 }))
      = true := by decide +kernel

/-- R150, R23: START-RUN builds the lead-in 0..2 and places the cursor. -/
theorem test_start_run :
    leads (.startRun .press 7 (StartRequest.bytes ⟨2, 1000, .defer, .spoil, some 49369, .manual⟩)) idle
      (fun t => decide (t.runState = .running) && decide (t.cursor = some ⟨.active, 2, 1, 49369, 0⟩)
        && decide (t.slots.map (·.disp) = [.skip, .skip, .skip])
        && decide ((t.ply .p0).unit = ⟨0, 0, .search, 2, false, none⟩)) = true := by decide +kernel

/-- R46, R49: the grant of OPEN slot 13 binds it with the next value, and the cursor advances. -/
theorem test_grant :
    leads .renderGrant run (fun t => decide ((t.slotAt 13).map (·.disp) = some (.bound (bound 49370 3) none))
      && decide (t.cursor = some ⟨.active, 2, 1, 49371, 4⟩)
      && decide (t.render = some ⟨.p0, 13, 1⟩)) = true := by decide +kernel

/-- R17, R119: with the window full, the need of P0 for slot 138 waits, and the marriage of slot 10 has
slot 138 created. -/
theorem test_retirement_meets_a_waiting_need :
    leads .setCutoff ({ run with
        slots := run.slots ++ List.replicate 124 (⟨.opened, 0, sub .pending 0 .notDue⟩ : Slot) }.modHead .p0
        fun h => { h with queue := [.blank 137] })
      (fun t => decide (t.marriageSlot = 11) && decide (t.windowEnd = 139)
        && decide ((t.slotAt 138).map (·.disp) = some .opened)) = true := by decide +kernel

/-- R134, R135: a SKIP-INSERT sends the numbers of values returned, not added and removed. -/
theorem test_skip_insert_bytes :
    ((Notice.skipInsert .p0 12 (some (bound 49369 2, ⟨1, 2, 3, 4, 5, 6⟩, none))).payload).drop 11
      = [1, 2, 3, 0, 4, 0, 5, 0, 6, 0, 0, 0, 0] := by decide +kernel

/-- R164, R165: the frame of an IDENTIFY with TAG 7 is answered, whole or byte by byte. -/
theorem test_frame_bytes :
    frame 0x10 7 [] = [0x5A, 0x00, 0x10, 0x07] ++ crcBytes (crc [0x00, 0x10, 0x07])
    ∧ ((frame 0x50 7 []).foldl (fun s b => s.receiveByte .press b) idle).links.press.replies
      = [⟨7, 0x50, .refused .badKind 0 0⟩] := by decide +kernel

/-! ## Witnesses: states and operands that meet the hypotheses of the statements -/

/-- `run` with P0's unit, head or record changed. -/
def unit (f : PositionUnit → PositionUnit) : State := run.modUnit .p0 f
def head (f : HeadController → HeadController) : State := run.modHead .p0 f
def record (f : PlyRecord → PlyRecord) : State :=
  run.modPly .p0 fun ps => { ps with record := f ps.record }

/-- `run` with slot 12 under the head changed. -/
def slot12 (f : Slot → Slot) : State := run.modSlot 12 f

/-- Slot 12 as it stands in `run`. -/
def s12 : Slot := ⟨.bound (bound 49369 2) none, 1, sub .pending 0 .notDue⟩

/-- `run` with OPEN slot 13 made another. -/
def slot13 (d : Disposition) (print : PrintState) : State :=
  run.modSlot 13 fun x => { x with disp := d, subs := sub print 0 .notDue }

/-- A press side with the registration, position and mark taken given. -/
def marked (r : Registration) (x : Nat) (taken : Bool) : State :=
  unit fun u => { u with registration := r, position := x, markTaken := taken }

theorem test_witness_StepTakesTheFrontCommand :
    { run with pending := [.setCutoff, .renderGrant] }.pending = .setCutoff :: [.renderGrant]
    ∧ idle.pending = [] := by decide +kernel

theorem test_witness_admits (r : Request) :
    idle.Admits r .press ∧ run.Admits r .press := by
  unfold State.Admits; cases r <;> decide +kernel

theorem test_witness_RestartIsTakenAndPerformed :
    idle.runState = .idle ∧ run.runState ≠ .idle ∧ { idle with restart := .sent }.restart = .sent
    ∧ idle.restart ≠ .sent := by decide +kernel

/-- An owed count of 1; guard counts of 0 and 10, and of 1 with nothing deferred; the last count below C,
999, and the first impression one count on. -/
theorem test_witness_ForwardCountWithinTheForm :
    let owed := unit fun u => { u with owed := 1 }
    let last := fun n => (unit fun u => { u with position := 998 }).modHead .p0
      fun h => { h with guardCount := n }
    owed.countingPlies .line = [.p0] ∧ 0 < (owed.ply .p0).unit.owed
    ∧ (∀ n ∈ [0, 1, 10], (last n).countingPlies (.lineOn .p0) = [.p0] ∧ ((last n).ply .p0).unit.owed = 0
      ∧ (((last n).ply .p0).head.guardCount ≠ 1 ∨ ((last n).ply .p0).head.deferred = [])
      ∧ ((last n).ply .p0).unit.position + 1 < (last n).cutoff
      ∧ ∀ i ∈ ((last n).ply .p0).head.plan,
        i.state = .waiting → i.phase ≠ ((last n).ply .p0).unit.position + 1) := by
  decide +kernel

/-- Position 999 of C = 1 000. Slot 12 PENDING ends with room for slot 13; a ply in COAST; a new form with
its plan under a pending trim; a window of 128 with the head at its top; the head slot one below the
largest set index, and at it. -/
theorem test_witness_ForwardCountTakesTheBoundary :
    let s := unit fun u => { u with position := 999 }
    let coast := unit fun u => { u with position := 999, registration := .coast }
    let planned := ((slot13 (.bound (bound 49370 3) none) .pending).modSub 12 .p0
      fun r => { r with print := .printed }).modPly .p0 fun ps => { ps with
      unit := { ps.unit with position := 999 }, head := { ps.head with pendingTrim := some 5 } }
    let full := ({ run with slots := List.replicate 128 ⟨.skip, 0, sub .notPrinted 0 .notDue⟩ }).modUnit .p0
      fun u => { u with position := 999, headSlot := 137 }
    let at_ := fun h => unit fun u => { u with position := 999, headSlot := h }
    (∀ x ∈ [s, coast, planned, full, at_ 4294967294, at_ 4294967295],
      x.countingPlies .line = [.p0] ∧ (x.ply .p0).unit.owed = 0 ∧ x.cutoff ≤ (x.ply .p0).unit.position + 1
      ∧ (x.ply .p0).head.guardCount ≠ 1 ∧ (x.ply .p0).capture = none ∧ (x.ply .p0).run = some ⟨8, 4, 10, 0⟩)
    ∧ s.slotAt 12 = some s12 ∧ 12 + 1 < s.windowEnd ∧ (s12.subs.get .p0).map (·.print) = some .pending
    ∧ (coast.ply .p0).unit.registration = .coast
    ∧ leads (.forwardCount .line) planned (fun t =>
      decide ((t.ply .p0).head.plan = [⟨.a1, 105, .waiting, 0⟩]) && (t.boundAt 13).isSome
      && decide ((t.ply .p0).run = some ⟨8, 4, 10, 5⟩)) = true
    ∧ ¬ 138 < full.windowEnd ∧ ¬ 138 < full.marriageSlot + 128 ∧ full.slots ≠ []
    ∧ (full.ply .p0).unit.registration ≠ .coast ∧ (full.slotAt 137).map (·.isBound) = some false
    ∧ ((at_ 4294967294).ply .p0).unit.headSlot < 4294967295
    ∧ ((at_ 4294967295).ply .p0).unit.headSlot = 4294967295 := by decide +kernel

/-- One count before phase 100: a ready head with guard counts of 0 and 2, a SKIP slot, an inhibited head,
a ply in LOST, and a head that is EMPTY. -/
theorem test_witness_ImpressionFiresAtItsPhase :
    let guarded := head fun h => { h with guardCount := 2 }
    let skip := slot12 Slot.makeSkip
    let inhibited := head fun h => { h with inhibit := true }
    let lost := unit fun u => { u with registration := .lost }
    let unready := head fun h => { h with load := .empty }
    (∀ s ∈ [run, guarded, skip, inhibited, lost, unready],
      s.countingPlies .line = [.p0] ∧ (s.ply .p0).unit.owed = 0 ∧ (s.ply .p0).head.guardCount ≠ 1
      ∧ (s.ply .p0).unit.position + 1 < s.cutoff
      ∧ (s.ply .p0).head.waitingIn ((s.ply .p0).unit.position + 1) ((s.ply .p0).unit.position + 1) = [.a1]
      ∧ (s.ply .p0).head.impState .a1 = some .waiting ∧ (s.subAt 12 .p0).isSome = true)
    ∧ (∀ s ∈ [run, guarded], s.boundAt 12 ≠ none ∧ (s.ply .p0).head.inhibit = false
      ∧ (s.ply .p0).unit.registration.trusted = true ∧ s.readyToFire .p0 = true)
    ∧ (run.ply .p0).head.guardCount = 0 ∧ 0 < (guarded.ply .p0).head.guardCount
    ∧ skip.boundAt 12 = none ∧ inhibited.boundAt 12 ≠ none ∧ (inhibited.ply .p0).head.inhibit = true
    ∧ lost.boundAt 12 ≠ none ∧ (lost.ply .p0).unit.registration = .lost
    ∧ unready.boundAt 12 ≠ none ∧ unready.readyToFire .p0 = false ∧ s12.disp = .bound (bound 49369 2) none := by
  decide +kernel

/-- Impressions that fire: the last of the plan and one that is not; errors of 3 and 4 against a
tolerance of 3; no earlier placement error and one of 9; a slot that is spoil-pending already. -/
theorem test_witness_firing :
    let fires := fun e rest => head fun h => { h with plan := ⟨.a1, 100, .waiting, e⟩ :: rest }
    let pends := (fires 4 []).modSlot 12 fun x =>
      { x with disp := .bound (bound 49369 2) (some ⟨.noread, .p0⟩) }
    (∀ s ∈ [fires 3 [], fires 4 [], fires 4 [⟨.a2, 200, .waiting, 0⟩], pends],
      s.countingPlies .line = [.p0] ∧ (s.ply .p0).head.guardCount = 0 ∧ s.boundAt 12 ≠ none
      ∧ (s.ply .p0).head.inhibit = false ∧ (s.ply .p0).unit.registration.trusted = true
      ∧ s.readyToFire .p0 = true ∧ s.segmentLayout 2 = some lay1
      ∧ (s.ply .p0).head.waitingIn 100 100 = [.a1])
    ∧ (fires 3 []).slotAt 12 = some s12 ∧ ¬ lay1.tolerance < 3 ∧ lay1.tolerance < 4
    ∧ ((fires 4 []).ply .p0).head.plan.find? (fun i => decide (i.select = .a1))
      = some ⟨.a1, 100, .waiting, 4⟩
    ∧ (pends.slotAt 12).map (·.disp) = some (.bound (bound 49369 2) (some ⟨.noread, .p0⟩))
    ∧ leads (.forwardCount .line) ((fires 4 []).modSub 12 .p0 fun r => { r with error := some 9 })
      (fun t => decide ((t.subAt 12 .p0) = some ⟨.printed, 1, some 9, true, .notDue, false, none⟩)
        && decide ((t.slotAt 12).map (·.disp) = some (.void (bound 49369 2) (.spoil ⟨.misplace, .p0⟩))))
      = true := by decide +kernel

/-- A command is taken with a next state while P0 is inhibited. -/
theorem test_witness_NothingFiresWhileInhibited :
    leads (.forwardCount .line) (head fun h => { h with inhibit := true }) (fun t =>
      decide (t.out = []) && decide ((t.subAt 12 .p0).map (·.print) = some .inhibited)) = true
    ∧ ((head fun h => { h with inhibit := true }).ply .p0).head.inhibit = true := by decide +kernel

/-- Allowance 4: an owed count of 3 rises to 4, and one of 4 overruns. -/
theorem test_witness_ReverseCountOwesOrOverruns :
    let three := unit fun u => { u with owed := 3 }
    let four := unit fun u => { u with owed := 4 }
    three.countingPlies .line = [.p0] ∧ (three.ply .p0).unit.owed + 1 ≤ (three.ply .p0).allowance
    ∧ four.countingPlies .line = [.p0] ∧ (four.ply .p0).allowance < (four.ply .p0).unit.owed + 1 := by
  decide +kernel

theorem test_witness_PressEventsInIdleChangeNothing : idle.runState = .idle := rfl

/-- Guard count 1 with A1 deferred, and with nothing deferred two counts before it; guard counts of 0 and 2,
an owed count, an inactive ply. -/
theorem test_witness_GuardExpiryFiresTheOldestDeferred :
    let s := head fun h => { h with
      guardCount := 1, plan := [⟨.a1, 90, .deferred, 9⟩], deferred := [.a1] }
    let quiet := (head fun h => { h with guardCount := 1 }).modUnit .p0 fun u => { u with position := 98 }
    s.inRun = true ∧ s.active .p0 = true ∧ (s.ply .p0).unit.owed = 0 ∧ (s.ply .p0).head.guardCount = 1
    ∧ (s.ply .p0).head.deferred = .a1 :: [] ∧ (s.ply .p0).unit.position + 1 < s.cutoff
    ∧ s.boundAt (s.ply .p0).unit.headSlot ≠ none ∧ (s.ply .p0).head.inhibit = false
    ∧ (s.ply .p0).unit.registration.trusted = true ∧ s.readyToFire .p0 = true
    ∧ 0 < (s.ply .p0).guardInForce
    ∧ quiet.inRun = true ∧ quiet.active .p0 = true ∧ (quiet.ply .p0).unit.owed = 0
    ∧ (quiet.ply .p0).head.guardCount = 1 ∧ (quiet.ply .p0).head.deferred = []
    ∧ (quiet.ply .p0).unit.position + 1 < quiet.cutoff
    ∧ (∀ i ∈ (quiet.ply .p0).head.plan, i.state = .waiting → i.phase ≠ (quiet.ply .p0).unit.position + 1)
    ∧ run.active .p1 = false ∧ 0 < ((unit fun u => { u with owed := 1 }).ply .p0).unit.owed
    ∧ (run.ply .p0).head.guardCount = 0
    ∧ ((head fun h => { h with guardCount := 2 }).ply .p0).head.guardCount ≠ 1 := by decide +kernel

/-- E = 60 and Wm = 8: 51 and 69 lie outside the window, 52 and 68 at its ends. -/
theorem test_witness_MarkPulseSnapsOrIsIgnored :
    (∀ s ∈ [marked .locked 60 true, marked .lost 60 false, marked .locked 51 false,
        marked .coast 69 false],
      s.inRun = true ∧ s.active .p0 = true ∧ (s.ply .p0).run = some ⟨8, 4, 10, 0⟩
      ∧ ((s.ply .p0).unit.markTaken = true ∨ (s.ply .p0).unit.registration = .lost
        ∨ (((s.ply .p0).unit.registration = .locked ∨ (s.ply .p0).unit.registration = .coast)
          ∧ ((s.ply .p0).unit.position + 8 < 60 ∨ 60 + 8 < (s.ply .p0).unit.position))))
    ∧ (∀ s ∈ [marked .search 999 false, marked .locked 52 false, marked .coast 68 false],
      s.inRun = true ∧ s.active .p0 = true ∧ (s.ply .p0).run = some ⟨8, 4, 10, 0⟩
      ∧ (s.ply .p0).record.markPhase = 60 ∧ (s.ply .p0).unit.markTaken = false
      ∧ ((s.ply .p0).unit.registration = .search
        ∨ (((s.ply .p0).unit.registration = .locked ∨ (s.ply .p0).unit.registration = .coast)
          ∧ 60 ≤ (s.ply .p0).unit.position + 8 ∧ (s.ply .p0).unit.position ≤ 60 + 8))) := by
  decide +kernel

/-- A forward snap from 52 over an impression at 53 and none at 61, and at E itself; a backward snap from
68 over impressions FIRED at 61 and DEFERRED at 68, with tolerance 3 passed and not. -/
theorem test_witness_snaps :
    let fwd := (marked .locked 52 false).modHead .p0 fun h => { h with
      plan := [⟨.a1, 53, .waiting, 0⟩, ⟨.a2, 61, .waiting, 0⟩] }
    let back := fun x => (marked .locked x false).modHead .p0 fun h => { h with
      plan := [⟨.a1, 61, .fired, 0⟩, ⟨.a2, x, .deferred, 2⟩] }
    (fwd.ply .p0).head.waitingIn (52 + 1) 60 = [.a1] ∧ (fwd.ply .p0).head.impState .a1 = some .waiting
    ∧ ((fwd.ply .p0).head.plan.map (·.select)).Nodup ∧ fwd.boundAt 12 ≠ none
    ∧ (fwd.ply .p0).head.inhibit = false ∧ fwd.readyToFire .p0 = true ∧ (fwd.ply .p0).head.guardCount = 0
    ∧ ((fwd.modUnit .p0 fun u => { u with position := 60 }).ply .p0).head.waitingIn (60 + 1) 60 = []
    ∧ (∀ x ∈ [63, 64, 68], 60 < ((back x).ply .p0).unit.position
      ∧ (((back x).ply .p0).head.plan.map (·.select)).Nodup ∧ (back x).slotAt 12 = some s12
      ∧ s12.disp = .bound (bound 49369 2) none ∧ (back x).segmentLayout 2 = some lay1)
    ∧ ¬ lay1.tolerance < min (0 + (63 - 60)) 65535 ∧ lay1.tolerance < min (0 + (64 - 60)) 65535 := by
  decide +kernel

/-- Targets 12 + K: repeated, OPEN (13), SKIP and VOID, touched, not yet created (14, the first above the
top), RETIRED (9, below the marriage slot), refused for want of room (138, in a window from 10), and above
4 294 967 295. -/
theorem test_witness_SplicePulseActsOnItsTarget :
    let rep := unit fun u => { u with spliceWatch := some 13 }
    let touched := slot12 fun x => { x with subs := sub .printed 1 .notDue }
    let at0 := touched.modPly .p0 fun ps => { ps with record := { ps.record with splice := some 0 } }
    let far := record fun r => { r with splice := some 2 }
    let on := fun h => unit fun u => { u with headSlot := h }
    run.inRun = true ∧ run.active .p0 = true ∧ (run.ply .p0).record.splice = some 1
    ∧ (rep.ply .p0).unit.spliceWatch = some 13 ∧ (run.ply .p0).unit.spliceWatch ≠ some 13
    ∧ (run.slotAt 13).map (·.disp) = some .opened
    ∧ ((slot13 .skip .notPrinted).slotAt 13).map (·.disp) = some .skip
    ∧ ((slot13 (.void (bound 49370 3) .collateral) .notPrinted).slotAt 13).map (·.disp)
      = some (.void (bound 49370 3) .collateral)
    ∧ (at0.ply .p0).record.splice = some 0 ∧ (at0.ply .p0).unit.spliceWatch ≠ some 12
    ∧ (at0.slotAt 12).map (fun x => (x.touched, x.isBound)) = some (true, true)
    ∧ (far.ply .p0).record.splice = some 2 ∧ far.windowEnd ≤ 14 ∧ far.hasRoom 14 = true
    ∧ ((on 8).ply .p0).unit.headSlot + 1 < (on 8).marriageSlot
    ∧ (on 137).windowEnd ≤ ((on 137).ply .p0).unit.headSlot + 1
    ∧ (on 137).marriageSlot + 128 ≤ ((on 137).ply .p0).unit.headSlot + 1 ∧ run.hasRoom 137 = true
    ∧ 4294967295 < ((on 4294967295).ply .p0).unit.headSlot + 1 := by
  decide +kernel

theorem untouched12 : ¬ s12.IsTouched := by
  rintro ⟨q, r, h, h'⟩
  cases q <;> first | (cases h; simp at h') | cases h

/-- Targets 12 + 0: a binding from the cursor, a make-up, and one that is spoil-pending; slot 13 above it
OPEN, and BOUND by a make-up whose value comes back and by one whose value is recalled. -/
theorem test_witness_SpliceSkipUndoesTheBinding :
    let s := record fun r => { r with splice := some 0 }
    let mk : Binding := { bound 49369 2 with before := none }
    let above := fun v => [(bound 49369 2, (none : Option SpoilMark)), ({ bound v 3 with before := none }, none)]
    s.inRun = true ∧ s.active .p0 = true ∧ (s.ply .p0).record.splice = some 0
    ∧ (s.ply .p0).unit.spliceWatch ≠ some 12
    ∧ s.slotAt 12 = some s12 ∧ s12.disp = .bound (bound 49369 2) none ∧ s12.touched = false
    ∧ (bound 49369 2).before = some ⟨2, 1, 49369, 2⟩ ∧ s.cursor = some ⟨.active, 2, 1, 49370, 3⟩
    ∧ mk.before = none ∧ entriesBack [(mk, none)] = [⟨49369, 2, 1, none⟩]
    ∧ entriesBack [(mk, some ⟨.noread, .p0⟩)] = [] ∧ restored [(mk, none)] ⟨.active, 2, 1, 49370, 3⟩
      = ⟨.active, 2, 1, 49370, 3⟩
    ∧ entriesBack (above 49360) = [⟨49360, 2, 1, none⟩] ∧ entriesBack (above 49369) = []
    ∧ bindingsOf (s.slots.drop (12 + 1 - s.marriageSlot)) = [] ∧ s.notices.length ≤ 45
    ∧ leads (.spliceEvent .p0) s (fun t => decide (t.notices = [⟨.skipInsert .p0 12
      (some (bound 49369 2, ⟨0, 0, 0, 0, 0, 0⟩, some ⟨.active, 2, 1, 49369, 2⟩)), .owner⟩])) = true := by
  decide +kernel

/-- Both head slots that R111 accepts, with the form at the delivery end settled; a set that ended its
pass; a need that waited for slot 138; runs that are over by each test, and one that is not; an empty
window at both ends of the set indexes. -/
theorem test_witness_AlignedMarriageJudgesTheSet :
    let next := unit fun u => { u with headSlot := 13 }
    let waits := { run with slots := List.replicate 128 s12 }.modHead .p0
      fun h => { h with queue := [.blank 137] }
    run.inRun = true ∧ run.slots.head? = some ⟨.bound (bound 49367 0) none, 1, sub .printed 1 .isMatch⟩
    ∧ (∀ p, run.active p = true → (run.ply p).unit.headSlot = run.marriageSlot + (run.ply p).record.pathLength
      ∧ (next.ply p).unit.headSlot = run.marriageSlot + (run.ply p).record.pathLength + 1)
    ∧ (∀ p r, run.active p = true → (sub .printed 1 .isMatch).get p = some r →
      r.print ≠ .pending ∧ (r.verify = .await → r.print ≠ .printed))
    ∧ (bound 49367 999).before.map (·.issued + 1) = some seg2.quantity
    ∧ (waits.active .p0 = true ∧ (waits.ply .p0).head.queue.length < 4 ∧ waits.render = none
      ∧ (waits.ply .p0).nextNeeded = waits.marriageSlot + 128 ∧ waits.slots.length ≤ 128)
    ∧ run.tallies.retired < 4294967295 ∧ run.tallies.good < 4294967295
    ∧ run.isOver (run.slots.drop 1) = false
    ∧ { run with cursor := some ⟨.chainEnd, 2, 1, 49370, 3⟩ }.isOver [] = true
    ∧ { run with runState := .draining }.isOver [] = true
    ∧ { run with slots := [] }.slots = [] ∧ { run with slots := [] }.marriageSlot ≤ 4294967295
    ∧ { run with slots := [], marriageSlot := 4294967295 }.inRun = true := by
  refine ⟨by decide +kernel, by decide +kernel, ?_, ?_, by decide +kernel⟩
  · intro p; cases p <;> decide +kernel
  · intro p r h1 h2; cases p <;> first | (cases h2; decide) | cases h2

/-- Head slots 11 and 14 beside the accepted pair, 12 and 13; a clear and a held capture; P0, which no
ply comes before; aligned, with the form at the delivery end PENDING, and PRINTED and still AWAIT. -/
theorem test_witness_MisalignedPlyIsCaptured :
    (∀ s ∈ [unit fun u => { u with headSlot := 11 }, unit fun u => { u with headSlot := 14 }],
      s.inRun = true ∧ s.slots ≠ [] ∧ s.active .p0 = true
      ∧ (s.ply .p0).unit.headSlot ≠ s.marriageSlot + (s.ply .p0).record.pathLength
      ∧ (s.ply .p0).unit.headSlot ≠ s.marriageSlot + (s.ply .p0).record.pathLength + 1
      ∧ (s.ply .p0).capture = none ∧ (s.ply .p0).record.inhibitSet.alignment = true
      ∧ s.slots.head?.map (·.disp) = some (.bound (bound 49367 0) none))
    ∧ ((run.modPly .p0 fun ps => { ps with capture := some ⟨.headReject, 3, 4, false⟩ }).ply .p0).capture
      = some ⟨.headReject, 3, 4, false⟩
    ∧ ¬ plyNumber .p1 < plyNumber .p0
    ∧ (run.ply .p0).unit.headSlot = run.marriageSlot + (run.ply .p0).record.pathLength
    ∧ run.activePlies = [.p0]
    ∧ leads .setCutoff (run.modSub 10 .p0 fun r => { r with print := .pending }) (fun t =>
      decide (t.lastMarriage = some ⟨10, .spoiled, some (bound 49367 0), some ⟨.miss, .p0⟩⟩)) = true
    ∧ leads .setCutoff (run.modSub 10 .p0 fun r => { r with verify := .await }) (fun t =>
      decide (t.lastMarriage = some ⟨10, .spoiled, some (bound 49367 0), some ⟨.noresult, .p0⟩⟩)) = true := by
  decide +kernel

/-- Slot 11 awaits; texts of 1 and 16 characters, matching and not; a form not PRINTED; a ply SYNCED at
the number received and one UNSYNCED; a layout with the ply in mask A, and one with it in mask B only. -/
theorem test_witness_RecordInSequenceIsAssociated :
    let s11 : Slot := ⟨.bound (bound 49368 1) none, 1, sub .printed 1 .await⟩
    let blank := run.modSlot 11 fun x => { x with subs := sub .notPrinted 0 .await }
    let synced := run.modChecker .p0 fun _ => ⟨true, 255⟩
    run.takesRecords .p0 = true ∧ (run.ply .p0).checker.synced = false
    ∧ (synced.ply .p0).checker = ⟨true, 255⟩ ∧ run.awaiting .p0 = 11 :: [] ∧ run.slotAt 11 = some s11
    ∧ s11.subs.get .p0 = some ⟨.printed, 1, none, false, .await, false, none⟩
    ∧ s11.disp = .bound (bound 49368 1) none ∧ (bound 49368 1).serial = 4700216
    ∧ run.segment (bound 49368 1).segment = some seg2 ∧ run.layout seg2.layout = some lay1
    ∧ lay1.maskA.get .p0 = true ∧ (lay1.textA 4700216).length = 12
    ∧ leads (.readerRecord .p0 (.text 9 (lay1.textB 4700216)))
      { run with layouts := run.layouts.set 1 (some
        { lay1 with phaseB := some 200, maskA := PerPly.all false, maskB := lay1.maskA }) }
      (fun t => decide ((t.subAt 11 .p0).map (·.verify) = some .isMatch)) = true
    ∧ [(0x41 : Byte)] ≠ lay1.textA 4700216 ∧ (List.replicate 16 (0x41 : Byte)).length = 16
    ∧ blank.takesRecords .p0 = true ∧ blank.awaiting .p0 = 11 :: []
    ∧ (blank.subAt 11 .p0).map (·.print) = some .notPrinted := by decide +kernel

/-- A gap of 1 over the one form awaiting, which leaves none, and over the lower of two; gaps of 1 and
127 at the ends of their range. -/
theorem test_witness_gap :
    let s := run.modChecker .p0 fun _ => ⟨true, 255⟩
    let two := s.modSub 10 .p0 fun r => { r with verify := .await }
    s.takesRecords .p0 = true ∧ (s.ply .p0).checker.synced = true
    ∧ ((0 : Byte) - (s.ply .p0).checker.expected).toNat = 1
    ∧ ((126 : Byte) - (s.ply .p0).checker.expected).toNat = 127
    ∧ s.awaiting .p0 = [11] ∧ two.awaiting .p0 = [10, 11]
    ∧ leads (.readerRecord .p0 (.noRead 0)) two (fun t => t.awaiting .p0 = []
      && decide ((t.subAt 10 .p0).map (·.verify) = some .noresult)
      && decide ((t.subAt 11 .p0).map (·.verify) = some .noread)) = true := by decide +kernel

/-- Differences 128 and 255; texts of 0 and 17 characters; no form awaiting. -/
theorem test_witness_StrayRecordsAreReported :
    let s := run.modChecker .p0 fun _ => ⟨true, 100⟩
    let none_ := run.modSlot 11 fun x => { x with subs := sub .printed 1 .isMatch }
    s.takesRecords .p0 = true ∧ (s.ply .p0).checker.synced = true
    ∧ 128 ≤ ((228 : Byte) - (s.ply .p0).checker.expected).toNat
    ∧ 128 ≤ ((99 : Byte) - (s.ply .p0).checker.expected).toNat
    ∧ ([] : List Byte).length = 0 ∧ 16 < (List.replicate 17 (0x41 : Byte)).length
    ∧ none_.takesRecords .p0 = true ∧ none_.awaiting .p0 = [] ∧ (none_.ply .p0).checker.synced = false := by
  decide +kernel

/-- Next needed slot 13 with a queue of 1, and 15 with a queue of 3; room to create and, in a window of
128, none. -/
theorem test_witness_StagingActsOnTheNextNeededSlot :
    let open13 := run
    let new14 := head fun h => { h with queue := h.queue ++ [.blank 13] }
    let full := { new14 with slots := List.replicate 128 s12 }.modHead .p0
      fun h => { h with queue := [.blank 135, .blank 136, .blank 137] }
    open13.inRun = true ∧ open13.active .p0 = true ∧ (open13.ply .p0).head.queue.length < 4
    ∧ open13.render = none ∧ (open13.ply .p0).nextNeeded = 13
    ∧ (open13.slotAt 13).map (·.disp) = some .opened
    ∧ ((slot13 .skip .notPrinted).slotAt 13).map (·.disp) = some .skip
    ∧ ((slot13 (.bound (bound 49370 3) none) .none).subAt 13 .p0).map (·.print) = some .none
    ∧ ((slot13 (.bound (bound 49370 3) none) .pending).subAt 13 .p0).map (·.print) = some .pending
    ∧ (new14.ply .p0).nextNeeded = 14 ∧ new14.windowEnd ≤ 14 ∧ new14.marriageSlot ≤ 14
    ∧ new14.hasRoom 14 = true ∧ new14.render = none ∧ (new14.ply .p0).head.queue.length < 4
    ∧ (full.ply .p0).nextNeeded = 138 ∧ full.windowEnd ≤ 138 ∧ full.marriageSlot ≤ 138
    ∧ full.hasRoom 138 = false ∧ (full.ply .p0).head.queue.length < 4 := by decide +kernel

/-- A requester of OPEN slot 13 with the gate open; the gate shut by an inhibit; slot 13 under the head. -/
theorem test_witness_ArbiterChoosesTheShortestQueue :
    run.chosen = some .p0 ∧ run.isRequester .p0 = true ∧ idle.chosen = none
    ∧ (head fun h => { h with inhibit := true }).gateOpen = false
    ∧ (run.slotAt 13).map (·.disp) = some .opened
    ∧ 13 ≤ ((unit fun u => { u with headSlot := 13 }).ply .p0).unit.headSlot := by decide +kernel

/-- The cursor of `run`; bindings that are the last but one and the last of their pass, with both end
actions, and a next segment that is none, EMPTY, unfit, entered and EXHAUSTED; the last value of block 3;
a layout that gives P0 no field. -/
theorem test_witness_GrantBindsFromTheCursor :
    let s13 : Slot := ⟨.opened, 0, sub .pending 0 .notDue⟩
    let at_ := fun v n => { run with cursor := some ⟨.active, 2, 1, v, n⟩ }
    let goes := fun g => { at_ 49370 999 with
      layouts := run.layouts.set 3 (some { lay1 with phaseA := 1000 })
      segments := ((run.segments.set 2 (some g)).set 4 (some seg2)).set 5 (some { seg2 with layout := 3 }) }
    let layN : Layout := { lay1 with maskA := ⟨false, true, false, false, false, false⟩ }
    let plain := { run with layouts := run.layouts.set 1 (some layN) }
    run.render = none ∧ run.chosen = some .p0 ∧ run.slotAt (run.ply .p0).nextNeeded = some s13
    ∧ s13.disp = .opened ∧ run.batch = false ∧ run.cursor = some ⟨.active, 2, 1, 49370, 3⟩
    ∧ run.segment 2 = some seg2 ∧ run.layout seg2.layout = some lay1
    ∧ serialUnder run.blocks lay1 49370 = some 4700218 ∧ 3 + 1 < seg2.quantity
    ∧ normalise run.blocks (some lay1) (49370 + 1) = .found 49371 0
    ∧ (at_ 49370 998).chosen = some .p0 ∧ 998 + 1 < seg2.quantity ∧ seg2.quantity ≤ 999 + 1
    ∧ serialUnder run.blocks lay1 54151 = some 4704999 ∧ (at_ 54151 3).chosen = some .p0
    ∧ normalise run.blocks (some lay1) (54151 + 1) = .exhausted 54152 0
    ∧ (∀ g ∈ [{ seg2 with endAction := .pause }, seg2, { seg2 with next := some 9 },
        { seg2 with next := some 4 }, { seg2 with next := some 5 }],
      (goes g).chosen = some .p0 ∧ (goes g).segment 2 = some g ∧ (goes g).layout g.layout = some lay1)
    ∧ (goes seg2).segment 9 = none ∧ (goes seg2).layoutFits { lay1 with phaseA := 1000 } = false
    ∧ (goes seg2).layoutFits lay1 = true
    ∧ normalise (goes seg2).blocks (some lay1) (seg2.start.getD (49370 + 1)) = .found 49371 0
    ∧ plain.chosen = some .p0
    ∧ leads .renderGrant plain (fun t => decide (t.render = none)
      && decide ((t.subAt 13 .p0).map (·.print) = some .none) && decide (t.lastGranted = .p0)) = true := by
  decide +kernel

theorem test_witness_GrantBindsTheLowestMakeup :
    let e : MakeupEntry := ⟨49360, 2, 1, some 3⟩
    let s := { run with batch := true, makeups := [e] }
    let b := slot13 (.bound (bound 49370 3) none) .pending
    s.render = none ∧ s.chosen = some .p0 ∧ (s.ply .p0).nextNeeded = 13
    ∧ (s.slotAt 13).map (·.disp) = some .opened ∧ s.batch = true ∧ s.makeups = e :: []
    ∧ s.segmentLayout e.segment = some lay1 ∧ serialUnder s.blocks lay1 e.value = some 4700208
    ∧ b.render = none ∧ b.chosen = some .p0
    ∧ (b.slotAt 13).map (·.disp) = some (.bound (bound 49370 3) none) := by decide +kernel

/-- A render of slot 13 that is current, one whose slot was bound anew, and one passed by; a layout in
range, and under fill SPACE serial 0 in W = 3, whose field B is "  0". -/
theorem test_witness_CompletionAppendsACurrentImage :
    let r : Render := ⟨.p0, 13, 0⟩
    let s := { slot13 (.bound (bound 49370 3) none) .pending with render := some r }
    let anew := s.modSlot 13 fun x => { x with stamp := 1 }
    let passed := s.modHead .p0 fun h => { h with queue := h.queue ++ [.blank 13] }
    (s.render = some r ∧ (s.slotAt 13).map (fun x => (x.disp, x.stamp)) = some (.bound (bound 49370 3) none, 0)
    ∧ (s.ply .p0).nextNeeded = 13 ∧ s.segmentLayout 2 = some lay1
    ∧ anew.render = some r ∧ (anew.slotAt 13).map (·.stamp) = some 1
    ∧ passed.render = some r ∧ (passed.ply .p0).nextNeeded ≠ 13
    ∧ (composeImage { lay1 with width := 3, fill := .space, maskB := PerPly.all true } .p0 .wide 1 1 0).fieldB
      = [0x20, 0x20, 0x30])
    ∧ lay1.InRange := by
  refine ⟨by decide +kernel, ?_⟩
  simp [Layout.InRange, lay1, PerPly.all, inPrefixSet]

/-- A front for a slot above the head slot and one for the head slot; one with an impression fallen due;
fronts whose slot is SKIP, RETIRED, OPEN and bound anew; an inhibited head, a head that is not EMPTY, a
queue with nothing waiting. -/
theorem test_witness_LoadStartTakesTheFront :
    let free := head fun h => { h with load := .empty, queue := [.image img12 false] }
    let above := free.modUnit .p0 fun u => { u with headSlot := 11 }
    let due := free.modHead .p0 fun h => { h with plan := [⟨.a1, 99, .dropped, 0⟩] }
    let skip := free.modSlot 12 Slot.makeSkip
    let gone := { free with marriageSlot := 13, slots := free.slots.drop 3 }
    let reopened := free.modSlot 12 Slot.makeOpen
    let anew := free.modSlot 12 fun x => { x with stamp := 2 }
    (∀ s ∈ [free, above, due, skip, gone, reopened, anew],
      s.inRun = true ∧ s.active .p0 = true ∧ (s.ply .p0).head.load = .empty
      ∧ (s.ply .p0).head.inhibit = false ∧ stagingFront (s.ply .p0).head.queue = some img12)
    ∧ free.current img12.slot img12.stamp = true ∧ img12.slot = (free.ply .p0).unit.headSlot
    ∧ (∀ i ∈ (free.ply .p0).head.plan, i.state = .waiting) ∧ (above.ply .p0).unit.headSlot < img12.slot
    ∧ due.current img12.slot img12.stamp = true ∧ ¬ (∀ i ∈ (due.ply .p0).head.plan, i.state = .waiting)
    ∧ ¬ (due.ply .p0).unit.headSlot < img12.slot
    ∧ (skip.slotAt 12).map (·.disp) = some .skip ∧ img12.slot < gone.marriageSlot
    ∧ (reopened.slotAt 12).map (·.disp) = some .opened
    ∧ (anew.slotAt 12).map (fun x => (x.isBound, x.stamp)) = some (true, 2) ∧ (2 : Byte) ≠ img12.stamp
    ∧ ((head fun h => { h with inhibit := true }).ply .p0).head.inhibit = true
    ∧ (run.ply .p0).head.load ≠ .empty ∧ stagingFront (run.ply .p0).head.queue = none := by decide +kernel

/-- A load outstanding for the head slot: current and usable; no longer current; no longer usable. Heads
that are LOADED and EMPTY. -/
theorem test_witness_HeadAnswersEndTheLoad :
    let s := head fun h => { h with load := .loading img12 }
    let stale := s.modSlot 12 fun x => { x with stamp := 2 }
    let due := s.modHead .p0 fun h => { h with plan := [⟨.a1, 99, .dropped, 0⟩] }
    (run.ply .p0).head.load = .loaded img12
    ∧ ((head fun h => { h with load := .empty }).ply .p0).head.load = .empty
    ∧ (s.ply .p0).head.load = .loading img12 ∧ (2 : Byte) ≠ img12.stamp ∧ (1 : Byte) = img12.stamp
    ∧ s.current img12.slot img12.stamp = true ∧ img12.slot = (s.ply .p0).unit.headSlot
    ∧ (∀ i ∈ (s.ply .p0).head.plan, i.state = .waiting)
    ∧ (stale.ply .p0).head.load = .loading img12 ∧ stale.current img12.slot img12.stamp = false
    ∧ (due.ply .p0).head.load = .loading img12 ∧ ¬ (due.ply .p0).unit.headSlot < img12.slot
    ∧ ¬ (∀ i ∈ (due.ply .p0).head.plan, i.state = .waiting) := by decide +kernel

/-- A clear and a held capture; a kind in the inhibit set and one that is not; fault actions HOLD and
SPOIL; room for 48 notices. -/
theorem test_witness_FaultIsCapturedAndInhibits :
    let out := record fun r => { r with inhibitSet := ⟨false, true, true, true, true⟩ }
    (run.ply .p0).capture = none
    ∧ ((run.modPly .p0 fun ps => { ps with capture := some ⟨.alignment, 1, 2, false⟩ }).ply .p0).capture
      = some ⟨.alignment, 1, 2, false⟩
    ∧ run.notices.length < 48 ∧ run.runState = .running
    ∧ (run.ply .p0).record.inhibitSet.has .markLoss = true
    ∧ run.params.map (·.faultAction) = some .hold
    ∧ (out.ply .p0).record.inhibitSet.has .markLoss = false
    ∧ ({ run with params := some ⟨1000, 2, .spoil⟩ } : State).params.map (·.faultAction) ≠ some .hold := by
  decide +kernel

/-- Widths 1 and 10 under each method. -/
theorem test_witness_CheckValuesOfEachMethod :
    lay1.check = .mod10w31 ∧ lay1.width ≤ 10 ∧ { lay1 with width := 10 }.width ≤ 10
    ∧ { lay1 with width := 1, check := .mod11w .skip }.check = .mod11w .skip
    ∧ { lay1 with check := .mod7r }.check = .mod7r ∧ { lay1 with check := .none }.check = .none := by
  decide +kernel

/-- Values found and not found, a value skipped, and in a DESC block under W = 2 a move to offset 21, one
that lies beyond the block's count, and one that lies beyond its 16 384 values. -/
theorem test_witness_NormalisationFindsTheFirstIssuable :
    let lay2 := { lay1 with width := 2 }
    let desc := fun base count => State.reset.blocks.set 63 (some ⟨base, .desc, count⟩)
    normalise idle.blocks (some lay1) 0 = .found 49152 0
    ∧ normalise idle.blocks (some lay1) 54151 = .found 54151 0
    ∧ normalise idle.blocks (some lay1) 54152 = .exhausted 54152 0
    ∧ normalise idle.blocks (some lay1) 1048576 = .exhausted 1048576 0
    ∧ normalise idle.blocks (some { lay1 with check := .mod11w .skip }) 49367 = .found 49368 1
    ∧ blockHolds idle.blocks { lay1 with check := .mod11w .skip } 49367 = true
    ∧ normalise (desc 120 200) (some lay2) 1032192 = .found 1032213 0
    ∧ normalise (desc 120 21) (some lay2) 1032192 = .exhausted 1032213 0
    ∧ normalise (desc 16483 16384) (some lay2) 1032193 = .exhausted 1032193 0 := by decide +kernel

/-- A spoil of slot 12 with nothing bound above it; one of slot 11, above which slot 12 is untouched under
the head, or touched, and slot 13 is untouched above every head; a list that holds a value recalled and
one that is not. -/
theorem test_witness_RollbackSpoilUndoesBindings :
    let above := { slot13 (.bound (bound 49370 3) none) .pending with
      makeups := [⟨49360, 2, 1, none⟩, ⟨49370, 2, 1, some 4⟩] }
    let t := above.takeSpoil 11 ⟨.noread, .p0⟩
    run.slotAt 12 = some s12 ∧ s12.disp = .bound (bound 49369 2) none
    ∧ (bound 49369 2).before = some ⟨2, 1, 49369, 2⟩ ∧ run.policy = some .rollback
    ∧ run.cursor = some ⟨.active, 2, 1, 49370, 3⟩
    ∧ (above.slotAt 11).map (·.disp) = some (.bound (bound 49368 1) none) ∧ above.slotAt 12 = some s12
    ∧ (above.ply .p0).unit.headSlot = 12
    ∧ t.slots.map (·.disp) = [.bound (bound 49367 0) none, .void (bound 49368 1) (.spoil ⟨.noread, .p0⟩),
      .skip, .opened]
    ∧ t.makeups = [⟨49360, 2, 1, none⟩] ∧ above.notices.length ≤ 44
    ∧ t.notices = [⟨.spoil 11 ⟨.noread, .p0⟩ (bound 49368 1) .voided, .owner⟩,
      ⟨.rollback 11 ⟨.noread, .p0⟩ ⟨0, 1, 1, 0, 0, 1⟩ (some ⟨.active, 2, 1, 49368, 1⟩), .owner⟩]
    ∧ ((above.modSub 12 .p0 fun r => { r with fired := 1 }).takeSpoil 11 ⟨.noread, .p0⟩).slots.map (·.disp)
      = [.bound (bound 49367 0) none, .void (bound 49368 1) (.spoil ⟨.noread, .p0⟩),
        .void (bound 49369 2) .collateral, .opened] := by decide +kernel

/-- Lists of 126, 127 and 128 that a join follows, in RUNNING, in HELD with the cause already given, and in
DRAINING, with the batch flag clear, set, and set on the way at CHAIN-END under AUTO. -/
theorem test_joinNotices :
    let hold : QueuedNotice := ⟨.runState .held ⟨false, false, false, true⟩ none, .owner⟩
    let high : Bool → QueuedNotice := fun b => ⟨.makeupHigh 128 b, .owner⟩
    let held := { run with runState := .held, causes := ⟨false, false, false, true⟩ }
    let atEnd := { run with cursor := some ⟨.chainEnd, 2, 1, 49370, 3⟩ }
    run.joinNotices false 126 127 = [] ∧ run.joinNotices false 127 128 = [hold, high false]
    ∧ run.joinNotices false 128 129 = [hold] ∧ run.joinNotices false 128 128 = []
    ∧ run.joinNotices true 127 128 = [high true] ∧ held.joinNotices false 127 128 = [high false]
    ∧ { run with runState := .draining }.joinNotices false 127 128 = [high false]
    ∧ atEnd.joinNotices false 127 129 = [hold, high false]
    ∧ atEnd.joinNotices false 126 128 = [high true] := by decide +kernel

/-- Under DEFER, and of a make-up under ROLLBACK; a value not listed, one listed, and a list of 256; lists
of 126, 127 and 128 entries that the value joins; and, where the clauses meet, a join that brings the list
to 128 under AUTO at CHAIN-END, which gives the cause MAKEUPS and sets the batch flag. -/
theorem test_witness_DeferSpoilListsTheValue :
    let s := { run with policy := some .defer }
    let mk : Binding := { bound 49369 2 with before := none }
    let long := fun n => { s with makeups := List.replicate n ⟨1, 2, 1, none⟩ }
    let meets := ({ long 127 with cursor := some ⟨.chainEnd, 2, 1, 49370, 3⟩ }).takeSpoil 12 ⟨.miss, .p0⟩
    s.slotAt 12 = some s12 ∧ s12.disp = .bound (bound 49369 2) none ∧ s.policy ≠ some .rollback
    ∧ mk.makeup = true ∧ s.listed 49369 = false ∧ s.makeups.length < 256
    ∧ { s with makeups := [⟨49369, 2, 1, none⟩] }.listed 49369 = true
    ∧ 256 ≤ (long 256).makeups.length ∧ (long 255).makeups.length < 256
    ∧ (long 127).listed 49369 = false ∧ (long 127).makeups.length = 127 ∧ (long 127).batch = false
    ∧ 128 ≤ (long 127).makeups.length + 1 ∧ ¬ 128 ≤ (long 126).makeups.length + 1
    ∧ (long 127).runState = .running ∧ (long 127).notices.length ≤ 45
    ∧ s.endMakeups = some .auto
    ∧ (s.takeSpoil 12 ⟨.miss, .p0⟩).notices
      = [⟨.spoil 12 ⟨.miss, .p0⟩ (bound 49369 2) .listed, .owner⟩]
    ∧ ((long 256).takeSpoil 12 ⟨.miss, .p0⟩).notices
      = [⟨.spoil 12 ⟨.miss, .p0⟩ (bound 49369 2) .listFull, .owner⟩]
    ∧ ({ s with makeups := [⟨49369, 2, 1, none⟩] }.takeSpoil 12 ⟨.miss, .p0⟩).notices
      = [⟨.spoil 12 ⟨.miss, .p0⟩ (bound 49369 2) .duplicate, .owner⟩]
    ∧ meets.runState = .held ∧ meets.causes = ⟨false, false, false, true⟩ ∧ meets.batch = true
    ∧ ⟨.makeupHigh 128 false, .owner⟩ ∈ meets.notices := by decide +kernel

/-- A receiver hunting and one that has taken SYNC; LEN 241; a frame of 5 bytes whose CRC differs, without
and with a SYNC among its bytes, which the hunt then takes; a gap after such bytes. -/
theorem test_witness_ReceiverCollectsAndDiscards :
    let got := fun buf : List Byte => idle.setRx .press (some buf)
    (idle.link .press).rx = none ∧ (0 : Byte) ≠ 0x5A
    ∧ ((got []).link .press).rx = some [] ∧ rxStatus ([] ++ [240]) = .incomplete
    ∧ 240 < (241 : Byte).toNat
    ∧ ((got [0, 0x10, 7, 0]).link .press).rx = some [0, 0x10, 7, 0]
    ∧ rxStatus ([0, 0x10, 7, 0] ++ [0]) = .badCrc ∧ (0x5A : Byte) ∉ ([0, 0x10, 7, 0] : List Byte)
    ∧ rxStatus ([0, 0x5A, 0, 0x10] ++ [7]) = .badCrc
    ∧ leads (.frameCrcDiscard .press 7) (got [0, 0x5A, 0, 0x10]) (fun t =>
      decide ((t.link .press).rx = some [0, 0x10, 7]) && decide ((t.link .press).counters.crc = 1)) = true
    ∧ leads (.frameGapExpiry .press) (got [0, 0x5A, 0, 0x10]) (fun t =>
      decide ((t.link .press).rx = some [0, 0x10]) && decide ((t.link .press).counters.gap = 1)) = true := by
  decide +kernel

/-- Payloads of 0 and 240 bytes; the KIND of a request. -/
theorem test_witness_FrameBytesAreTakenAsTheFrame :
    (idle.link .press).rx = none ∧ ([] : List Byte).length ≤ 240
    ∧ (List.replicate 240 (0x5A : Byte)).length ≤ 240 ∧ requestCode .hold = 0x41 := by decide +kernel

/-- A full reply queue of 8 and one of 7; KINDs and lengths that fail each test; a RESTART pending; a
request from the other link. -/
theorem test_witness_RequestsAreTestedInOrder :
    let r : Reply := ⟨1, 0x41, .done []⟩
    let full := fun n => idle.modLink .press fun k => { k with replies := List.replicate n r }
    8 ≤ ((full 8).link .press).replies.length ∧ ((full 7).link .press).replies.length < 8
    ∧ (0x49 : Byte) ∉ requestCodes ∧ ([0] : List Byte).length ≠ requestLength .hold
    ∧ ([] : List Byte).length = requestLength .hold
    ∧ { idle with restart := .queued .service }.restart ≠ .none ∧ idle.restart = .none
    ∧ needsControl .hold = true ∧ idle.owner ≠ ownerOf .service := by decide +kernel

theorem test_witness_RepliesAreSentInOrder :
    let r : Reply := ⟨1, 0x4F, .done []⟩
    let s := idle.modLink .press fun k => { k with replies := [r] }
    (s.link .press).tx = none ∧ (s.link .press).replies = r :: [] ∧ s.restart = .none
    ∧ { s with restart := .queued .press }.restart = .queued .press ∧ r.kind = 0x4F
    ∧ r.answer = .done [] ∧ (idle.link .press).replies = []
    ∧ ((idle.modLink .press fun k => { k with tx := some [0] }).link .press).tx = some [0]
    ∧ { idle with restart := .sending .press }.restart = .sending .press
    ∧ idle.restart ≠ .sending .press ∧ (idle.link .press).tx = none := by decide +kernel

/-- A notice for the owner and one for a fixed link. -/
theorem test_witness_FrontNoticeGoesToItsLink :
    let q : QueuedNotice := ⟨.exhausted 5, .owner⟩
    let s := { idle with notices := [q] }
    s.notices = q :: [] ∧ (s.link .press).tx = none ∧ (s.link .press).replies = []
    ∧ s.owner = .press ∧ ({ s with owner := .none }).owner = .none
    ∧ { idle with notices := [⟨.exhausted 5, .fixed .service⟩] }.notices
      = ⟨.exhausted 5, .fixed .service⟩ :: [] := by decide +kernel

theorem test_witness_QueriesAnswerAndChangeNothing :
    (idle.link .press).replies.length < 8 ∧ (idle.link .service).replies.length < 8
    ∧ idle.restart = .none := by decide +kernel

theorem test_witness_ControlFollowsItsTable :
    (idle.link .service).replies.length < 8 ∧ idle.restart = .none ∧ idle.owner = .press
    ∧ idle.owner = ownerOf .press ∧ idle.owner ≠ ownerOf .service
    ∧ { idle with owner := .none }.owner = .none ∧ { idle with owner := .service }.owner = .service := by
  decide +kernel

/-- Records at both ends of Table 3-1; a payload of 24 bytes that names ply 6. -/
theorem test_witness_SetPlyStoresTheRecord :
    PlyRecord.InRange { rec0 with
      pathLength := 1, readerDistance := 0, splice := none, markWindow := 0, loadTimeout := 0
      trim := -65535 }
    ∧ PlyRecord.InRange { rec0 with
      pathLength := 120, readerDistance := 119, splice := some 15, markWindow := 65535
      splitPitch := 65535, guardLimit := 65535, loadTimeout := 65535, trim := 65535 }
    ∧ idle.runState = .idle ∧ run.runState ≠ .idle
    ∧ (6 :: List.replicate 23 (1 : Byte)).length = 24
    ∧ 5 < ((6 :: List.replicate 23 (1 : Byte)).getD 0 0).toNat := by
  refine ⟨?_, ?_, by decide, by decide, by decide, by decide⟩ <;> simp [PlyRecord.InRange, rec0]

/-- What holds an entry of a table in use, in `run`: the cursor, a slot's binding, BOUND or VOID, and a
make-up; in `idle` nothing does. -/
theorem test_witness_inUse :
    let voided := run.slots.map fun x => x.makeVoid .abort
    idle.cursor = none ∧ idle.slots = [] ∧ idle.makeups = []
    ∧ run.cursor = some ⟨.active, 2, 1, 49370, 3⟩ ∧ 49370 / 16384 = 3 ∧ 54152 / 16384 = 3
    ∧ run.segment 2 = some seg2 ∧ seg2.layout = 1
    ∧ run.slots.map (·.disp) = [.bound (bound 49367 0) none, .bound (bound 49368 1) none,
      .bound (bound 49369 2) none, .opened]
    ∧ voided.map (·.disp) = [.void (bound 49367 0) .abort, .void (bound 49368 1) .abort,
      .void (bound 49369 2) .abort, .opened]
    ∧ (bound 49367 0).value / 16384 = 3 ∧ (bound 49367 0).segment = 2
    ∧ (⟨49360, 2, 1, none⟩ : MakeupEntry).value / 16384 = 3 := by decide +kernel

/-- Entries at both ends of their ranges, an ABSENT entry, one in use, and an index of 64. -/
theorem test_witness_SetBlockReplacesTheEntry :
    (∀ x, some (⟨0, .asc, 1⟩ : Block) = some x → x.InRange)
    ∧ (∀ x, some (⟨9999999999, .desc, 16384⟩ : Block) = some x → x.InRange)
    ∧ idle.block 3 ≠ none ∧ idle.blockInUse 3 = false ∧ idle.block 4 = none
    ∧ run.block 3 ≠ none ∧ run.blockInUse 3 = true
    ∧ (64 :: List.replicate 9 (0 : Byte)).length = 10
    ∧ 63 < ((64 :: List.replicate 9 (0 : Byte)).getD 0 0).toNat := by
  refine ⟨?_, ?_, ?_⟩
  · rintro x ⟨⟩; simp [Block.InRange]
  · rintro x ⟨⟩; simp [Block.InRange]
  · decide +kernel

theorem test_witness_SetLayoutReplacesTheEntry :
    (∀ x, some lay1 = some x → x.InRange)
    ∧ (∀ x, some { lay1 with
        prefixText := [], width := 10, check := .mod11w .skip, phaseB := some 65535
        maskB := PerPly.all true, tolerance := 255 } = some x → x.InRange)
    ∧ idle.layout 1 ≠ none ∧ idle.layoutInUse 1 = false ∧ idle.layout 0 = none
    ∧ run.layout 1 ≠ none ∧ run.layoutInUse 1 = true
    ∧ (8 :: List.replicate 21 (0 : Byte)).length = 22
    ∧ 7 < ((8 :: List.replicate 21 (0 : Byte)).getD 0 0).toNat := by
  refine ⟨?_, ?_, ?_⟩
  · rintro x ⟨⟩; simp [Layout.InRange, lay1, PerPly.all, inPrefixSet]
  · rintro x ⟨⟩; simp [Layout.InRange, lay1, PerPly.all, inPrefixSet]
  · decide +kernel

theorem test_witness_SetSegmentReplacesTheEntry :
    (∀ x, some seg2 = some x → x.InRange)
    ∧ (∀ x, some (⟨7, 16777215, some 1048575, .pause, some 31⟩ : Segment) = some x → x.InRange)
    ∧ idle.segment 2 ≠ none ∧ idle.segmentInUse 2 = false ∧ idle.segment 0 = none
    ∧ run.segment 2 ≠ none ∧ run.segmentInUse 2 = true
    ∧ (32 :: List.replicate 11 (0 : Byte)).length = 12
    ∧ 31 < ((32 :: List.replicate 11 (0 : Byte)).getD 0 0).toNat := by
  refine ⟨?_, ?_, ?_⟩
  · rintro x ⟨⟩; simp [Segment.InRange, seg2]
  · rintro x ⟨⟩; simp [Segment.InRange]
  · decide +kernel

/-- Both ends of the trim's range and the two codes beside them; IDLE, an inactive ply, an active one. -/
theorem test_witness_SetTrimStoresAndPends :
    idle.runState = .idle ∧ run.active .p1 = false ∧ run.runState ≠ .idle ∧ run.active .p0 = true
    ∧ (-65535 : Int) ≤ -65535 ∧ (65535 : Int) ≤ 65535 ∧ 65535 < 65536 ∧ 65536 < 16711681
    ∧ 65535 < 16711680 ∧ 16711680 < 16711681 := by decide +kernel

theorem test_witness_ClearMakeupsEmptiesTheList :
    idle.runState = .idle ∧ run.runState ≠ .idle := by decide +kernel

/-- A request at both ends of the cutoff that starts, one that fails check 1, one sent in a run; lists of
127 and 128 entries. -/
theorem test_witness_StartRunTakesTheStartState :
    let q : StartRequest := ⟨2, 65535, .defer, .spoil, some 49369, .manual⟩
    q.InRange ∧ { q with cutoff := 256, start := none }.InRange ∧ idle.startDecision q = .start 49369 0
    ∧ idle.startDecision { q with cutoff := 256 } = .start 49369 0
    ∧ State.reset.startDecision q = .config 1 0 ∧ idle.runState = .idle ∧ run.runState ≠ .idle
    ∧ 128 ≤ { idle with makeups := List.replicate 128 ⟨1, 2, 1, none⟩ }.makeups.length
    ∧ { idle with makeups := List.replicate 127 ⟨1, 2, 1, none⟩ }.makeups.length < 128 := by
  refine ⟨?_, ?_, ?_⟩
  · simp [StartRequest.InRange]
  · simp [StartRequest.InRange]
  · decide +kernel

/-- Section 1.8.1, Table 1-9: the verify states of a lead-in of plies with D = 12 and V = 3, D = 9 and no
reader, and D = 5 and V = 2. -/
theorem test_leadIn :
    let rec_ := fun d v => { PlyState.initial with record := { rec0 with pathLength := d, readerDistance := v } }
    let s := { idle with plies :=
      ((idle.plies.set .p0 (rec_ 12 3)).set .p1 (rec_ 9 0)).set .p2 (rec_ 5 2) }
    let t := s.startRun ⟨2, 1000, .defer, .spoil, none, .auto⟩ 49369 0
    let verify := fun p => t.slots.map fun x => (x.subs.get p).map (·.verify)
    verify .p0 = List.replicate 10 (some .notDue) ++ [some .await, some .await, some .notDue]
    ∧ verify .p1 = List.replicate 13 (some .absent)
    ∧ verify .p2 = List.replicate 4 (some .notDue) ++ [some .await] ++ List.replicate 8 (some .notDue)
    ∧ verify .p3 = List.replicate 13 none
    ∧ t.notices = [⟨.runState .running HoldCauses.empty none, .owner⟩] := by decide +kernel

/-- Each check of START-RUN failing on `idle` at cutoff 1 000, and none. -/
theorem test_witness_startChecks :
    let seg4 := fun g => { idle with segments := idle.segments.set 4 (some g) }
    let reads := idle.modPly .p0 fun ps => { ps with record := { ps.record with readerDistance := 2 } }
    (∀ p, State.reset.active p = false) ∧ idle.active .p0 = true
    ∧ (idle.Reaches 9 9 ∧ idle.segment 9 = none)
    ∧ ((seg4 ⟨7, 5, none, .carryOn, none⟩).Reaches 4 4 ∧ (seg4 ⟨7, 5, none, .carryOn, none⟩).layout 7 = none)
    ∧ ((seg4 ⟨1, 5, some 0, .carryOn, none⟩).Reaches 4 4 ∧ (seg4 ⟨1, 5, some 0, .carryOn, none⟩).block 0 = none)
    ∧ reads.FailsCheck 1000 2 .p0 1
    ∧ normalise idle.blocks (idle.segmentLayout 2) 54152 = .exhausted 54152 0
    ∧ normalise idle.blocks (idle.segmentLayout 2) 49369 = .found 49369 0
    ∧ idle.startDecision ⟨2, 1000, .defer, .spoil, some 54152, .manual⟩ = .config 6 2
    ∧ reads.startDecision ⟨2, 1000, .defer, .spoil, some 49369, .manual⟩ = .config 0x21 0
    ∧ field ([32, 0, 255] ++ List.replicate 7 (1 : Byte)) 1 2 < 256
    ∧ 31 < (([32, 0, 255] ++ List.replicate 7 (1 : Byte)).getD 0 0).toNat := by
  refine ⟨?_, by decide +kernel, ⟨.refl, by decide +kernel⟩, ⟨.refl, by decide +kernel⟩,
    ⟨.refl, by decide +kernel⟩, ?_, by decide +kernel⟩
  · intro p; cases p <;> decide +kernel
  · show _ ≠ 0 ∧ _ ≤ _
    decide +kernel

/-- The chain from segment 2 of `idle` reaches segment 2 alone, and P0 fails no check. -/
theorem test_witness_startChecksPass :
    (∀ i, idle.Reaches 2 i → i = 2) ∧ ∀ p n, idle.active p = true → ¬ idle.FailsCheck 1000 2 p n := by
  have reaches : ∀ i, idle.Reaches 2 i → i = 2 := by
    intro i h
    rcases Relation.ReflTransGen.cases_head h with h | ⟨k, h, -⟩
    · exact h.symm
    · exact absurd h (by
        have : (idle.segment 2).bind (·.next) = none := by decide +kernel
        simp [this])
  refine ⟨reaches, ?_⟩
  intro p n hp
  have hp0 : p = .p0 := by revert hp; cases p <;> decide +kernel
  subst hp0
  have layouts : ∀ lay, idle.ReachesLayout 2 lay → lay = lay1 := by
    rintro lay ⟨i, g, h1, h2, h3⟩
    obtain rfl := reaches i h1
    have hg : idle.segment 2 = some seg2 := by decide +kernel
    have hl : idle.layout 1 = some lay1 := by decide +kernel
    rw [hg] at h2; cases h2
    exact Option.some.inj (h3.symm.trans hl)
  have hr : (idle.ply .p0).record = rec0 := by decide +kernel
  unfold State.FailsCheck
  rw [hr]
  split
  · simp [rec0]
  · simp [rec0]
  · simp [rec0]
  · simp [rec0]
  · rintro ⟨lay, h, h'⟩; obtain rfl := layouts lay h; simp [lay1] at h'
  · simp [rec0]
  · simp

theorem test_witness_HoldGivesTheCauseHost :
    let held := { run with runState := .held, causes := ⟨false, true, false, false⟩ }
    run.runState = .running ∧ held.runState = .held ∧ held.causes.host = false
    ∧ { held with causes := ⟨true, false, false, false⟩ }.causes.host = true
    ∧ idle.runState = .idle ∧ { run with runState := .draining }.runState = .draining := by
  decide +kernel

/-- Each test of RELEASE failing, and none; cursors that are not EXHAUSTED, renormalise, and do not. -/
theorem test_witness_ReleaseTestsAndResumes :
    let held := { run with runState := .held, causes := ⟨true, false, false, false⟩ }
    let inh := held.modHead .p0 fun h => { h with inhibit := true }
    let long := { held with makeups := List.replicate 128 ⟨1, 2, 1, none⟩ }
    let found := { held with cursor := some ⟨.exhausted, 2, 1, 49370, 3⟩ }
    let lost := { held with cursor := some ⟨.exhausted, 2, 1, 54152, 3⟩ }
    run.runState ≠ .held ∧ held.runState = .held ∧ held.activePlies.all (fun p => !(held.ply p).head.inhibit)
    ∧ (∀ p, held.active p = true → (held.ply p).head.inhibit = false)
    ∧ inh.active .p0 = true ∧ (inh.ply .p0).head.inhibit = true
    ∧ 128 ≤ long.makeups.length ∧ long.batch = false ∧ ¬ 128 ≤ held.makeups.length
    ∧ held.cursor.map (·.state) = some .active
    ∧ normalise found.blocks (found.segmentLayout 2) 49370 = .found 49370 0
    ∧ normalise lost.blocks (lost.segmentLayout 2) 54152 = .exhausted 54152 0 := by
  refine ⟨by decide +kernel, by decide +kernel, by decide +kernel, ?_, by decide +kernel⟩
  intro p; cases p <;> decide +kernel

/-- A PAUSED cursor at the end of the chain, at an EMPTY segment, at one that may be entered, at a layout
that does not fit, and at no value; pass 65 535; a cursor that is not PAUSED. -/
theorem test_witness_ContinueTakesTheChainStep :
    let paused := { run with cursor := some ⟨.paused, 2, 1, 49370, 1000⟩ }
    let goes := fun i => { paused with
      segments := (paused.segments.set 2 (some { seg2 with next := some i })).set 4 (some seg2) }
    run.cursor.map (·.state) ≠ some .paused ∧ paused.runState = .running
    ∧ paused.segment 2 = some seg2 ∧ seg2.next = none
    ∧ (goes 9).segment 2 = some { seg2 with next := some 9 } ∧ (goes 9).segment 9 = none
    ∧ (1 : Nat) ≠ 65535 ∧ (goes 4).segment 4 = some seg2 ∧ (goes 4).layout seg2.layout = some lay1
    ∧ (goes 4).layoutFits lay1 = true
    ∧ normalise (goes 4).blocks (some lay1) (seg2.start.getD 49370) = .found 49370 0
    ∧ (goes 4).layoutFits { lay1 with phaseA := 1000 } = false
    ∧ normalise (goes 4).blocks (some lay1) ((some 54152).getD 49370) = .exhausted 54152 0
    ∧ ({ (goes 9) with cursor := some ⟨.paused, 2, 65535, 49370, 1000⟩ } : State).cursor.map (·.pass) = some 65535 := by
  decide +kernel

/-- A window with a numbered slot, and one with none. -/
theorem test_witness_EndRunDrains :
    run.runState = .running ∧ idle.runState = .idle ∧ run.slots.any (·.isNumbered) = true
    ∧ (∀ slot ∈ (run.slots.map Slot.makeSkip), slot.isNumbered = false) := by decide +kernel

/-- A window with a numbered slot, a make-up among them, and one with none; the second ABORT-RUN. -/
theorem test_witness_AbortRunVoidsThenRetires :
    let aborted := { run with runState := .draining, drain := some .abort }
    let mk := slot12 fun x => { x with disp := .bound { bound 49369 2 with before := none } none }
    (∀ slot ∈ run.slots.map Slot.makeSkip, slot.isNumbered = false) ∧ run.notices.length ≤ 45
    ∧ entriesBack (bindingsOf mk.slots) = [⟨49369, 2, 1, none⟩]
    ∧ leads (.abortRun .press 1 []) mk (fun t => decide (t.makeups = [⟨49369, 2, 1, none⟩])
      && decide (t.cursor = some ⟨.closed, 2, 1, 49367, 0⟩)) = true ∧
    idle.runState = .idle ∧ run.runState = .running ∧ run.slots.any (·.isNumbered) = true
    ∧ { aborted with drain := some .ended }.drain = some .ended
    ∧ aborted.runState = .draining ∧ aborted.drain = some .abort
    ∧ { aborted with tallies := { Tallies.zero with retired := 4294967291, void := 4294967291 } }.tallies.retired
      + aborted.slots.length ≤ 4294967295 := by decide +kernel

theorem test_witness_RunMakeupsStartsTheBatch :
    let owed := { run with makeups := [⟨49360, 2, 1, none⟩] }
    let both := { owed with runState := .held, causes := ⟨true, false, false, true⟩ }
    run.makeups = [] ∧ owed.runState = .running ∧ owed.makeups ≠ [] ∧ owed.causes.makeups = false
    ∧ both.causes.makeups = true ∧ { both.causes with makeups := false } ≠ HoldCauses.empty
    ∧ { ({ both with causes := ⟨false, false, false, true⟩ } : State).causes with makeups := false }
      = HoldCauses.empty := by decide +kernel

/-- Ply numbers 5 and 6. -/
theorem test_witness_ClearFaultClearsOnePly :
    plyNumber .p5 = 5 ∧ 5 < (6 : Fin 256).val ∧ 5 < (255 : Fin 256).val := by decide +kernel

/-- Each test of WITHDRAW-SET failing, and none. -/
theorem test_witness_WithdrawSetTestsAndLists :
    let s := { run with tallies := { Tallies.zero with good := 1 } }
    (49160 ≤ 1048575 ∧ 2 ≤ 31 ∧ s.segmentLayout 2 = some lay1 ∧ issuable s.blocks lay1 49160 = true)
    ∧ issuable s.blocks lay1 54152 = false ∧ ¬ 1048576 ≤ 1048575 ∧ ¬ 32 ≤ 31
    ∧ run.tallies.good < run.tallies.withdrawn + 1 ∧ s.tallies.withdrawn + 1 ≤ s.tallies.good
    ∧ s.makeups.length < 128
    ∧ 128 ≤ { s with makeups := List.replicate 128 ⟨1, 2, 1, none⟩ }.makeups.length
    ∧ s.listed 49160 = false ∧ { s with makeups := [⟨49160, 2, 1, none⟩] }.listed 49160 = true
    ∧ s.inFlight 49160 2 = false ∧ s.inFlight 49369 2 = true ∧ s.tallies.withdrawn < 4294967295 := by
  decide +kernel

/-- `run` meets every invariant, and a step from it answers a next state. -/
theorem test_witness_StepsKeepTheInvariants :
    run.LinksBounded ∧ run.MakeupsOrdered ∧ run.RunAgrees ∧ run.WindowBounded ∧ run.StagingBounded
    ∧ run.PositionsInForm ∧ run.WithdrawnWithinGood ∧ run.HeadsPassed ∧ run.tallies.good < 4294967295
    ∧ (match step { run with pending := [.forwardCount .line] } with
      | .next t => decide (t.out = [.fire .p0 .a1])
      | .fault _ => false
      | .refused _ => false) = true := by
  refine ⟨?_, ?_, ?_, ?_, ?_, ?_, ?_, ?_, by decide +kernel, ?_⟩
  · unfold State.LinksBounded LinkState.Bounded; decide +kernel
  · unfold State.MakeupsOrdered; decide +kernel
  · unfold State.RunAgrees; decide +kernel
  · unfold State.WindowBounded PlyRecord.PathFits
    exact ⟨by decide +kernel, by decide +kernel, fun p => by cases p <;> decide +kernel⟩
  · unfold State.StagingBounded
    exact ⟨fun p => by cases p <;> decide +kernel, fun r h => nomatch h⟩
  · unfold State.PositionsInForm PlyState.InForm
    exact fun _ p => by cases p <;> decide +kernel
  · unfold State.WithdrawnWithinGood; decide +kernel
  · have low : ∀ j : Fin 13, (run.slotAt j).map (·.disp) ≠ some .opened := by decide +kernel
    intro _ p hp
    have hp0 : p = .p0 := by revert hp; cases p <;> decide +kernel
    subst hp0
    refine ⟨by decide +kernel, fun j slot hj hs ho => ?_⟩
    have hh : (run.ply .p0).unit.headSlot = 12 := by decide +kernel
    exact low ⟨j, by omega⟩ (by simp [hs, ho])
  · decide +kernel

end Sys2Proof.Tests
end

/-! ## The numbers of Chapter 2 -/

namespace Sys2Proof.Machine

/-! ### The digits of a serial -/

/-- The digit of place `i`, counted from 0 at the rightmost digit. -/
theorem digitsFromRight_eq_map_range (w n : Nat) :
    digitsFromRight w n = (List.range w).map fun i => n / 10 ^ i % 10 := by
  induction w generalizing n with
  | zero => rfl
  | succ w ih =>
    simp [digitsFromRight, ih, List.range_succ_eq_map, Nat.pow_succ', Nat.div_div_eq_div_mul]

/-- The leftmost digit first: the digit of place `w`, then those of the places below. -/
theorem digitText_succ (w n : Nat) :
    digitText (w + 1) n = digitChar (n / 10 ^ w % 10) :: digitText w n := by
  simp [digitText, digitsFromRight_eq_map_range, List.range_succ]

theorem digitChar_eq_zero_iff {d : Nat} (hd : d < 10) : digitChar d = 0x30 ↔ d = 0 := by
  interval_cases d <;> decide

/-- A list over the places of `w + 1` digits, leftmost first, begins with place `w`. -/
theorem map_range_places_succ {α : Type} (f : Nat → α) (w : Nat) :
    (List.range (w + 1)).map (fun i => f (w + 1 - 1 - i))
      = f w :: (List.range w).map (fun i => f (w - 1 - i)) := by
  simp only [List.range_succ_eq_map, List.map_cons, List.map_map, Function.comp_def,
    Nat.add_sub_cancel, Nat.sub_zero, Nat.succ_eq_add_one, Nat.sub_add_eq, Nat.sub_right_comm]

theorem digitText_eq_map_range (w n : Nat) :
    digitText w n = (List.range w).map fun i => digitChar (n / 10 ^ (w - 1 - i) % 10) := by
  induction w with
  | zero => rfl
  | succ w ih =>
    rw [digitText_succ, ih, map_range_places_succ fun p => digitChar (n / 10 ^ p % 10)]

/-! ### The fill (R36) -/

/-- R36: the character of place `p` in `w` digits under fill SPACE: a space where this digit and all to
its left are 0, the rightmost place apart. -/
def spaceFilledDigit (w n p : Nat) : Byte :=
  if 0 < p ∧ n % 10 ^ w / 10 ^ p = 0 then 0x20 else digitChar (n / 10 ^ p % 10)

/-- A leftmost digit of 0 leaves the number, and so what is leading, to the places below. -/
theorem spaceFilledDigit_succ_of_zero {w n : Nat} (h : n / 10 ^ w % 10 = 0) (p : Nat) :
    spaceFilledDigit (w + 1) n p = spaceFilledDigit w n p := by
  simp only [spaceFilledDigit, Nat.mod_pow_succ, h, Nat.mul_zero, Nat.add_zero]

/-- Where the leftmost digit is no leading zero, none below it is one. -/
theorem spaceFilledDigit_succ_of_not_leading {w n p : Nat} (h : ¬ (0 < w ∧ n / 10 ^ w % 10 = 0))
    (hp : p ≤ w) : spaceFilledDigit (w + 1) n p = digitChar (n / 10 ^ p % 10) := by
  refine if_neg fun ⟨hp0, hlead⟩ => ?_
  have hd : 0 < n / 10 ^ w % 10 := by omega
  have reaches : 10 ^ p ≤ n % 10 ^ (w + 1) := by
    calc 10 ^ p ≤ 10 ^ w := Nat.pow_le_pow_right (by decide) hp
      _ ≤ 10 ^ w * (n / 10 ^ w % 10) := Nat.le_mul_of_pos_right _ hd
      _ ≤ n % 10 ^ (w + 1) := by rw [Nat.mod_pow_succ]; exact Nat.le_add_left ..
  exact absurd hlead (Nat.div_pos reaches (Nat.pow_pos (by decide))).ne'

/-- In one or more digits, a leftmost 0 becomes a space exactly where a digit follows it. -/
theorem spaceFill_digitText_succ (w n : Nat) :
    spaceFill (digitText (w + 1) n)
      = if 0 < w ∧ n / 10 ^ w % 10 = 0 then 0x20 :: spaceFill (digitText w n)
        else digitText (w + 1) n := by
  cases w with
  | zero => rfl
  | succ w =>
    have hd : n / 10 ^ (w + 1) % 10 < 10 := Nat.mod_lt _ (by decide)
    simp only [digitText_succ, spaceFill, digitChar_eq_zero_iff hd, Nat.succ_pos, true_and]

/-- R36: under fill SPACE the number is its places, leftmost first, each filled by itself. -/
theorem spaceFill_digitText (w n : Nat) :
    spaceFill (digitText w n) = (List.range w).map fun i => spaceFilledDigit w n (w - 1 - i) := by
  induction w with
  | zero => rfl
  | succ w ih =>
    rw [spaceFill_digitText_succ]
    split
    next h =>
      obtain ⟨hw, hd⟩ := h
      have hlead : spaceFilledDigit w n w = 0x20 :=
        if_pos ⟨hw, Nat.div_eq_of_lt (Nat.mod_lt _ (Nat.pow_pos (by decide)))⟩
      simp only [map_range_places_succ, ih, hlead, spaceFilledDigit_succ_of_zero hd]
    next h =>
      rw [digitText_eq_map_range]
      exact List.map_congr_left fun i _ =>
        (spaceFilledDigit_succ_of_not_leading h (by omega)).symm

/-- R36, R37: the number in a field, under either fill. -/
theorem Layout.numberText_eq_map_range (lay : Layout) (n : Nat) :
    lay.numberText n = (List.range lay.width).map fun i =>
      if lay.fill = .space ∧ 0 < lay.width - 1 - i
          ∧ n % 10 ^ lay.width / 10 ^ (lay.width - 1 - i) = 0 then 0x20
      else digitChar (n / 10 ^ (lay.width - 1 - i) % 10) := by
  cases hf : lay.fill with
  | zero => simp [Layout.numberText, hf, digitText_eq_map_range]
  | space => simp [Layout.numberText, hf, spaceFill_digitText, spaceFilledDigit]

/-! ### The check (R31 to R33) -/

/-- A table of weights that covers the field weights each digit by its place. -/
theorem weightedSum_digitsFromRight {m w : Nat} (weight : Nat → Nat) (h : w ≤ m) (n : Nat) :
    weightedSum ((List.range m).map weight) (digitsFromRight w n)
      = ∑ i ∈ Finset.range w, weight i * (n / 10 ^ i % 10) := by
  have hmin : min m w = w := Nat.min_eq_right h
  have hzip : List.zipWith (· * ·) ((List.range m).map weight) (digitsFromRight w n)
      = (List.range w).map fun i => weight i * (n / 10 ^ i % 10) := by
    apply List.ext_getElem <;> simp [digitsFromRight_eq_map_range, hmin]
  rw [weightedSum, hzip]
  rfl

theorem weightsMod10_eq_map_range :
    weightsMod10 = (List.range 10).map fun i => if i % 2 = 0 then 3 else 1 := by decide

theorem weightsMod11_eq_map_range : weightsMod11 = (List.range 10).map fun i => 2 + i % 6 := by
  decide

/-- R31: the check value under MOD10W31, as a sum over the places. -/
theorem Layout.checkValue_of_mod10w31 {lay : Layout} (h : lay.check = .mod10w31)
    (hw : lay.width ≤ 10) (n : Nat) :
    lay.checkValue n = some ((10 - (∑ i ∈ Finset.range lay.width,
      (if i % 2 = 0 then 3 else 1) * (n / 10 ^ i % 10)) % 10) % 10) := by
  rw [Layout.checkValue, h, weightsMod10_eq_map_range, weightedSum_digitsFromRight _ hw]

/-- R32: the check value under MOD11W with either ten-rule, as a sum over the places. -/
theorem Layout.checkValue_of_mod11w {lay : Layout} {rule : TenRule} (h : lay.check = .mod11w rule)
    (hw : lay.width ≤ 10) (n : Nat) :
    lay.checkValue n = some ((11 - (∑ i ∈ Finset.range lay.width,
      (2 + i % 6) * (n / 10 ^ i % 10)) % 11) % 11) := by
  rw [Layout.checkValue, h, weightsMod11_eq_map_range, weightedSum_digitsFromRight _ hw]

/-- R33: the check value under MOD7R, which weights no digit. -/
theorem Layout.checkValue_of_mod7r {lay : Layout} (h : lay.check = .mod7r) (n : Nat) :
    lay.checkValue n = some (n % 7) := by rw [Layout.checkValue, h]

/-- R33: no check value under method NONE. -/
theorem Layout.checkValue_of_none {lay : Layout} (h : lay.check = .none) (n : Nat) :
    lay.checkValue n = none := by rw [Layout.checkValue, h]

/-- R36: the separator and the check character follow where there is a check value. -/
theorem Layout.checkText_of_some {lay : Layout} {n v : Nat} (h : lay.checkValue n = some v) :
    lay.checkText n = lay.separator.toList ++ [checkChar v] := by rw [Layout.checkText, h]

/-- R36: without a check value field A ends with the number. -/
theorem Layout.checkText_of_none {lay : Layout} {n : Nat} (h : lay.checkValue n = none) :
    lay.checkText n = [] := by rw [Layout.checkText, h]

/-- R31, R33: a check value other than 10 is printed as its digit. -/
theorem Layout.checkText_of_ne_ten {lay : Layout} {n v : Nat} (h : lay.checkValue n = some v)
    (hv : v ≠ 10) : lay.checkText n = lay.separator.toList ++ [digitChar v] := by
  rw [checkText_of_some h, checkChar, if_neg hv]

/-- R32: only MOD11W with ten-rule SKIP passes a value over, and only for a check value of 10. -/
theorem Layout.skipsCheck_iff (lay : Layout) (n : Nat) :
    lay.skipsCheck n = true ↔ lay.check = .mod11w .skip ∧ lay.checkValue n = some 10 := by
  cases h : lay.check with
  | none => simp [Layout.skipsCheck, h]
  | mod10w31 => simp [Layout.skipsCheck, h]
  | mod7r => simp [Layout.skipsCheck, h]
  | mod11w rule => cases rule <;> simp [Layout.skipsCheck, h]

/-- R31, R33: under a method other than MOD11W no value is passed over for its check. -/
theorem Layout.skipsCheck_eq_false {lay : Layout} (h : lay.check ≠ .mod11w .skip) (n : Nat) :
    lay.skipsCheck n = false := by
  rw [← Bool.not_eq_true, Layout.skipsCheck_iff]
  exact fun hs => h hs.1

end Sys2Proof.Machine

namespace Sys2Proof.Proofs

open Sys2Proof.Machine

/-- Settles O27, method by method: each has its check value, of which the printed character and the
values passed over follow. -/
theorem checkValuesOfEachMethod : Obligations.CheckValuesOfEachMethod := by
  unfold Obligations.CheckValuesOfEachMethod
  intro lay n hw digit weighted carries
  refine ⟨fun h => ?mod10w31, fun rule h => ?mod11w, fun h => ?mod7r, fun h => ?none, ?texts⟩
  case mod10w31 =>
    intro v
    have hv : v ≤ 9 := by omega
    have hcheck : lay.checkValue n = some v := Layout.checkValue_of_mod10w31 h hw n
    exact ⟨hv, ⟨hcheck, Layout.checkText_of_ne_ten hcheck (by omega)⟩,
      Layout.skipsCheck_eq_false (by simp [h]) n⟩
  case mod11w =>
    intro v
    have hcheck : lay.checkValue n = some v := Layout.checkValue_of_mod11w h hw n
    refine ⟨by omega, ⟨hcheck, Layout.checkText_of_some hcheck⟩, ?_⟩
    rw [Layout.skipsCheck_iff, h, hcheck, CheckMethod.mod11w.injEq, Option.some.injEq]
  case mod7r =>
    have hcheck : lay.checkValue n = some (n % 7) := Layout.checkValue_of_mod7r h n
    exact ⟨⟨hcheck, Layout.checkText_of_ne_ten hcheck (by omega)⟩,
      Layout.skipsCheck_eq_false (by simp [h]) n⟩
  case none =>
    have hcheck : lay.checkValue n = none := Layout.checkValue_of_none h n
    exact ⟨hcheck, Layout.checkText_of_none hcheck, Layout.skipsCheck_eq_false (by simp [h]) n⟩
  case texts =>
    have hnumber := lay.numberText_eq_map_range n
    exact ⟨congrArg (lay.prefixText ++ · ++ lay.checkText n) hnumber, hnumber⟩

end Sys2Proof.Proofs

/-! ## Requests and their payloads -/

namespace Sys2Proof.Machine

/-! ### Taking an admitted request (R166) -/

/-- A request of the right length that R166 admits is decided by the block that owns it, and its answer
joins the link's replies. -/
theorem State.takeRequest_of_admits {s : State} {r : Request} {l : Link} {pl : List Byte}
    (h : s.Admits r l) (hlen : pl.length = requestLength r) (tag : Byte) :
    s.takeRequest r l tag pl = (s.handle r l pl).2.replied l tag r (s.handle r l pl).1 := by
  obtain ⟨hroom, hrestart, howner⟩ := h
  have hfull : s.repliesFull l = false := decide_eq_false (Nat.not_le.mpr hroom)
  have hcontrol : (needsControl r && !decide (s.owner = ownerOf l)) = false := by
    simpa using howner
  have hanswer : s.answer r l pl = s.handle r l pl := by
    simp [State.answer, hlen, hrestart, hcontrol]
  simp [State.takeRequest, hfull, hanswer, State.replied]

/-! ### Numbers in a payload (R176) -/

@[simp] theorem be_length (w n : Nat) : (be w n).length = w := by
  induction w generalizing n with
  | zero => rfl
  | succ w ih => simp [be, ih]

/-- A last byte spells the lowest digit to the base 256. -/
theorem beNat_append_singleton (bs : List Byte) (b : Byte) :
    beNat (bs ++ [b]) = beNat bs * 256 + b.toNat := by simp [beNat]

theorem beNat_be {w n : Nat} (h : n < 256 ^ w) : beNat (be w n) = n := by
  induction w generalizing n with
  | zero => simp_all [be, beNat]
  | succ w ih =>
    have hhigh : beNat (be w (n / 256)) = n / 256 :=
      ih (Nat.div_lt_of_lt_mul (by rwa [← Nat.pow_succ']))
    rw [be, beNat_append_singleton, hhigh, BitVec.toNat_ofNat]
    omega

/-- A number at the front of a payload is its first field. -/
theorem field_be_append {w n : Nat} (h : n < 256 ^ w) (rest : List Byte) :
    field (be w n ++ rest) 0 w = n := by
  rw [field, List.drop_zero, List.take_left' (be_length w n), beNat_be h]

theorem field_be {w n : Nat} (h : n < 256 ^ w) : field (be w n) 0 w = n := by
  simpa using field_be_append h []

/-- The fields behind the number at the front are those of the rest. -/
theorem field_be_append_of_le {w off : Nat} (h : w ≤ off) (n len : Nat) (rest : List Byte) :
    field (be w n ++ rest) off len = field rest (off - w) len := by
  rw [field, List.drop_append, be_length, List.drop_of_length_le (by simpa using h),
    List.nil_append, field]

theorem field_drop (pl : List Byte) (k off len : Nat) :
    field (pl.drop k) off len = field pl (k + off) len := by rw [field, List.drop_drop, field]

/-- A field one byte longer takes that byte as its lowest. -/
theorem field_succ {pl : List Byte} {off len : Nat} (h : off + len < pl.length) :
    field pl off (len + 1) = field pl off len * 256 + (pl.getD (off + len) 0).toNat := by
  have hbyte : (pl.drop off)[len]? = some (pl.getD (off + len) 0) := by simp [h]
  rw [field, List.take_add_one, hbyte, Option.toList_some, beNat_append_singleton, field]

theorem field_one {pl : List Byte} {off : Nat} (h : off < pl.length) :
    field pl off 1 = (pl.getD off 0).toNat := by
  simpa [field, beNat] using field_succ (len := 0) h

theorem field_two {pl : List Byte} {off : Nat} (h : off + 1 < pl.length) :
    field pl off 2 = (pl.getD off 0).toNat * 256 + (pl.getD (off + 1) 0).toNat := by
  rw [field_succ h, field_one (by omega)]

/-! ### The codes of a ply record (Table 9-6) -/

theorem inRange_eq_some_iff {lo hi n m : Nat} :
    inRange lo hi n = some m ↔ (lo ≤ n ∧ n ≤ hi) ∧ n = m := by
  rw [inRange, Option.ite_none_right_eq_some, Option.some_inj]

theorem inRange_of_mem {lo hi n : Nat} (h : lo ≤ n ∧ n ≤ hi) : inRange lo hi n = some n :=
  inRange_eq_some_iff.mpr ⟨h, rfl⟩

theorem plyNumber_le (p : Ply) : plyNumber p ≤ 5 := by cases p <;> decide

@[simp] theorem plyOfNumber_plyNumber (p : Ply) : plyOfNumber (plyNumber p) = some p := by
  cases p <;> rfl

theorem plyOfNumber_le {n : Nat} {p : Ply} (h : plyOfNumber n = some p) : n ≤ 5 := by
  unfold plyOfNumber at h
  split at h <;> simp_all

theorem yesNo_eq_be (b : Bool) : yesNo b = be 1 b.toNat := by cases b <;> rfl

@[simp] theorem yesNoOf_toNat (b : Bool) : yesNoOf b.toNat = some b := by cases b <;> rfl

theorem yesNoOf_le {n : Nat} {b : Bool} (h : yesNoOf n = some b) : n ≤ 1 := by
  unfold yesNoOf at h
  split at h <;> simp_all

theorem PositionSource.code_le (x : PositionSource) : x.code ≤ 1 := by cases x <;> decide

@[simp] theorem sourceOf_code (x : PositionSource) : sourceOf x.code = some x := by cases x <;> rfl

theorem sourceOf_le {n : Nat} {x : PositionSource} (h : sourceOf n = some x) : n ≤ 1 := by
  unfold sourceOf at h
  split at h <;> simp_all

theorem HeadClass.code_le (x : HeadClass) : x.code ≤ 1 := by cases x <;> decide

@[simp] theorem headClassOf_code (x : HeadClass) : headClassOf x.code = some x := by cases x <;> rfl

theorem headClassOf_le {n : Nat} {x : HeadClass} (h : headClassOf n = some x) : n ≤ 1 := by
  unfold headClassOf at h
  split at h <;> simp_all

theorem InhibitSet.byte_lt (i : InhibitSet) : i.byte < 32 := by
  unfold InhibitSet.byte
  have := i.markLoss.toNat_le
  have := i.reverseOverrun.toNat_le
  have := i.headReject.toNat_le
  have := i.headTimeout.toNat_le
  have := i.alignment.toNat_le
  omega

@[simp] theorem inhibitOf_byte (i : InhibitSet) : inhibitOf i.byte = some i := by
  obtain ⟨a, b, c, d, e⟩ := i
  revert a b c d e
  decide

/-- A trim in range is read back from its two's complement. -/
theorem trimInRange_of_mem {t : Int} (h : -65535 ≤ t ∧ t ≤ 65535) :
    trimInRange (t % 16777216).toNat = some t := by
  have hback : trimOf (t % 16777216).toNat = t := by
    unfold trimOf
    split <;> omega
  rw [trimInRange, hback, if_pos h]

/-! ### The payload of SET-PLY (R52) -/

theorem PlyRecord.bytes_length (r : PlyRecord) : r.bytes.length = 23 := by
  simp [PlyRecord.bytes, yesNo_eq_be, trimBytes]

/-- The wire carries every record in range. -/
theorem decodeRecord_bytes {r : PlyRecord} (h : r.InRange) : decodeRecord r.bytes = some r := by
  obtain ⟨hpath, hreader, hsplice, hphase, hwindow, hallow, hpitch, hguard, hload, htrim⟩ := h
  have hactive := r.active.toNat_le
  have hsource := r.source.code_le
  have hsensor := r.splice.isSome.toNat_le
  have hk : r.splice.getD 0 ≤ 15 := by cases hs : r.splice <;> simp_all
  have hclass := r.headClass.code_le
  have hinhibit := r.inhibitSet.byte_lt
  have hkept : (if r.splice.isSome then some (r.splice.getD 0) else none) = r.splice := by
    cases r.splice <;> rfl
  have htrimByte : (r.trim % 16777216).toNat < 256 ^ 3 := by omega
  simp (disch := omega) [decodeRecord, PlyRecord.bytes, yesNo_eq_be, trimBytes, field_be_append,
    field_be_append_of_le, field_be, inRange_of_mem, trimInRange_of_mem, hkept]

/-- SET-PLY's payload is read back as its ply and its record, limited. -/
theorem decodeSetPly_bytes (p : Ply) {r : PlyRecord} (h : r.InRange) :
    decodeSetPly (be 1 (plyNumber p) ++ r.bytes) = some (p, r.limited) := by
  have hp := plyNumber_le p
  have hrest : (be 1 (plyNumber p) ++ r.bytes).drop 1 = r.bytes := List.drop_left' (be_length ..)
  rw [decodeSetPly, field_be_append (by omega), hrest, decodeRecord_bytes h, plyOfNumber_plyNumber]
  rfl

/-- The fields that R52 tests lie in range where a record is read. -/
theorem decodeRecord_fields {pl : List Byte} {r : PlyRecord} (h : decodeRecord pl = some r) :
    field pl 0 1 ≤ 1 ∧ field pl 1 1 ≤ 1 ∧ (1 ≤ field pl 2 1 ∧ field pl 2 1 ≤ 120)
    ∧ field pl 3 1 ≤ 119 ∧ field pl 4 1 ≤ 1 ∧ field pl 5 1 ≤ 15 ∧ field pl 12 1 ≤ 1
    ∧ 1 ≤ field pl 13 2 := by
  simp only [decodeRecord, Option.bind_eq_bind, Option.bind_eq_some_iff, inRange_eq_some_iff] at h
  obtain ⟨_, hactive, _, hsource, _, ⟨hpath, -⟩, _, ⟨hreader, -⟩, _, hsensor, _, ⟨hsplice, -⟩,
    _, hclass, _, ⟨hpitch, -⟩, -⟩ := h
  exact ⟨yesNoOf_le hactive, sourceOf_le hsource, hpath, hreader.2, yesNoOf_le hsensor, hsplice.2,
    headClassOf_le hclass, hpitch.1⟩

/-- A payload with a field that R52 does not take is not read. -/
theorem decodeSetPly_eq_none {pl : List Byte} (hlen : pl.length = 24)
    (hbad : let b := fun i => (pl.getD i 0).toNat
      5 < b 0 ∨ 1 < b 1 ∨ 1 < b 2 ∨ b 3 = 0 ∨ 120 < b 3 ∨ 119 < b 4 ∨ 1 < b 5 ∨ 15 < b 6 ∨ 1 < b 13
        ∨ (b 14 = 0 ∧ b 15 = 0)) :
    decodeSetPly pl = none := by
  rw [Option.eq_none_iff_forall_ne_some]
  intro x hx
  simp only [decodeSetPly, Option.bind_eq_bind, Option.bind_eq_some_iff] at hx
  obtain ⟨p, hp, r, hr, -⟩ := hx
  have hply := plyOfNumber_le hp
  have hfields := decodeRecord_fields hr
  simp (disch := omega) only [field_drop, field_one, field_two, Nat.reduceAdd] at hply hfields
  simp only at hbad
  omega

/-! ### SET-PLY (R52) -/

/-- Outside IDLE no field of SET-PLY is tested. -/
theorem State.setPly_of_not_idle {s : State} (h : s.runState ≠ .idle) (pl : List Byte) :
    s.setPly pl = (.refused .wrongState 0 0, s) := by
  simp [State.setPly, State.inRun, h, refuse]

/-- In IDLE a payload that is not read leaves the records as they are. -/
theorem State.setPly_of_unread {s : State} (h : s.runState = .idle) {pl : List Byte}
    (hread : decodeSetPly pl = none) : s.setPly pl = (.refused .badField 0 0, s) := by
  simp [State.setPly, State.inRun, h, hread, refuse]

/-- In IDLE the record read replaces that of its ply, and is the answer. -/
theorem State.setPly_of_read {s : State} (h : s.runState = .idle) {pl : List Byte} {p : Ply}
    {r : PlyRecord} (hread : decodeSetPly pl = some (p, r)) :
    s.setPly pl = (.done r.bytes, s.modPly p fun ps => { ps with record := r }) := by
  simp [State.setPly, State.inRun, h, hread, done]

/-- An admitted SET-PLY is answered and does as `State.setPly` decides. -/
theorem exec_setPly_of_admits {s : State} {l : Link} (h : s.Admits .setPly l) {pl : List Byte}
    (hlen : pl.length = 24) (tag : Byte) {a : Answer} {t : State} (hset : s.setPly pl = (a, t)) :
    exec (.setPly l tag pl) s = .next (t.replied l tag .setPly a) := by
  have hhandle : s.handle .setPly l pl = (a, t) := hset
  calc exec (.setPly l tag pl) s = .next (s.takeRequest .setPly l tag pl) := rfl
    _ = .next (t.replied l tag .setPly a) := by
      rw [State.takeRequest_of_admits h hlen, hhandle]

end Sys2Proof.Machine

namespace Sys2Proof.Proofs

open Sys2Proof.Machine

/-- Settles O38: the run state decides whether the payload is read, and the payload of a record in
range is read back as that record, limited. -/
theorem setPlyStoresTheRecord : Obligations.SetPlyStoresTheRecord := by
  unfold Obligations.SetPlyStoresTheRecord
  intro l tag s hadmits
  refine ⟨fun p r hr hidle => ?stored, fun pl hlen => ⟨fun hidle hbad => ?badField,
    fun hrun => ?wrongState⟩⟩
  case stored =>
    exact exec_setPly_of_admits hadmits (by simp [PlyRecord.bytes_length]) tag
      (State.setPly_of_read hidle (decodeSetPly_bytes p hr))
  case badField =>
    exact exec_setPly_of_admits hadmits hlen tag
      (State.setPly_of_unread hidle (decodeSetPly_eq_none hlen hbad))
  case wrongState =>
    exact exec_setPly_of_admits hadmits hlen tag (State.setPly_of_not_idle hrun pl)

end Sys2Proof.Proofs

/-! ## HOLD (R152) -/

namespace Sys2Proof.Machine

/-! ### What a cause given leaves (R151) -/

/-- A cause already in the set joins to no effect. -/
theorem HoldCauses.join_of_has {k : HoldCauses} {c : HoldCause} (h : k.has c = true) :
    k.join c = k := by
  obtain ⟨host, fault, sequence, makeups⟩ := k
  cases c <;> simpa [HoldCauses.has, HoldCauses.join, eq_comm] using h

theorem State.giveCause_of_running {s : State} (h : s.runState = .running) (c : HoldCause) :
    s.giveCause c = { s with causes := s.causes.join c, runState := .held }.notifyRunState := by
  simp [State.giveCause, h]

theorem State.giveCause_of_held_of_not_has {s : State} {c : HoldCause} (h : s.runState = .held)
    (hc : s.causes.has c = false) :
    s.giveCause c = { s with causes := s.causes.join c }.notifyRunState := by
  simp [State.giveCause, h, hc]

theorem State.giveCause_of_held_of_has {s : State} {c : HoldCause} (h : s.runState = .held)
    (hc : s.causes.has c = true) : s.giveCause c = s := by
  simp [State.giveCause, h, hc]

theorem State.issuing_iff (s : State) :
    s.issuing = true ↔ s.runState = .running ∨ s.runState = .held := by simp [State.issuing]

/-- A cause given while sets are issued is in the set that results, whether or not it was there. -/
theorem State.giveCause_causes_of_issuing {s : State} (h : s.issuing = true) (c : HoldCause) :
    (s.giveCause c).causes = s.causes.join c := by
  rw [State.issuing_iff] at h
  obtain ⟨-, he⟩ | ⟨-, -, he⟩ | ⟨⟨-, hc⟩ | hr | hr, he⟩ := s.giveCause_cases c
  · rw [he, State.notifyRunState_causes]
  · rw [he, State.notifyRunState_causes]
  · rw [he, HoldCauses.join_of_has hc]
  · simp [hr] at h
  · simp [hr] at h

/-! ### HOLD taken and refused -/

/-- An admitted HOLD is answered and does as `State.requestHold` decides. -/
theorem exec_hold_of_admits {s : State} {l : Link} (h : s.Admits .hold l) (tag : Byte) :
    exec (.hold l tag []) s = .next (s.requestHold.2.replied l tag .hold s.requestHold.1) :=
  congrArg Host.Outcome.next (State.takeRequest_of_admits h rfl tag)

/-- An admitted HOLD gives the cause HOST while sets are issued, and its answer is the set with HOST
joined. -/
theorem exec_hold_of_issuing {s : State} {l : Link} (h : s.Admits .hold l)
    (hi : s.issuing = true) (tag : Byte) :
    exec (.hold l tag []) s = .next
      ((s.giveCause .host).replied l tag .hold (.done (be 1 (s.causes.join .host).byte))) := by
  rw [exec_hold_of_admits h, State.requestHold, if_pos hi, done,
    State.giveCause_causes_of_issuing hi]

/-- An admitted HOLD is refused where no sets are issued. -/
theorem exec_hold_of_not_issuing {s : State} {l : Link} (h : s.Admits .hold l)
    (hi : ¬ s.issuing = true) (tag : Byte) :
    exec (.hold l tag []) s = .next (s.replied l tag .hold (.refused .wrongState 0 0)) := by
  rw [exec_hold_of_admits h, State.requestHold, if_neg hi, refuse]

end Sys2Proof.Machine

namespace Sys2Proof.Proofs

open Sys2Proof.Machine

/-- Settles O45: the run state decides whether HOLD is taken, and the cause HOST given in RUNNING, given
anew in HELD, and given again in HELD is each a case of R151. -/
theorem holdGivesTheCauseHost : Obligations.HoldGivesTheCauseHost := by
  unfold Obligations.HoldGivesTheCauseHost
  intro l tag s hadmits
  refine ⟨fun hrun => ?running, fun hheld hnew => ?joined, fun hheld hagain => ?again,
    fun hout => ?refused⟩
  case running =>
    rw [exec_hold_of_issuing hadmits (s.issuing_iff.mpr (.inl hrun)), State.giveCause_of_running hrun]
    rfl
  case joined =>
    rw [exec_hold_of_issuing hadmits (s.issuing_iff.mpr (.inr hheld)),
      State.giveCause_of_held_of_not_has (c := .host) hheld hnew, State.notifyRunState, hheld]
    rfl
  case again =>
    rw [exec_hold_of_issuing hadmits (s.issuing_iff.mpr (.inr hheld)),
      State.giveCause_of_held_of_has (c := .host) hheld hagain]
    rfl
  case refused =>
    refine exec_hold_of_not_issuing hadmits (fun hi => ?_) tag
    rw [State.issuing_iff] at hi
    obtain hidle | hdraining := hout
    · simp [hidle] at hi
    · simp [hdraining] at hi

end Sys2Proof.Proofs

namespace Sys2Proof.Machine

/-! ## What every act of the press side keeps -/

/-- The pulses on one fire line for one select, newest first. -/
def State.firesOf (s : State) (p : Ply) (sel : Select) : List Output :=
  s.out.filter fun o => decide (o = .fire p sel)

/-- What every act of the press side keeps, the slots at and below the heads apart: the setup, the links,
whether there is a run, and each invariant of the state; a head that is inhibited stays so and fires
nothing. -/
structure PressKeeps (s t : State) : Prop where
  setup : s.SetupKept t
  links : t.links = s.links
  drain : t.drain = s.drain
  inRun : t.inRun = s.inRun
  notices : s.notices.length ≤ Config.noticeCapacity → t.notices.length ≤ Config.noticeCapacity
  makeups : s.MakeupsOrdered → t.MakeupsOrdered
  agrees : s.RunAgrees → t.RunAgrees
  window : s.WindowBounded → t.WindowBounded
  staging : s.StagingBounded → t.StagingBounded
  form : s.PositionsInForm → t.PositionsInForm
  good : t.tallies.good = s.tallies.good
  withdrawn : t.tallies.withdrawn = s.tallies.withdrawn
  inhibit : ∀ p, (s.ply p).head.inhibit = true → (t.ply p).head.inhibit = true
  fires : ∀ p sel, (s.ply p).head.inhibit = true → t.firesOf p sel = s.firesOf p sel

/-- An act of the press side that is whole: it also leaves no OPEN slot at or below a head. -/
structure PressAct (s t : State) : Prop extends PressKeeps s t where
  heads : s.WindowBounded → s.HeadsPassed → t.HeadsPassed

theorem State.SetupKept.refl (s : State) : s.SetupKept s := by simp [State.SetupKept]

theorem State.SetupKept.trans {s t u : State} (h : s.SetupKept t) (k : t.SetupKept u) :
    s.SetupKept u := by
  obtain ⟨h1, h2, h3, hr, h4, h5, h6, h7, h8, h9, h10⟩ := h
  obtain ⟨k1, k2, k3, kr, k4, k5, k6, k7, k8, k9, k10⟩ := k
  exact ⟨k1.trans h1, k2.trans h2, k3.trans h3, fun p => (kr p).trans (hr p), k4.trans h4,
    k5.trans h5, k6.trans h6, k7.trans h7, k8.trans h8, k9.trans h9, k10.trans h10⟩

theorem State.SetupKept.record {s t : State} (h : s.SetupKept t) (p : Ply) :
    (t.ply p).record = (s.ply p).record := by
  obtain ⟨-, -, -, hr, -⟩ := h
  exact hr p

theorem State.SetupKept.params {s t : State} (h : s.SetupKept t) : t.params = s.params := by
  obtain ⟨-, -, -, -, hp, -⟩ := h
  exact hp

theorem State.SetupKept.active {s t : State} (h : s.SetupKept t) (p : Ply) :
    t.active p = s.active p := by
  simp [State.active, h.record p]

theorem State.SetupKept.cutoff {s t : State} (h : s.SetupKept t) : t.cutoff = s.cutoff := by
  simp [State.cutoff, h.params]

namespace PressKeeps

theorem refl (s : State) : PressKeeps s s := by
  constructor <;> simp [State.SetupKept.refl]

theorem trans {s t u : State} (h : PressKeeps s t) (k : PressKeeps t u) : PressKeeps s u where
  setup := h.setup.trans k.setup
  links := k.links.trans h.links
  drain := k.drain.trans h.drain
  inRun := k.inRun.trans h.inRun
  notices := k.notices ∘ h.notices
  makeups := k.makeups ∘ h.makeups
  agrees := k.agrees ∘ h.agrees
  window := k.window ∘ h.window
  staging := k.staging ∘ h.staging
  form := k.form ∘ h.form
  good := k.good.trans h.good
  withdrawn := k.withdrawn.trans h.withdrawn
  inhibit p := k.inhibit p ∘ h.inhibit p
  fires p sel hp := (k.fires p sel (h.inhibit p hp)).trans (h.fires p sel hp)

end PressKeeps

namespace PressAct

theorem refl (s : State) : PressAct s s := ⟨.refl s, fun _ => id⟩

theorem trans {s t u : State} (h : PressAct s t) (k : PressAct t u) : PressAct s u :=
  ⟨h.toPressKeeps.trans k.toPressKeeps, fun hw hp => k.heads (h.window hw) (h.heads hw hp)⟩

theorem foldl {α : Type} {f : State → α → State} (hf : ∀ s a, PressAct s (f s a)) (as : List α)
    (s : State) : PressAct s (as.foldl f s) := by
  induction as generalizing s with
  | nil => exact .refl s
  | cons a as ih => exact (hf s a).trans (ih _)

end PressAct

/-! ### Acts on one ply -/

theorem State.ply_modPly (s : State) (p q : Ply) (f : PlyState → PlyState) :
    (s.modPly p f).ply q = if q = p then f (s.ply p) else s.ply q := by
  by_cases h : q = p
  · subst h; simp
  · simp [h]

/-- A change of one ply that keeps its record and all that its part of the setup says. -/
theorem PressKeeps.modPly {s : State} {p : Ply} {f : PlyState → PlyState}
    (hrecord : (f (s.ply p)).record = (s.ply p).record)
    (hform : (s.ply p).InForm s.cutoff → (f (s.ply p)).InForm s.cutoff)
    (hqueue : (f (s.ply p)).head.queue.length ≤ (s.ply p).head.queue.length)
    (hinhibit : (s.ply p).head.inhibit = true → (f (s.ply p)).head.inhibit = true) :
    PressKeeps s (s.modPly p f) := by
  have hrec : ∀ q, ((s.modPly p f).ply q).record = (s.ply q).record := by
    intro q; rw [State.ply_modPly]; split <;> simp_all
  have hlen : ∀ q, ((s.modPly p f).ply q).head.queue.length ≤ (s.ply q).head.queue.length := by
    intro q; rw [State.ply_modPly]; split <;> simp_all
  constructor
  case setup => simp [State.SetupKept, hrec]
  case window => intro h; simpa [State.WindowBounded, State.windowEnd, hrec] using h
  case staging =>
    intro ⟨hall, hrender⟩
    exact ⟨fun q => (hlen q).trans (hall q), fun r hr => (hlen _).trans_lt (hrender r hr)⟩
  case form =>
    intro h hrun q hq
    have hsq := h hrun q (by simpa [State.active, hrec] using hq)
    rw [State.ply_modPly]
    split
    · subst_vars; exact hform hsq
    · exact hsq
  case inhibit =>
    intro q hq; rw [State.ply_modPly]; split
    · subst_vars; exact hinhibit hq
    · exact hq
  case inRun => rfl
  all_goals simp [State.RunAgrees, State.MakeupsOrdered, State.firesOf]

/-- The head slots and the slots decide whether the heads have passed only slots that are not OPEN. -/
theorem State.HeadsPassed.of_eq {s t : State} (h : s.HeadsPassed) (hrun : t.inRun = s.inRun)
    (hactive : ∀ p, t.active p = s.active p)
    (hhead : ∀ p, (t.ply p).unit.headSlot = (s.ply p).unit.headSlot)
    (hslots : t.slots = s.slots) (hmarriage : t.marriageSlot = s.marriageSlot) : t.HeadsPassed := by
  simpa [State.HeadsPassed, hrun, hactive, hhead, State.windowEnd, hslots, hmarriage,
    State.slotAt_eq_some] using h

theorem PressAct.modPly {s : State} {p : Ply} {f : PlyState → PlyState}
    (hrecord : (f (s.ply p)).record = (s.ply p).record)
    (hhead : (f (s.ply p)).unit.headSlot = (s.ply p).unit.headSlot)
    (hform : (s.ply p).InForm s.cutoff → (f (s.ply p)).InForm s.cutoff)
    (hqueue : (f (s.ply p)).head.queue.length ≤ (s.ply p).head.queue.length)
    (hinhibit : (s.ply p).head.inhibit = true → (f (s.ply p)).head.inhibit = true) :
    PressAct s (s.modPly p f) := by
  have hk : PressKeeps s (s.modPly p f) := .modPly hrecord hform hqueue hinhibit
  refine ⟨hk, fun _ h => h.of_eq hk.inRun hk.setup.active (fun q => ?_) rfl rfl⟩
  rw [State.ply_modPly]; split <;> simp_all

/-- A change of a head that adds nothing to its queue and does not lift an inhibit. -/
theorem PressAct.modHead {s : State} {p : Ply} {f : HeadController → HeadController}
    (hqueue : (f (s.ply p).head).queue.length ≤ (s.ply p).head.queue.length)
    (hinhibit : (s.ply p).head.inhibit = true → (f (s.ply p).head).inhibit = true) :
    PressAct s (s.modHead p f) :=
  .modPly rfl rfl id hqueue hinhibit

/-- A change of a Position Unit that keeps its head slot and its form. -/
theorem PressAct.modUnit {s : State} {p : Ply} {f : PositionUnit → PositionUnit}
    (hhead : (f (s.ply p).unit).headSlot = (s.ply p).unit.headSlot)
    (hform : (s.ply p).InForm s.cutoff →
      { s.ply p with unit := f (s.ply p).unit }.InForm s.cutoff) :
    PressAct s (s.modUnit p f) :=
  .modPly rfl hhead hform le_rfl id

theorem PressAct.modChecker (s : State) (p : Ply) (f : Checker → Checker) :
    PressAct s (s.modChecker p f) :=
  .modPly rfl rfl id le_rfl id

/-! ### Acts on the slots, the window standing -/

/-- The slots changed in their places, none of them made OPEN at or below an active head. -/
theorem PressAct.ofSlots {s : State} {l : List Slot} (hlen : l.length = s.slots.length)
    (hopen : ∀ i y, l[i]? = some y → y.disp = .opened →
      (∃ x, s.slots[i]? = some x ∧ x.disp = .opened) ∨ s.aboveHeads (s.marriageSlot + i) = true) :
    PressAct s { s with slots := l } := by
  have hnil : s.slots = [] → l = [] := by
    intro h; simpa [h] using hlen
  constructor
  case heads =>
    intro hw hp hrun p hactive
    obtain ⟨hend, hdisp⟩ := hp hrun p hactive
    refine ⟨by simpa [State.windowEnd, State.ply, hlen] using hend, fun j slot hj hslot hopened => ?_⟩
    obtain ⟨hm, hl⟩ := State.slotAt_eq_some.1 hslot
    obtain ⟨x, hx, hxo⟩ | habove := hopen _ _ hl hopened
    · exact hdisp j x hj (State.slotAt_eq_some.2 ⟨hm, hx⟩) hxo
    · have hlt : (s.ply p).unit.headSlot < s.marriageSlot + (j - s.marriageSlot) := by
        simp only [State.aboveHeads, State.activePlies, List.all_eq_true, List.mem_filter,
          decide_eq_true_eq] at habove
        exact habove p ⟨plyOrder_mem p, hactive⟩
      have hj : j ≤ (s.ply p).unit.headSlot := hj
      have hm : s.marriageSlot ≤ j := hm
      omega
  constructor
  case agrees =>
    intro ⟨h1, h2, h3, h4⟩
    exact ⟨h1, h2, h3, fun hi => ⟨hnil (h4 hi).1, (h4 hi).2⟩⟩
  case window => intro h; simpa [State.WindowBounded, State.windowEnd, hlen, State.ply] using h
  all_goals simp [State.SetupKept, State.inRun, State.MakeupsOrdered, State.StagingBounded,
    State.PositionsInForm, State.active, State.ply, State.cutoff, State.firesOf]

theorem PressAct.modSlot {s : State} {j : Nat} {f : Slot → Slot}
    (h : ∀ x, (f x).disp = .opened → x.disp = .opened) : PressAct s (s.modSlot j f) := by
  unfold State.modSlot
  split
  · exact .refl s
  · refine .ofSlots (by simp) fun i y hy hopened => .inl ?_
    rw [List.getElem?_modify] at hy
    cases hx : s.slots[i]? with
    | none => simp [hx] at hy
    | some x =>
      simp only [hx, Option.map_eq_map, Option.map_some, Option.some.injEq] at hy
      refine ⟨x, rfl, ?_⟩
      subst hy
      split at hopened
      · exact h x hopened
      · exact hopened

theorem PressAct.modSub (s : State) (j : Nat) (p : Ply) (f : SubRecord → SubRecord) :
    PressAct s (s.modSub j p f) := .modSlot fun _ => id

/-! ### Acts on the books: run state and causes, notices, cursor, list, tallies -/

/-- A state with the books of another: its run state, causes, notices, cursor, batch flag, list and
tallies. -/
def State.withBooks (s t : State) : State :=
  { s with
    runState := t.runState, causes := t.causes, notices := t.notices, withheld := t.withheld
    cursor := t.cursor, batch := t.batch, makeups := t.makeups, tallies := t.tallies }

/-- A change of the books alone. -/
theorem PressAct.ofBooks {s t : State} (hbooks : t = s.withBooks t) (hrun : t.inRun = s.inRun)
    (hnotices : s.notices.length ≤ Config.noticeCapacity → t.notices.length ≤ Config.noticeCapacity)
    (hmakeups : s.MakeupsOrdered → t.MakeupsOrdered) (hagrees : s.RunAgrees → t.RunAgrees)
    (hgood : t.tallies.good = s.tallies.good)
    (hwithdrawn : t.tallies.withdrawn = s.tallies.withdrawn) : PressAct s t := by
  have hplies : t.plies = s.plies := by rw [hbooks]; rfl
  have hply : ∀ p, t.ply p = s.ply p := fun p => by simp [State.ply, hplies]
  have hslots : t.slots = s.slots := by rw [hbooks]; rfl
  have hmarriage : t.marriageSlot = s.marriageSlot := by rw [hbooks]; rfl
  have hparams : t.params = s.params := by rw [hbooks]; rfl
  have hrender : t.render = s.render := by rw [hbooks]; rfl
  have hout : t.out = s.out := by rw [hbooks]; rfl
  have hsetup : s.SetupKept t := by
    rw [hbooks]; simp [State.SetupKept, State.withBooks, State.ply]
  constructor
  case heads =>
    exact fun _ h => h.of_eq hrun hsetup.active (fun p => by rw [hply]) hslots hmarriage
  constructor
  case links => rw [hbooks]; rfl
  case drain => rw [hbooks]; rfl
  case window => simp [State.WindowBounded, State.windowEnd, hslots, hmarriage, hply]
  case staging => simp [State.StagingBounded, hrender, hply]
  case form =>
    simp [State.PositionsInForm, hrun, hsetup.active, hply, hsetup.cutoff]
  case inhibit => simp [hply]
  case fires => simp [State.firesOf, hout]
  all_goals assumption

theorem PressAct.notify (s : State) (n : Notice) : PressAct s (s.notify n) := by
  have h := s.notify_only n
  refine .ofBooks (by rw [h]; rfl) (by simp [State.inRun]) (fun hb => State.notify_bounded hb n) ?_ ?_
    (by simp) (by simp)
  · simp [State.MakeupsOrdered]
  · simp [State.RunAgrees]

theorem PressAct.notifyRunState (s : State) : PressAct s s.notifyRunState := .notify _ _

theorem PressAct.giveCause (s : State) (c : HoldCause) : PressAct s (s.giveCause c) := by
  obtain ⟨hr, he⟩ | ⟨hr, -, he⟩ | ⟨-, he⟩ := s.giveCause_cases c <;> rw [he]
  · refine PressAct.trans (t := { s with causes := s.causes.join c, runState := .held }) ?_
      (.notifyRunState _)
    refine .ofBooks rfl (by simp [State.inRun, hr]) id id ?_ rfl rfl
    simp [State.RunAgrees, hr]
  · refine PressAct.trans (t := { s with causes := s.causes.join c }) ?_ (.notifyRunState _)
    refine .ofBooks rfl rfl id id ?_ rfl rfl
    simp [State.RunAgrees, hr]
  · exact .refl s

end Sys2Proof.Machine

namespace Sys2Proof.Machine

/-! ### The Recovery Logic -/

/-- R136: what follows a join. -/
theorem PressAct.afterJoin (s : State) : PressAct s s.afterJoin := by
  have hcause : PressAct s (if decide (Config.makeupHigh ≤ s.makeups.length) && !s.batch then
      s.giveCause .makeups else s) := by
    split
    · exact .giveCause s _
    · exact .refl s
  unfold State.afterJoin
  dsimp only
  split
  · exact hcause.trans (.notify _ _)
  · exact hcause

/-- R137: the batch flag is set only with a make-up in the list. -/
theorem PressAct.batchAtJoin {s : State} (h : s.makeups ≠ []) : PressAct s s.batchAtJoin := by
  unfold State.batchAtJoin
  split
  · refine .ofBooks rfl rfl id id ?_ rfl rfl
    rintro ⟨h1, h2, -, h4⟩
    exact ⟨h1, h2, fun _ _ => h, h4⟩
  · exact .refl s

theorem insertEntry_ne_nil (e : MakeupEntry) (l : List MakeupEntry) : insertEntry e l ≠ [] := by
  intro h
  simpa [h] using insertEntry_length e l

/-- R135: a join. -/
theorem PressAct.joinMakeup (s : State) (e : MakeupEntry) : PressAct s (s.joinMakeup e).2 := by
  have hordered : s.MakeupsOrdered → (s.joinMakeup e).2.MakeupsOrdered :=
    fun h => State.joinMakeup_ordered h e
  obtain ⟨-, he⟩ | ⟨-, -, he⟩ | ⟨-, -, he⟩ := s.joinMakeup_cases e
  · rw [he]; exact .refl s
  · rw [he]; exact .refl s
  · rw [he] at hordered ⊢
    have hinsert : PressAct s { s with makeups := insertEntry e s.makeups } := by
      refine .ofBooks rfl rfl id ?_ ?_ rfl rfl
      · intro h
        simpa [State.MakeupsOrdered] using hordered h
      · rintro ⟨h1, h2, -, h4⟩
        exact ⟨h1, h2, fun _ _ => insertEntry_ne_nil _ _, h4⟩
    refine (hinsert.trans (.afterJoin _)).trans (.batchAtJoin ?_)
    simp [insertEntry_ne_nil]

theorem PressAct.joinAll (es : List MakeupEntry) (s : State) :
    PressAct s (State.joinAll es s).2.2 := by
  induction es generalizing s with
  | nil => exact .refl s
  | cons e es ih =>
    have hjoin := PressAct.joinMakeup s e
    unfold State.joinAll
    split <;> rename_i s1 he <;> rw [he] at hjoin <;> exact hjoin.trans (ih s1)

/-- A make-up list with entries taken out keeps its order. -/
theorem State.MakeupsOrdered.filter {s t : State} (h : s.MakeupsOrdered) (keep : MakeupEntry → Bool)
    (ht : t.makeups = s.makeups.filter keep) : t.MakeupsOrdered := by
  obtain ⟨hlen, hord⟩ := h
  rw [State.MakeupsOrdered, ht]
  exact ⟨(List.length_filter_le _ _).trans hlen, hord.sublist (List.filter_sublist.map _)⟩

/-- R130 step 1: removals clear the batch flag with the last entry. -/
theorem PressAct.removeRecalled (s : State) (us : List Undone) : PressAct s (s.removeRecalled us) := by
  refine .ofBooks rfl rfl id (fun h => h.filter _ rfl) ?_ rfl rfl
  rintro ⟨h1, h2, -, h4⟩
  refine ⟨h1, h2, fun _ hb => ?_, h4⟩
  simp only [State.removeRecalled, Bool.and_eq_true, Bool.not_eq_true', List.isEmpty_eq_false_iff] at hb ⊢
  exact hb.2

theorem PressAct.setCursor (s : State) (c : Option Cursor) : PressAct s { s with cursor := c } :=
  .ofBooks rfl rfl id id id rfl rfl

theorem PressAct.restoreCursor (s : State) (cb : CursorBefore) : PressAct s (s.restoreCursor cb) :=
  .setCursor s _

/-- R130, R131: the bookkeeping of a rewind or an abort. -/
theorem PressAct.bookkeeping (s : State) (us : List Undone) : PressAct s (s.bookkeeping us).1 := by
  have hlist := (PressAct.removeRecalled s us).trans (.joinAll (givenBack us) _)
  unfold State.bookkeeping
  dsimp only
  split
  · exact hlist.trans (.restoreCursor _ _)
  · exact hlist

/-- What a change of every ply's queue and load leaves alone. -/
theorem PressAct.ofHeads {s : State} {f : Ply → PlyState → PlyState}
    (h : ∀ p ps, ∃ q l, q.length ≤ ps.head.queue.length ∧
      f p ps = { ps with head := { ps.head with queue := q, load := l } }) :
    PressAct s { s with plies := s.plies.map f } := by
  have hply : ∀ p, State.ply { s with plies := s.plies.map f } p = f p (s.ply p) := fun p => by
    simp [State.ply]
  have hkeep : ∀ p, (f p (s.ply p)).record = (s.ply p).record
      ∧ (f p (s.ply p)).unit = (s.ply p).unit ∧ (f p (s.ply p)).run = (s.ply p).run
      ∧ (f p (s.ply p)).head.inhibit = (s.ply p).head.inhibit := fun p => by
    obtain ⟨q, l, -, he⟩ := h p (s.ply p)
    simp [he]
  have hlen : ∀ p, (f p (s.ply p)).head.queue.length ≤ (s.ply p).head.queue.length := fun p => by
    obtain ⟨q, l, hq, he⟩ := h p (s.ply p)
    simpa [he] using hq
  have hactive : ∀ p, State.active { s with plies := s.plies.map f } p = s.active p := fun p => by
    simp only [State.active, hply, hkeep]
  constructor
  case heads =>
    exact fun _ hp => hp.of_eq rfl hactive (fun p => by rw [hply, (hkeep p).2.1]) rfl rfl
  constructor
  case setup => simp [State.SetupKept, hply, hkeep]
  case window => simp [State.WindowBounded, State.windowEnd, hply, hkeep]
  case staging =>
    intro ⟨hall, hrender⟩
    exact ⟨fun p => by rw [hply]; exact (hlen p).trans (hall p),
      fun r hr => by rw [hply]; exact (hlen _).trans_lt (hrender r hr)⟩
  case form =>
    intro hf hrun p hp
    have hin := hf hrun p (by rwa [← hactive p])
    rw [hply]
    simpa only [PlyState.InForm, PlyState.allowance, hkeep, State.cutoff] using hin
  case inhibit => simp [hply, hkeep]
  all_goals simp [State.inRun, State.RunAgrees, State.MakeupsOrdered, State.firesOf]

theorem State.testLoaded_eq (s : State) (h : HeadController) :
    ∃ l, s.testLoaded h = { h with load := l } := by
  unfold State.testLoaded
  split
  · split
    · exact ⟨_, rfl⟩
    · exact ⟨.empty, rfl⟩
  · exact ⟨_, rfl⟩
  · exact ⟨_, rfl⟩

/-- R74, R80: a flush takes entries and images, and nothing else of a head. -/
theorem PressAct.flush (s : State) (u : Nat) : PressAct s (s.flush u) := by
  refine .ofHeads fun p ps => ?_
  split
  · obtain ⟨l, he⟩ := s.testLoaded_eq (ps.head.dropFrom u)
    exact ⟨_, l, List.length_filter_le _ _, by rw [he]; rfl⟩
  · exact ⟨_, _, le_rfl, rfl⟩

theorem PressAct.testAllLoaded (s : State) : PressAct s s.testAllLoaded := by
  refine .ofHeads fun p ps => ?_
  split
  · obtain ⟨l, he⟩ := s.testLoaded_eq ps.head
    exact ⟨_, l, le_rfl, by rw [he]⟩
  · exact ⟨_, _, le_rfl, rfl⟩

theorem Slot.makeVoid_not_opened {x : Slot} {r : VoidReason} (h : (x.makeVoid r).disp = .opened) :
    x.disp = .opened := by
  unfold Slot.makeVoid at h
  split at h <;> simp_all

theorem Slot.makeSkip_not_opened {x : Slot} : x.makeSkip.disp ≠ .opened := by simp [Slot.makeSkip]

/-- R129: a rewind makes OPEN only slots above every active head slot. -/
theorem Slot.rewound_opened {x : Slot} {above : Bool} (h : (x.rewound above).disp = .opened) :
    x.disp = .opened ∨ above = true := by
  unfold Slot.rewound at h
  split at h
  · split at h
    · exact .inl (Slot.makeVoid_not_opened h)
    · split at h
      · exact .inr ‹_›
      · exact absurd h Slot.makeSkip_not_opened
  · exact .inl h

theorem PressAct.rewindSlots (s : State) (u : Nat) : PressAct s (s.rewindSlots u) := by
  refine .ofSlots (by simp) fun i y hy hopened => ?_
  rw [List.getElem?_mapIdx] at hy
  obtain ⟨x, hx, rfl⟩ := Option.map_eq_some_iff.1 hy
  split at hopened
  · exact (Slot.rewound_opened hopened).imp (fun h => ⟨x, hx, h⟩) id
  · exact .inl ⟨x, hx, hopened⟩

/-- Section 7.4: a rewind. -/
theorem PressAct.rewind (s : State) (u : Nat) (init : Option Undone) :
    PressAct s (s.rewind u init).1 :=
  ((PressAct.rewindSlots s u).trans (.bookkeeping _ _)).trans (.flush _ _)

theorem PressAct.setTallies {s : State} {t : Tallies} (hgood : t.good = s.tallies.good)
    (hwithdrawn : t.withdrawn = s.tallies.withdrawn) : PressAct s { s with tallies := t } :=
  .ofBooks rfl rfl id id id hgood hwithdrawn

theorem PressAct.rollbackSpoil (s : State) (j : Nat) (mark : SpoilMark) (b : Binding) :
    PressAct s (s.rollbackSpoil j mark b) := by
  have hvoid : PressAct s (s.modSlot j fun slot => slot.makeVoid (.spoil mark)) :=
    .modSlot fun _ => Slot.makeVoid_not_opened
  have hrewind := hvoid.trans (.rewind _ (j + 1) (some ⟨b, false⟩))
  unfold State.rollbackSpoil
  dsimp only
  refine ((hrewind.trans ?_).trans (.notify _ _)).trans (.notify _ _)
  exact .setTallies rfl rfl

theorem Slot.setSpoilPending_opened {x : Slot} {mark : SpoilMark}
    (h : (x.setSpoilPending mark).disp = .opened) : x.disp = .opened := by
  unfold Slot.setSpoilPending at h
  split at h <;> simp_all

theorem PressAct.deferSpoil (s : State) (j : Nat) (mark : SpoilMark) (b : Binding) :
    PressAct s (s.deferSpoil j mark b) := by
  have hpending : PressAct s (s.modSlot j fun slot => slot.setSpoilPending mark) :=
    .modSlot fun _ => Slot.setSpoilPending_opened
  exact (hpending.trans (.joinMakeup _ _)).trans (.notify _ _)

/-- R124: a spoil. -/
theorem PressAct.takeSpoil (s : State) (j : Nat) (mark : SpoilMark) :
    PressAct s (s.takeSpoil j mark) := by
  obtain ⟨-, he⟩ | ⟨_, -, -, he⟩ | ⟨_, b, -, -, ⟨-, -, he⟩ | ⟨-, he⟩⟩ := s.takeSpoil_cases j mark <;>
    rw [he]
  · exact .refl s
  · exact .modSub s _ _ _
  · exact .rollbackSpoil s j mark b
  · exact .deferSpoil s j mark b

theorem PressAct.takeSpoils (s : State) (j : Nat) (marks : List SpoilMark) :
    PressAct s (s.takeSpoils j marks) := .foldl (fun s m => .takeSpoil s j m) marks s

/-- R133: a splice. -/
theorem PressAct.takeSplice (s : State) (p : Ply) (j : Nat) : PressAct s (s.takeSplice p j) := by
  have hskip : ∀ u : State, PressAct u (u.modSlot j Slot.makeSkip) :=
    fun u => .modSlot fun _ h => absurd h Slot.makeSkip_not_opened
  have hflag : PressAct s (s.setSplice j p) := .modSub s _ _ _
  unfold State.takeSplice
  split
  · exact .refl s
  · dsimp only
    split
    · exact (hflag.trans (hskip _)).trans (.notify _ _)
    · exact hflag
    · exact hflag
    · split
      · exact hflag.trans (.takeSpoil _ _ _)
      · exact hflag.trans (((hskip _).trans (.rewind _ _ _)).trans (.notify _ _))

/-! ### Faults -/

/-- R158, R159: a fault. -/
theorem PressAct.raiseFault (s : State) (p : Ply) (r : FaultReport) :
    PressAct s (s.raiseFault p r) := by
  have hcapture : PressAct s (s.modPly p fun ps =>
      { ps with
        capture := some (recordCapture ps.capture r)
        head := { ps.head with
          inhibit := ps.head.inhibit || (s.ply p).record.inhibitSet.has r.kind } }) :=
    .modPly rfl rfl id le_rfl fun h => by simp [h]
  have hnotice := hcapture.trans (.notify _ (.plyFault p r (decide ((s.ply p).capture = none))
    ((s.ply p).record.inhibitSet.has r.kind)))
  unfold State.raiseFault
  dsimp only
  split
  · exact hnotice.trans (.giveCause _ _)
  · exact hnotice

/-! ### Creation and retirement -/

/-- Slots added at the top, for which there is room in a run. -/
theorem PressAct.addSlots {s : State} {l : List Slot} (hrun : l ≠ [] → s.inRun = true)
    (hroom : s.slots.length + l.length ≤ Config.windowCapacity ∨ l = [])
    (htop : s.windowEnd + l.length ≤ Config.maxSetIndex + 1 ∨ l = []) :
    PressAct s { s with slots := s.slots ++ l } := by
  constructor
  case heads =>
    intro hw hp hr p hactive
    obtain ⟨hend, hdisp⟩ := hp hr p hactive
    have hend : (s.ply p).unit.headSlot < s.marriageSlot + s.slots.length := hend
    refine ⟨by simp [State.windowEnd, State.ply] at *; omega, fun j slot hj hslot => ?_⟩
    have hj : j ≤ (s.ply p).unit.headSlot := hj
    obtain ⟨hm, hl⟩ := State.slotAt_eq_some.1 hslot
    have hm : s.marriageSlot ≤ j := hm
    dsimp only at hl
    rw [List.getElem?_append_left (by omega)] at hl
    exact hdisp j slot hj (State.slotAt_eq_some.2 ⟨hm, hl⟩)
  constructor
  case agrees =>
    intro ⟨h1, h2, h3, h4⟩
    refine ⟨h1, h2, h3, fun hi => ?_⟩
    have hnil : l = [] := by
      by_contra hl
      simp [State.inRun] at hrun
      exact hrun hl hi
    simpa [hnil] using h4 hi
  case window =>
    intro ⟨h1, h2, h3⟩
    refine ⟨?_, ?_, h3⟩
    · rcases hroom with h | h
      · simpa using h
      · simpa [h] using h1
    · rcases htop with h | h
      · simp [State.windowEnd] at *; omega
      · simpa [State.windowEnd, h] using h2
  all_goals simp [State.SetupKept, State.inRun, State.MakeupsOrdered, State.StagingBounded,
    State.PositionsInForm, State.active, State.ply, State.cutoff, State.firesOf]

/-- R16: a creation. -/
theorem PressAct.create (s : State) (j : Nat) : PressAct s (s.create j) := by
  obtain ⟨hr, he⟩ | ⟨-, he⟩ := s.create_cases j <;> rw [he]
  · simp only [State.hasRoom, Bool.and_eq_true, decide_eq_true_eq] at hr
    obtain ⟨⟨hrun, htop⟩, hroom⟩ := hr
    refine .addSlots (fun _ => hrun) ?_ ?_
    · by_cases h : j + 1 ≤ s.windowEnd
      · right; simp; omega
      · left; simp [State.windowEnd] at *; omega
    · by_cases h : j + 1 ≤ s.windowEnd
      · right; simp; omega
      · left; simp; omega
  · exact .refl s

theorem PressAct.askSlot (s : State) (p : Ply) : PressAct s (s.askSlot p) := by
  unfold State.askSlot
  split
  · exact .create s _
  · exact .refl s

/-- R22: the slot at the marriage slot leaves the table. -/
theorem PressAct.dropSlot {s : State} (h : s.slots ≠ []) : PressAct s s.dropSlot := by
  have hlen : 0 < s.slots.length := List.length_pos_iff.2 h
  constructor
  case heads =>
    intro hw hp hr p hactive
    obtain ⟨hend, hdisp⟩ := hp hr p hactive
    refine ⟨by simp [State.windowEnd, State.ply] at *; omega, fun j slot hj hslot => ?_⟩
    obtain ⟨hm, hl⟩ := State.slotAt_eq_some.1 hslot
    simp only [State.dropSlot_marriageSlot, State.dropSlot_slots, List.getElem?_drop] at hm hl
    refine hdisp j slot hj (State.slotAt_eq_some.2 ⟨by omega, ?_⟩)
    rwa [show 1 + (j - (s.marriageSlot + 1)) = j - s.marriageSlot by omega] at hl
  constructor
  case agrees =>
    intro ⟨h1, h2, h3, h4⟩
    exact ⟨h1, h2, h3, fun hi => absurd (h4 hi).1 h⟩
  case window =>
    intro ⟨h1, h2, h3⟩
    refine ⟨?_, ?_, h3⟩
    · simp; omega
    · simp [State.windowEnd] at *; omega
  case inRun => rfl
  case form => exact id
  all_goals simp [State.SetupKept, State.MakeupsOrdered, State.StagingBounded, State.ply,
    State.firesOf]

/-- R22: a retirement. -/
theorem PressAct.retireSlot {s : State} (h : s.slots ≠ []) : PressAct s s.retireSlot :=
  (PressAct.dropSlot h).trans (.foldl .askSlot _ _)

/-- R19: a force-retire. -/
theorem PressAct.forceRetire (s : State) (p : Ply) : PressAct s (s.forceRetire p) := by
  unfold State.forceRetire
  split
  · exact .refl s
  · rename_i slot rest hs
    dsimp only
    have hretire := ((PressAct.retireSlot (s := s) (by simp [hs])).trans
      (.raiseFault _ p { kind := .alignment, index := s.marriageSlot
                         position := (s.ply p).unit.position, cause := none
                         retired := some (slot.disp, slot.touched) })).trans
      (.setTallies (t := Tallies.retireVoid _) rfl rfl)
    split
    · exact hretire.trans (.joinMakeup _ _)
    all_goals exact hretire

end Sys2Proof.Machine

namespace Sys2Proof.Machine

/-! ### Heads -/

theorem HeadController.giveUp_queue (h : HeadController) (j : Nat) : (h.giveUp j).queue = h.queue := by
  unfold HeadController.giveUp
  split
  · split <;> rfl
  · rfl
  · rfl

theorem HeadController.giveUp_inhibit (h : HeadController) (j : Nat) :
    (h.giveUp j).inhibit = h.inhibit := by
  unfold HeadController.giveUp
  split
  · split <;> rfl
  · rfl
  · rfl

/-- Something sent that is no pulse on the fire line of an inhibited head. -/
theorem PressAct.emit {s : State} {o : Output}
    (h : ∀ p sel, (s.ply p).head.inhibit = true → o ≠ .fire p sel) : PressAct s (s.emit o) := by
  constructor
  case heads => exact fun _ => id
  constructor
  case fires => intro p sel hp; simp [State.firesOf, State.emit, h p sel hp]
  case inRun => rfl
  case form => exact id
  case window => exact id
  all_goals simp [State.SetupKept, State.MakeupsOrdered, State.StagingBounded, State.ply,
    State.RunAgrees]

/-- R86: the head with one impression of its plan FIRED and the guard set. -/
def PlyState.firedHead (ps : PlyState) (sel : Select) : HeadController :=
  { ps.head.modImp sel (fun i => { i with state := .fired }) with guardCount := ps.guardInForce }

/-- R86: the head after a firing: the image given up with the last impression. -/
def PlyState.headAfterFiring (ps : PlyState) (sel : Select) : HeadController :=
  if (ps.firedHead sel).allFired then (ps.firedHead sel).giveUp ps.unit.headSlot else ps.firedHead sel

/-- R86: the state after a firing, before an error above the tolerance is spoiled. -/
def State.firedState (s : State) (p : Ply) (sel : Select) : State :=
  ((s.modHead p fun _ => (s.ply p).headAfterFiring sel).emit (.fire p sel)).modSub
    (s.ply p).unit.headSlot p fun r =>
      r.fire ((s.ply p).head.errorOf sel)
        (s.exceedsTolerance (s.ply p).unit.headSlot ((s.ply p).head.errorOf sel))
        ((s.ply p).firedHead sel).allFired

theorem State.fireImpression_eq (s : State) (p : Ply) (sel : Select) :
    s.fireImpression p sel =
      if s.exceedsTolerance (s.ply p).unit.headSlot ((s.ply p).head.errorOf sel) then
        (s.firedState p sel).takeSpoil (s.ply p).unit.headSlot ⟨.misplace, p⟩
      else s.firedState p sel := rfl

theorem PlyState.headAfterFiring_queue (ps : PlyState) (sel : Select) :
    (ps.headAfterFiring sel).queue = ps.head.queue := by
  unfold PlyState.headAfterFiring
  split
  · rw [HeadController.giveUp_queue]; rfl
  · rfl

theorem PlyState.headAfterFiring_inhibit (ps : PlyState) (sel : Select) :
    (ps.headAfterFiring sel).inhibit = ps.head.inhibit := by
  unfold PlyState.headAfterFiring
  split
  · rw [HeadController.giveUp_inhibit]; rfl
  · rfl

/-- R86: an impression fires on a head that is not inhibited. -/
theorem PressAct.fireImpression {s : State} {p : Ply} (h : (s.ply p).head.inhibit = false)
    (sel : Select) : PressAct s (s.fireImpression p sel) := by
  have hhead : PressAct s (s.modHead p fun _ => (s.ply p).headAfterFiring sel) :=
    .modHead (by rw [PlyState.headAfterFiring_queue])
      (by rw [PlyState.headAfterFiring_inhibit]; exact id)
  have hfire : PressAct s (s.firedState p sel) := by
    refine (hhead.trans (.emit fun q sel' hq he => ?_)).trans (.modSub _ _ _ _)
    injection he with hp
    subst hp
    simp [State.modHead, PlyState.headAfterFiring_inhibit, h] at hq
  rw [State.fireImpression_eq]
  split
  · exact hfire.trans (.takeSpoil _ _ _)
  · exact hfire

/-- R85 tests 2 to 4: a form closed. -/
theorem PressAct.closeForm {s : State} {p : Ply} {f : HeadController → HeadController}
    (hqueue : ∀ h, (f h).queue.length ≤ h.queue.length) (hinhibit : ∀ h, (f h).inhibit = h.inhibit)
    (print : PrintState) (reason : Reason) : PressAct s (s.closeForm p f print reason) := by
  have hhead : PressAct s (s.modHead p fun h => f h.dropUnfired) :=
    .modHead (hqueue _) (by rw [hinhibit]; exact id)
  exact (hhead.trans (.modSub _ _ _ _)).trans (.takeSpoil _ _ _)

/-- R85: the tests made of an impression that is due. -/
theorem PressAct.impressionDue (s : State) (p : Ply) (sel : Select) :
    PressAct s (s.impressionDue p sel) := by
  unfold State.impressionDue
  dsimp only
  split
  · exact .modHead (by simp [HeadController.giveUp_queue, HeadController.modImp])
      (by simp [HeadController.giveUp_inhibit, HeadController.modImp])
  split
  · exact .closeForm (by simp [HeadController.giveUp_queue]) (by simp [HeadController.giveUp_inhibit]) _ _
  split
  · exact .closeForm (by simp [HeadController.giveUp_queue]) (by simp [HeadController.giveUp_inhibit]) _ _
  split
  · exact .closeForm (by simp [HeadController.closeUnready]) (by simp [HeadController.closeUnready]) _ _
  split
  · exact .modHead le_rfl id
  · exact .fireImpression (by simpa using ‹¬ (s.ply p).head.inhibit = true›) sel

theorem PressAct.fallDue (s : State) (p : Ply) (sel : Select) : PressAct s (s.fallDue p sel) := by
  unfold State.fallDue
  split
  · exact .impressionDue s p sel
  · exact .refl s

theorem PressAct.fallDueAll (s : State) (p : Ply) (sels : List Select) :
    PressAct s (s.fallDueAll p sels) := .foldl (fun s sel => .fallDue s p sel) sels s

theorem PressAct.reachPhase (s : State) (p : Ply) (x : Nat) : PressAct s (s.reachPhase p x) :=
  .fallDueAll s p _

theorem PressAct.takeUpDeferred (s : State) (p : Ply) : PressAct s (s.takeUpDeferred p) := by
  unfold State.takeUpDeferred
  split
  · exact .refl s
  · refine PressAct.trans ?_ (.impressionDue _ _ _)
    exact .modHead le_rfl id

theorem PressAct.advanceGuard (s : State) (p : Ply) : PressAct s (s.advanceGuard p) := by
  have hadvance : PressAct s (s.modHead p HeadController.advance) := .modHead le_rfl id
  unfold State.advanceGuard
  dsimp only
  split
  · exact hadvance.trans (.takeUpDeferred _ _)
  · exact hadvance

theorem PressAct.forwardSnap (s : State) (p : Ply) (x e : Nat) : PressAct s (s.forwardSnap p x e) := by
  refine PressAct.trans ?_ (.fallDueAll _ _ _)
  exact .modHead le_rfl id

theorem PressAct.backwardOver (s : State) (p : Ply) (d : Nat) (i : Impression) :
    PressAct s (s.backwardOver p d i) := by
  have hraise : ∀ f : Impression → Impression,
      PressAct s (s.modHead p fun h => h.modImp i.select f) := fun f => .modHead le_rfl id
  unfold State.backwardOver
  dsimp only
  split
  · exact .refl s
  · exact .refl s
  · exact hraise _
  · split
    · exact ((hraise _).trans (.modSub _ _ _ _)).trans (.takeSpoil _ _ _)
    · exact (hraise _).trans (.modSub _ _ _ _)

theorem PressAct.backwardSnap (s : State) (p : Ply) (x e : Nat) : PressAct s (s.backwardSnap p x e) :=
  .foldl (fun s i => .backwardOver s p (x - e) i) _ s

theorem PressAct.closeEnded (s : State) (p : Ply) (ended : Nat) : PressAct s (s.closeEnded p ended) := by
  unfold State.closeEnded
  split
  · exact .refl s
  split
  · exact .refl s
  split
  · have hdrop : PressAct s (s.modHead p HeadController.dropUnfired) := .modHead le_rfl id
    exact (hdrop.trans (.modSub _ _ _ _)).trans (.takeSpoil _ _ _)
  · exact .refl s

theorem PressAct.awaitEnded (s : State) (p : Ply) (ended : Nat) : PressAct s (s.awaitEnded p ended) := by
  unfold State.awaitEnded
  split
  · exact .refl s
  · exact .modSub s _ _ _

/-- R83: a trim adopted leaves the allowance. -/
theorem PlyState.adoptTrim_allowance (ps : PlyState) : ps.adoptTrim.allowance = ps.allowance := by
  unfold PlyState.adoptTrim PlyState.allowance
  split
  · rfl
  · cases ps.run <;> rfl

theorem PlyState.adoptTrim_rest (ps : PlyState) : ps.adoptTrim.record = ps.record
    ∧ ps.adoptTrim.unit = ps.unit ∧ ps.adoptTrim.head.queue = ps.head.queue
    ∧ ps.adoptTrim.head.inhibit = ps.head.inhibit := by
  unfold PlyState.adoptTrim
  split <;> exact ⟨rfl, rfl, rfl, rfl⟩

theorem PressAct.adoptTrim (s : State) (p : Ply) : PressAct s (s.modPly p PlyState.adoptTrim) := by
  obtain ⟨hrecord, hunit, hqueue, hinhibit⟩ := (s.ply p).adoptTrim_rest
  refine .modPly hrecord (by rw [hunit]) ?_ (by rw [hqueue]) (by rw [hinhibit]; exact id)
  simp only [PlyState.InForm, hrecord, hunit, PlyState.adoptTrim_allowance]
  exact id

/-- R88: the boundary's work at the Head Controller. -/
theorem PressAct.headBoundary (s : State) (p : Ply) (ended begun : Nat) :
    PressAct s (s.headBoundary p ended begun) := by
  have hclose := (PressAct.closeEnded s p ended).trans (.awaitEnded _ p ended)
  have hpass : ∀ u : State, PressAct u (u.modHead p fun h => h.passTo begun) :=
    fun u => .modHead (List.length_filter_le _ _) id
  have hplan : ∀ (u : State) (plan : List Impression),
      PressAct u (u.modHead p fun h => { h with plan := plan, deferred := [] }) :=
    fun u plan => .modHead le_rfl id
  unfold State.headBoundary
  dsimp only
  exact (((hclose.trans (hpass _)).trans (.adoptTrim _ _)).trans (hplan _ _)).trans (.reachPhase _ _ _)

/-! ### The head port -/

theorem replaceFront_length (e : Entry) (q : List Entry) : (replaceFront e q).length = q.length := by
  induction q with
  | nil => rfl
  | cons x xs ih =>
    cases x with
    | blank j => simp [replaceFront, ih]
    | image img taken => cases taken <;> simp [replaceFront, ih]

theorem PressAct.considerLoad (fuel : Nat) (p : Ply) (s : State) :
    PressAct s (State.considerLoad fuel p s) := by
  have hfront : ∀ (u : State) (e : Entry),
      PressAct u (u.modHead p fun h => { h with queue := replaceFront e h.queue }) :=
    fun u e => .modHead (by simp [replaceFront_length]) id
  induction fuel generalizing s with
  | zero => exact .refl s
  | succ fuel ih =>
    unfold State.considerLoad
    split
    · exact .refl s
    split
    · refine PressAct.trans ?_ (.emit fun _ _ _ h => nomatch h)
      exact .modHead (by simp [replaceFront_length]) id
    · exact (hfront _ _).trans (ih _)
    · exact (hfront _ _).trans (ih _)
    · refine PressAct.trans ?_ (ih _)
      exact .modHead (List.length_filter_le _ _) id

theorem PressAct.loadStart (s : State) (p : Ply) : PressAct s (s.loadStart p) := by
  unfold State.loadStart
  split
  · exact .considerLoad _ p s
  · exact .refl s

theorem PressAct.acceptLoad (s : State) (p : Ply) (stamp : Byte) : PressAct s (s.acceptLoad p stamp) := by
  unfold State.acceptLoad
  split
  · split
    · exact .modHead le_rfl id
    · exact .refl s
  · exact .refl s
  · exact .refl s

theorem PressAct.failLoad (s : State) (p : Ply) (img : Image) (kind : FaultKind) (cause : Option Byte) :
    PressAct s (s.failLoad p img kind cause) := by
  refine PressAct.trans ?_ (.raiseFault _ _ _)
  exact .modHead le_rfl id

theorem PressAct.rejectLoad (s : State) (p : Ply) (stamp cause : Byte) :
    PressAct s (s.rejectLoad p stamp cause) := by
  unfold State.rejectLoad
  split
  · split
    · exact .failLoad _ _ _ _ _
    · exact .refl s
  · exact .refl s
  · exact .refl s

theorem PressAct.expireLoad (s : State) (p : Ply) : PressAct s (s.expireLoad p) := by
  unfold State.expireLoad
  split
  · exact .failLoad _ _ _ _ _
  · exact .refl s
  · exact .refl s

/-! ### Counts, marks and splices -/

/-- R64: supervision makes no ply OFF. -/
theorem Registration.supervised_eq_off {r : Registration} {taken : Bool} :
    r.supervised taken = .off ↔ r = .off := by
  cases r <;> cases taken <;> simp [Registration.supervised]

theorem PressAct.superviseMark (s : State) (p : Ply) : PressAct s (s.superviseMark p) := by
  have hunit : PressAct s (s.modUnit p fun u =>
      { u with registration := u.registration.supervised u.markTaken, markTaken := false }) := by
    refine .modUnit rfl ?_
    simp only [PlyState.InForm, ne_eq, Registration.supervised_eq_off]
    exact id
  unfold State.superviseMark
  dsimp only
  split
  · exact hunit.trans (.raiseFault _ _ _)
  · exact hunit

theorem Slot.skipIfOpen_not_opened (x : Slot) : x.skipIfOpen.disp ≠ .opened := by
  unfold Slot.skipIfOpen
  split
  · exact Slot.makeSkip_not_opened
  all_goals simp_all

theorem PressAct.skipIfOpen (s : State) (j : Nat) : PressAct s (s.modSlot j Slot.skipIfOpen) :=
  .modSlot fun x h => absurd h x.skipIfOpen_not_opened

theorem PressAct.takeHeadSlot (s : State) (p : Ply) (j : Nat) : PressAct s (s.takeHeadSlot p j) := by
  refine PressAct.trans ?_ (.skipIfOpen _ j)
  split
  · exact (PressAct.forceRetire s p).trans (.create _ _)
  · exact .create _ _

end Sys2Proof.Machine

namespace Sys2Proof.Machine

/-! ### The head slot raised (R18, R19) -/

/-- Slots added at the top stand behind those that were held. -/
theorem State.slotAt_of_append {s t : State} {l : List Slot} (hslots : t.slots = s.slots ++ l)
    (hmarriage : t.marriageSlot = s.marriageSlot) {i : Nat} (hi : i < s.windowEnd) :
    t.slotAt i = s.slotAt i := by
  ext x
  rw [State.slotAt_eq_some, State.slotAt_eq_some, hslots, hmarriage]
  refine and_congr_right fun hm => ?_
  rw [List.getElem?_append_left (by simp only [State.windowEnd] at hi; omega)]

theorem State.create_slots (s : State) (j : Nat) : ∃ n, (s.create j).slots =
    s.slots ++ List.replicate n s.freshSlot := by
  obtain ⟨-, he⟩ | ⟨-, he⟩ := s.create_cases j <;> rw [he]
  · exact ⟨_, rfl⟩
  · exact ⟨0, by simp⟩

theorem State.slotAt_create {s : State} {i : Nat} (j : Nat) (hi : i < s.windowEnd) :
    (s.create j).slotAt i = s.slotAt i := by
  obtain ⟨n, hn⟩ := s.create_slots j
  exact State.slotAt_of_append hn (by simp) hi

theorem State.windowEnd_le_create (s : State) (j : Nat) : s.windowEnd ≤ (s.create j).windowEnd := by
  obtain ⟨n, hn⟩ := s.create_slots j
  simp [State.windowEnd, hn]

/-- R16: where there is room, a creation reaches its index. -/
theorem State.lt_windowEnd_create {s : State} {j : Nat} (h : s.hasRoom j = true) :
    j < (s.create j).windowEnd := by
  obtain ⟨-, he⟩ | ⟨hr, -⟩ := s.create_cases j
  · rw [he]; simp [State.windowEnd]; omega
  · simp [h] at hr

/-- R22: the slots after a retirement are those above the marriage slot, and fresh ones. -/
theorem State.retireSlot_slots (s : State) : ∃ n, s.retireSlot.slots =
    s.slots.drop 1 ++ List.replicate n s.freshSlot := by
  obtain ⟨n, he⟩ := s.retireSlot_adds
  exact ⟨n, by rw [he]⟩

theorem State.joinMakeup_slots (s : State) (e : MakeupEntry) : (s.joinMakeup e).2.slots = s.slots := by
  obtain ⟨-, he⟩ | ⟨-, -, he⟩ | ⟨-, -, he⟩ := s.joinMakeup_cases e <;> rw [he]
  simp only [State.batchAtJoin, State.afterJoin]
  split <;> split <;> split <;> simp

/-- R19: what a force-retire makes of the window: the slot at the marriage slot leaves it. -/
theorem State.forceRetire_window {s : State} (h : s.slots ≠ []) (p : Ply) :
    (s.forceRetire p).slots = s.retireSlot.slots
    ∧ (s.forceRetire p).marriageSlot = s.marriageSlot + 1 := by
  unfold State.forceRetire
  split
  · exact absurd ‹_› h
  · dsimp only
    split
    · rw [State.joinMakeup_slots, (State.joinMakeup_frame _ _).marriageSlot]
      simp
    all_goals simp

theorem State.slotAt_forceRetire {s : State} {i : Nat} (p : Ply) (h : s.slots ≠ [])
    (hi : i < s.windowEnd) (hm : s.marriageSlot < i) : (s.forceRetire p).slotAt i = s.slotAt i := by
  obtain ⟨hslots, hmarriage⟩ := State.forceRetire_window h p
  obtain ⟨n, hn⟩ := s.retireSlot_slots
  ext x
  rw [State.slotAt_eq_some, State.slotAt_eq_some, hslots, hmarriage, hn]
  simp only [State.windowEnd] at hi
  rw [List.getElem?_append_left (by simp; omega), List.getElem?_drop]
  rw [show 1 + (i - (s.marriageSlot + 1)) = i - s.marriageSlot by omega]
  simp only [Nat.succ_le_iff, hm, hm.le]

/-- The Schedule before the new head slot is made SKIP: created, with a force-retire first where there is
no room. -/
def State.createForHead (s : State) (p : Ply) (j : Nat) : State :=
  if s.windowEnd ≤ j && !s.hasRoom j then (s.forceRetire p).create j else s.create j

theorem State.takeHeadSlot_eq (s : State) (p : Ply) (j : Nat) :
    s.takeHeadSlot p j = (s.createForHead p j).modSlot j Slot.skipIfOpen := rfl

/-- A window that has no room above its top is full. -/
theorem State.slots_ne_nil_of_full {s : State} {j : Nat} (hrun : s.inRun = true)
    (hj : j ≤ Config.maxSetIndex) (htop : j ≤ s.windowEnd) (hroom : s.hasRoom j = false) :
    Config.windowCapacity ≤ s.slots.length := by
  simp only [State.hasRoom, hrun, hj, decide_true, Bool.true_and, decide_eq_false_iff_not] at hroom
  simp only [State.windowEnd, Config.windowCapacity] at *
  omega

/-- R19: after a force-retire of a full window there is room for the slot above the top. -/
theorem State.hasRoom_forceRetire {s : State} {p : Ply} {j : Nat} (hrun : s.inRun = true)
    (hj : j ≤ Config.maxSetIndex) (htop : j ≤ s.windowEnd)
    (hlen : s.slots.length ≤ Config.windowCapacity) (hs : s.slots ≠ []) :
    (s.forceRetire p).hasRoom j = true := by
  have hin : (s.forceRetire p).inRun = true := (PressAct.forceRetire s p).inRun.trans hrun
  simp only [State.hasRoom, hin, hj, (State.forceRetire_window hs p).2, State.windowEnd] at *
  simp
  omega

/-- R18: the slots that were held are as they were, and the head slot is held. -/
theorem State.createForHead_window {s : State} {p : Ply} {j : Nat} (hrun : s.inRun = true)
    (hj : j ≤ Config.maxSetIndex) (htop : j ≤ s.windowEnd)
    (hlen : s.slots.length ≤ Config.windowCapacity) :
    j < (s.createForHead p j).windowEnd ∧ s.windowEnd ≤ (s.createForHead p j).windowEnd
    ∧ ∀ i x, i < s.windowEnd → (s.createForHead p j).slotAt i = some x → s.slotAt i = some x := by
  unfold State.createForHead
  cases hfull : (decide (s.windowEnd ≤ j) && !s.hasRoom j) with
  | false =>
    simp only [Bool.false_eq_true, if_false]
    refine ⟨?_, s.windowEnd_le_create j, fun i x hi hx => by rwa [State.slotAt_create j hi] at hx⟩
    cases hroom : s.hasRoom j with
    | true => exact State.lt_windowEnd_create hroom
    | false =>
      simp only [hroom, Bool.not_false, Bool.and_true, decide_eq_false_iff_not] at hfull
      exact lt_of_lt_of_le (by omega) (s.windowEnd_le_create j)
  | true =>
    simp only [Bool.and_eq_true, decide_eq_true_eq, Bool.not_eq_true'] at hfull
    obtain ⟨-, hroom⟩ := hfull
    have hcap := State.slots_ne_nil_of_full hrun hj htop hroom
    have hs : s.slots ≠ [] := by intro h; simp [h, Config.windowCapacity] at hcap
    obtain ⟨hslots, hmarriage⟩ := State.forceRetire_window hs p
    obtain ⟨n, hn⟩ := s.retireSlot_slots
    have hend : s.windowEnd ≤ (s.forceRetire p).windowEnd := by
      simp only [State.windowEnd, hslots, hmarriage, hn, List.length_append, List.length_drop]
      omega
    simp only [if_true]
    refine ⟨State.lt_windowEnd_create (State.hasRoom_forceRetire hrun hj htop hlen hs),
      hend.trans (State.windowEnd_le_create _ j), fun i x hi hx => ?_⟩
    rw [State.slotAt_create j (hi.trans_le hend)] at hx
    have hm : s.marriageSlot < i := by
      have := (State.slotAt_eq_some.1 hx).1
      omega
    rwa [State.slotAt_forceRetire p hs hi hm] at hx

theorem PressAct.createForHead (s : State) (p : Ply) (j : Nat) : PressAct s (s.createForHead p j) := by
  unfold State.createForHead
  split
  · exact (PressAct.forceRetire s p).trans (.create _ _)
  · exact .create _ _

theorem PressKeeps.modUnit {s : State} {p : Ply} {f : PositionUnit → PositionUnit}
    (hform : (s.ply p).InForm s.cutoff →
      { s.ply p with unit := f (s.ply p).unit }.InForm s.cutoff) :
    PressKeeps s (s.modUnit p f) := .modPly rfl hform le_rfl id

/-- A fault leaves every unit alone. -/
theorem State.unit_forceRetire (s : State) (p q : Ply) :
    ((s.forceRetire p).ply q).unit = (s.ply q).unit := by
  have hretire : ∀ u : State, (u.retireSlot.ply q).unit = (u.ply q).unit := fun u => by
    simp [State.ply]
  unfold State.forceRetire
  split
  · rfl
  · dsimp only
    split
    · rw [(State.joinMakeup_frame _ _).ply q]
      exact (State.unit_raiseFault _ _ _ _).trans (hretire s)
    all_goals exact (State.unit_raiseFault _ _ _ _).trans (hretire s)

theorem State.unit_createForHead (s : State) (p q : Ply) (j : Nat) :
    ((s.createForHead p j).ply q).unit = (s.ply q).unit := by
  have hcreate : ∀ u : State, (u.create j).ply q = u.ply q := fun u => by simp [State.ply]
  unfold State.createForHead
  split
  · rw [hcreate, State.unit_forceRetire]
  · rw [hcreate]

theorem State.unit_takeHeadSlot (s : State) (p q : Ply) (j : Nat) :
    ((s.takeHeadSlot p j).ply q).unit = (s.ply q).unit := by
  rw [State.takeHeadSlot_eq, ← State.unit_createForHead s p q j]
  simp [State.ply]

/-- A slot made SKIP where it was OPEN is not OPEN, wherever it stands. -/
theorem State.slotAt_skipIfOpen {s : State} {j : Nat} {x : Slot}
    (h : (s.modSlot j Slot.skipIfOpen).slotAt j = some x) : x.disp ≠ .opened := by
  cases hs : s.slotAt j with
  | none => rw [State.modSlot_of_not_held hs, hs] at h; cases h
  | some y =>
    rw [State.slotAt_modSlot_self hs] at h
    cases h
    exact y.skipIfOpen_not_opened

/-- R18: a head slot taken stands in the window and is not OPEN, and no slot that was held is made so. -/
theorem State.takeHeadSlot_window {s : State} {p : Ply} {j : Nat} (hrun : s.inRun = true)
    (hj : j ≤ Config.maxSetIndex) (htop : j ≤ s.windowEnd)
    (hlen : s.slots.length ≤ Config.windowCapacity) :
    j < (s.takeHeadSlot p j).windowEnd ∧ s.windowEnd ≤ (s.takeHeadSlot p j).windowEnd
    ∧ (∀ x, (s.takeHeadSlot p j).slotAt j = some x → x.disp ≠ .opened)
    ∧ ∀ i x, i < s.windowEnd → i ≠ j → (s.takeHeadSlot p j).slotAt i = some x → s.slotAt i = some x := by
  obtain ⟨hlt, hend, hheld⟩ := State.createForHead_window (p := p) hrun hj htop hlen
  have htaken : (s.takeHeadSlot p j).windowEnd = (s.createForHead p j).windowEnd := by
    simp [State.takeHeadSlot_eq, State.windowEnd]
  rw [htaken]
  refine ⟨hlt, hend, fun x hx => State.slotAt_skipIfOpen hx, fun i x hi hne hx => hheld i x hi ?_⟩
  rwa [State.takeHeadSlot_eq, State.slotAt_modSlot_ne _ hne] at hx

/-- R60 step 2: the head slot raised stands in the window, and is not OPEN. -/
theorem PressAct.raiseHeadSlot {s : State} {p : Ply} (hp : s.active p = true) :
    PressAct s (s.raiseHeadSlot p) := by
  unfold State.raiseHeadSlot
  dsimp only
  split
  case isFalse => exact .raiseFault _ _ _
  case isTrue hmax =>
    generalize hu : s.modUnit p (fun u => { u with headSlot := (s.ply p).unit.headSlot + 1 }) = u
    have hraise : PressKeeps s u := hu ▸ .modUnit id
    have hkeep := hraise.trans
      (PressAct.takeHeadSlot u p ((s.ply p).unit.headSlot + 1)).toPressKeeps
    refine ⟨hkeep, fun hw hpassed hrun q hq => ?_⟩
    rw [hkeep.inRun] at hrun
    rw [hkeep.setup.active] at hq
    have hheld : ∀ i, u.slotAt i = s.slotAt i := fun i => by subst hu; rfl
    have hwindow : u.windowEnd = s.windowEnd := by subst hu; rfl
    have hunit : (u.ply q).unit.headSlot =
        if q = p then (s.ply p).unit.headSlot + 1 else (s.ply q).unit.headSlot := by
      subst hu
      simp only [State.modUnit, State.ply_modPly]
      split <;> rfl
    obtain ⟨hendp, -⟩ := hpassed hrun p hp
    obtain ⟨hend, hdisp⟩ := hpassed hrun q hq
    obtain ⟨hlt, hgrow, hnew, hold⟩ := State.takeHeadSlot_window (p := p) (j := (s.ply p).unit.headSlot + 1)
      (hraise.inRun.trans hrun) (Nat.succ_le_of_lt hmax) (hwindow ▸ hendp) (hraise.window hw).1
    rw [State.unit_takeHeadSlot, hunit]
    refine ⟨by split <;> omega, fun j x hj hx => ?_⟩
    by_cases hjn : j = (s.ply p).unit.headSlot + 1
    · exact hnew x (hjn ▸ hx)
    · have hjq : j ≤ (s.ply q).unit.headSlot := by
        split at hj
        · subst_vars; omega
        · exact hj
      exact hdisp j x hjq (hheld j ▸ hold j x (by omega) hjn hx)

/-! ### Counts, marks and splices -/

/-- R60: the form boundary. -/
theorem PressAct.boundary {s : State} {p : Ply} (hp : s.active p = true) :
    PressAct s (s.boundary p) := by
  have hmark := PressAct.superviseMark s p
  have hraise := hmark.trans (.raiseHeadSlot (by rwa [hmark.setup.active]))
  exact (hraise.trans (.headBoundary _ _ _ _)).trans (.askSlot _ _)

/-- R58: a ply's position moved on, and the guard with it. -/
def State.advancedTo (s : State) (p : Ply) (x : Nat) : State :=
  (s.modUnit p fun u => { u with position := x }).advanceGuard p

/-- R58: a forward advance ends the form or reaches the next phase. -/
theorem State.forwardAdvance_eq (s : State) (p : Ply) :
    s.forwardAdvance p =
      if s.cutoff ≤ (s.ply p).unit.position + 1 then (s.advancedTo p 0).boundary p
      else (s.advancedTo p ((s.ply p).unit.position + 1)).reachPhase p
        ((s.ply p).unit.position + 1) := by
  unfold State.forwardAdvance State.advancedTo
  by_cases h : s.cutoff ≤ (s.ply p).unit.position + 1 <;> simp [h]

theorem PressAct.advancedTo {s : State} {p : Ply} {x : Nat}
    (h : (s.ply p).InForm s.cutoff → x < s.cutoff) : PressAct s (s.advancedTo p x) := by
  refine PressAct.trans ?_ (.advanceGuard _ p)
  exact .modUnit rfl fun hform => ⟨h hform, hform.2⟩

/-- R58: a forward advance. -/
theorem PressAct.forwardAdvance {s : State} {p : Ply} (hp : s.active p = true) :
    PressAct s (s.forwardAdvance p) := by
  rw [State.forwardAdvance_eq]
  split
  · have hadvance : PressAct s (s.advancedTo p 0) := .advancedTo fun ⟨hx, _⟩ => by omega
    exact hadvance.trans (.boundary (by rwa [hadvance.setup.active]))
  · refine PressAct.trans (.advancedTo fun _ => ?_) (.reachPhase _ _ _)
    omega

theorem PressAct.forwardCount {s : State} {p : Ply} (hp : s.active p = true) :
    PressAct s (s.forwardCount p) := by
  unfold State.forwardCount
  split
  · refine .modUnit rfl fun ⟨hx, hm, ho, hr⟩ => ⟨hx, hm, ?_, hr⟩
    exact (Nat.sub_le _ _).trans ho
  · exact .forwardAdvance hp

theorem PressAct.reverseCount (s : State) (p : Ply) : PressAct s (s.reverseCount p) := by
  unfold State.reverseCount
  dsimp only
  split
  · exact .modUnit rfl fun ⟨hx, hm, _, hr⟩ => ⟨hx, hm, ‹_›, hr⟩
  · refine PressAct.trans ?_ (.raiseFault _ _ _)
    exact .modUnit rfl fun ⟨hx, hm, _, _⟩ => ⟨hx, hm, Nat.zero_le _, by simp⟩

theorem PressAct.snap (s : State) (p : Ply) : PressAct s (s.snap p) := by
  have hunit : PressAct s (s.modUnit p fun u =>
      { u with
        position := (s.ply p).record.markPhase, owed := 0, registration := .locked
        markTaken := true }) :=
    .modUnit rfl fun ⟨_, hm, _, _⟩ => ⟨hm, hm, Nat.zero_le _, by simp⟩
  unfold State.snap
  dsimp only
  split
  · exact hunit.trans (.forwardSnap _ _ _ _)
  · split
    · exact hunit.trans (.backwardSnap _ _ _ _)
    · exact hunit

theorem PressAct.splicePulse (s : State) (p : Ply) (k : Nat) : PressAct s (s.splicePulse p k) := by
  unfold State.splicePulse
  dsimp only
  split
  · exact .refl s
  · refine PressAct.trans ?_ (.takeSplice _ _ _)
    exact (PressAct.create s _).trans (.modUnit rfl id)

/-- The plies that count an edge stay active while the edge is counted. -/
theorem PressAct.foldl_active {f : State → Ply → State}
    (hf : ∀ s p, s.active p = true → PressAct s (f s p)) (ps : List Ply) (s : State)
    (h : ∀ p ∈ ps, s.active p = true) : PressAct s (ps.foldl f s) := by
  induction ps generalizing s with
  | nil => exact .refl s
  | cons p ps ih =>
    have hfirst := hf s p (h p (by simp))
    exact hfirst.trans (ih _ fun q hq => by
      rw [hfirst.setup.active]; exact h q (by simp [hq]))

theorem State.active_of_countingPlies {s : State} {e : Edge} {p : Ply}
    (h : p ∈ s.countingPlies e) : s.active p = true := by
  unfold State.countingPlies at h
  split at h
  · simp only [State.activePlies, List.mem_filter] at h
    exact h.1.2
  · cases h

/-! ### Readers -/

theorem PressAct.writeVerify (s : State) (j : Nat) (p : Ply) (v : VerifyState) :
    PressAct s (s.writeVerify j p v) := .modSub s _ _ _

theorem PressAct.verify (s : State) (j : Nat) (p : Ply) (v : VerifyState) :
    PressAct s (s.verify j p v) := by
  unfold State.verify
  dsimp only
  split
  · exact (PressAct.writeVerify s j p v).trans (.takeSpoil _ _ _)
  · exact .writeVerify s j p v

theorem PressAct.associate (s : State) (p : Ply) (seq : Byte) (r : ReadResult) (expected : Byte) :
    PressAct s (s.associate p seq r expected) := by
  unfold State.associate
  split
  · exact .notify _ _
  · split
    · exact .refl s
    · exact .verify _ _ _ _

theorem PressAct.gap (s : State) (p : Ply) (k : Nat) : PressAct s (s.gap p k) := by
  have hspoil : ∀ u j, PressAct u (State.spoilNoResult p u j) := fun u j => by
    unfold State.spoilNoResult
    split
    · exact .takeSpoil _ _ _
    · exact .refl u
  have hmark : ∀ u j, PressAct u (State.markNoResult p u j) := fun u j => .writeVerify u j p _
  exact (PressAct.foldl hmark _ _).trans (.foldl hspoil _ _)

theorem PressAct.takeRecord (s : State) (p : Ply) (seq : Byte) (r : ReadResult) :
    PressAct s (s.takeRecord p seq r) := by
  unfold State.takeRecord
  dsimp only
  generalize (if (s.ply p).checker.synced = true then _ else 0) = diff
  split
  · exact .notify _ _
  · exact ((PressAct.gap s p _).trans (.modChecker _ _ _)).trans (.associate _ _ _ _ _)

/-! ### Staging and rendering -/

/-- An entry appended to a ply's queue. -/
def State.append (s : State) (p : Ply) (e : Entry) : State :=
  s.modHead p fun h => { h with queue := h.queue ++ [e] }

theorem State.ply_append (s : State) (p q : Ply) (e : Entry) : (s.append p e).ply q =
    if q = p then { s.ply p with head := { (s.ply p).head with queue := (s.ply p).head.queue ++ [e] } }
    else s.ply q := State.ply_modPly ..

/-- An entry appended after other acts, within the bound on the queues. -/
theorem PressAct.append {u s : State} (h : PressAct u s) {p : Ply} {e : Entry}
    (hstaging : u.StagingBounded → (s.append p e).StagingBounded) : PressAct u (s.append p e) := by
  have hkeep : ∀ q, ((s.append p e).ply q).record = (s.ply q).record
      ∧ ((s.append p e).ply q).unit = (s.ply q).unit ∧ ((s.append p e).ply q).run = (s.ply q).run
      ∧ ((s.append p e).ply q).head.inhibit = (s.ply q).head.inhibit := by
    intro q; rw [State.ply_append]; split <;> simp_all
  have hsetup : s.SetupKept (s.append p e) :=
    ⟨rfl, rfl, rfl, fun q => (hkeep q).1, rfl, rfl, rfl, rfl, rfl, rfl, rfl⟩
  constructor
  case heads =>
    exact fun hw hp => (h.heads hw hp).of_eq rfl hsetup.active (fun q => by rw [(hkeep q).2.1]) rfl rfl
  constructor
  case setup => exact h.setup.trans hsetup
  case links => exact h.links
  case drain => exact h.drain
  case inRun => exact h.inRun
  case notices => exact h.notices
  case makeups => exact h.makeups
  case agrees => exact h.agrees
  case good => exact h.good
  case withdrawn => exact h.withdrawn
  case window =>
    intro hw
    obtain ⟨hlen, hend, hpath⟩ := h.window hw
    exact ⟨hlen, hend, fun q => by rw [(hkeep q).1]; exact hpath q⟩
  case staging => exact hstaging
  case form =>
    intro hf hrun q hq
    have hin := h.form hf hrun q (by rwa [hsetup.active] at hq)
    simpa only [PlyState.InForm, PlyState.allowance, hkeep, hsetup.cutoff] using hin
  case inhibit => exact fun q hq => by rw [(hkeep q).2.2.2]; exact h.inhibit q hq
  case fires => exact h.fires

/-- An entry appended to a queue with room, while the render unit does not serve its ply. -/
theorem State.StagingBounded.append {s : State} {p : Ply} (h : s.StagingBounded)
    (hlen : (s.ply p).head.queue.length < Config.stagingDepth)
    (hrender : ∀ r, s.render = some r → r.ply ≠ p) (e : Entry) : (s.append p e).StagingBounded := by
  obtain ⟨hall, hserved⟩ := h
  refine ⟨fun q => ?_, fun r hr => ?_⟩
  · rw [State.ply_append]
    split
    · simp; omega
    · exact hall q
  · rw [State.ply_append, if_neg (hrender r hr)]
    exact hserved r hr

/-- A change of the render unit that leaves room for what it serves. -/
theorem PressAct.setRender {s : State} {r : Option Render} {p : Ply} (hrun : s.inRun = true ∨ r = none)
    (hroom : ∀ x, r = some x → (s.ply x.ply).head.queue.length < Config.stagingDepth) :
    PressAct s { s with render := r, lastGranted := p } := by
  constructor
  case heads => exact fun _ h => h
  constructor
  case agrees =>
    rintro ⟨h1, h2, h3, h4⟩
    refine ⟨h1, h2, h3, fun hi => ?_⟩
    obtain ⟨hslots, hm, -, hmarker⟩ := h4 hi
    have hi : s.runState = .idle := hi
    exact ⟨hslots, hm, hrun.resolve_left (by simp [State.inRun, hi]), hmarker⟩
  case staging => exact fun ⟨hall, _⟩ => ⟨hall, hroom⟩
  case inRun => rfl
  case form => exact id
  case window => exact id
  all_goals simp [State.SetupKept, State.MakeupsOrdered, State.firesOf, State.ply]

end Sys2Proof.Machine

namespace Sys2Proof.Machine

/-! ### The bind cursor -/

theorem PressAct.countSkips (s : State) (n : Nat) : PressAct s (s.countSkips n) := .setTallies rfl rfl

theorem PressAct.reportExhausted (s : State) (r : Nat) : PressAct s (s.reportExhausted r) :=
  (PressAct.giveCause s _).trans (.notify _ _)

theorem PressAct.settleCursor (s : State) (c : Cursor) (n : Normalised) :
    PressAct s (s.settleCursor c n) := by
  unfold State.settleCursor
  split
  · exact (PressAct.countSkips s _).trans (.setCursor _ _)
  · exact ((PressAct.countSkips s _).trans (.setCursor _ _)).trans (.reportExhausted _ _)

theorem PressAct.enterSegment (s : State) (c : Cursor) (i : Nat) (g : Segment) (pass : Nat) :
    PressAct s (s.enterSegment c i g pass) := .settleCursor s _ _

/-- R146 step 2: the batch flag is set only with a make-up owed. -/
theorem PressAct.endChain (s : State) (c : Cursor) : PressAct s (s.endChain c) := by
  refine .ofBooks rfl rfl id id ?_ rfl rfl
  rintro ⟨h1, h2, h3, h4⟩
  refine ⟨h1, h2, fun hr hb => ?_, h4⟩
  simp only [State.endChain, Bool.or_eq_true, Bool.and_eq_true, Bool.not_eq_true',
    List.isEmpty_eq_false_iff] at hb
  exact hb.elim (h3 hr) fun h => h.2

theorem PressAct.pauseChain (s : State) (c : Cursor) (g : Segment) (cause : PauseCause) :
    PressAct s (s.pauseChain c g cause) := (PressAct.setCursor s _).trans (.notify _ _)

theorem PressAct.chainStep (s : State) (c : Cursor) (g : Segment) : PressAct s (s.chainStep c g) := by
  unfold State.chainStep
  split
  · exact .pauseChain _ _ _ _
  · split
    · exact .endChain _ _
    · exact .pauseChain _ _ _ _
    · exact .enterSegment _ _ _ _ _

theorem PressAct.advanceCursor (s : State) (c : Cursor) : PressAct s (s.advanceCursor c) := by
  unfold State.advanceCursor
  dsimp only
  split
  · exact .setCursor _ _
  · split
    · exact .settleCursor _ _ _
    · exact (PressAct.setCursor s _).trans (.chainStep _ _ _)

/-! ### Binding -/

theorem PressAct.bind (s : State) (j : Nat) (b : Binding) (lay : Layout) :
    PressAct s (s.modSlot j fun slot => slot.bind b lay) :=
  .modSlot fun _ h => by simp [Slot.bind] at h

/-- R46: a binding from the cursor, made while no batch runs. -/
theorem PressAct.bindFromCursor {s : State} (hbatch : s.batch = true → s.makeups = []) (j : Nat)
    (c : Cursor) (lay : Layout) (serial : Nat) : PressAct s (s.bindFromCursor j c lay serial) := by
  have hfilter : ∀ (u : State) (keep : MakeupEntry → Bool), (u.batch = true → u.makeups = []) →
      PressAct u { u with makeups := u.makeups.filter keep } := by
    intro u keep hu
    refine .ofBooks rfl rfl id (fun h => h.filter _ rfl) ?_ rfl rfl
    rintro ⟨h1, h2, h3, h4⟩
    exact ⟨h1, h2, fun hr hb => absurd (hu hb) (h3 hr hb), h4⟩
  unfold State.bindFromCursor
  dsimp only
  exact ((PressAct.bind s j _ lay).trans (hfilter _ _ (by simpa using hbatch))).trans
    (.advanceCursor _ _)

/-- R47: a binding from the list takes its lowest entry. -/
theorem PressAct.bindMakeup {s : State} {e : MakeupEntry} {rest : List MakeupEntry}
    (h : s.makeups = e :: rest) (j : Nat) (lay : Layout) (serial : Nat) :
    PressAct s (s.bindMakeup j e rest lay serial) := by
  unfold State.bindMakeup
  dsimp only
  refine (PressAct.bind s j _ lay).trans (.ofBooks rfl rfl id ?_ ?_ rfl rfl)
  · simp only [State.MakeupsOrdered, State.modSlot_makeups, h, List.length_cons, List.map_cons,
      List.pairwise_cons]
    exact fun ⟨hlen, _, hord⟩ => ⟨by omega, hord⟩
  · rintro ⟨h1, h2, h3, h4⟩
    refine ⟨h1, h2, fun _ hb => ?_, h4⟩
    simp only [Bool.and_eq_true, Bool.not_eq_true', List.isEmpty_eq_false_iff] at hb
    exact hb.2

/-- R45: what the grant of an OPEN slot binds it with: the lowest make-up in a batch, the ACTIVE cursor
with no batch, or nothing. -/
theorem State.bindSlot_cases (s : State) (j : Nat) :
    s.bindSlot j = s
    ∨ (∃ e rest lay serial, s.batch = true ∧ s.makeups = e :: rest
      ∧ s.bindSlot j = s.bindMakeup j e rest lay serial)
    ∨ ∃ c lay serial, (s.batch = true → s.makeups = []) ∧ s.cursor = some c ∧ c.state = .active
      ∧ s.bindSlot j = s.bindFromCursor j c lay serial := by
  unfold State.bindSlot
  split
  · split
    · exact .inr (.inl ⟨_, _, _, _, ‹_›, ‹_›, rfl⟩)
    · exact .inl rfl
  · rename_i hno
    have hbatch : s.batch = true → s.makeups = [] := fun hb => by
      cases hm : s.makeups with
      | nil => rfl
      | cons e rest => exact (hno e rest hb hm).elim
    split
    · exact .inl rfl
    · split
      · split
        · exact .inr (.inr ⟨_, _, _, hbatch, ‹_›, ‹_›, rfl⟩)
        · exact .inl rfl
      all_goals exact .inl rfl

theorem PressAct.bindSlot (s : State) (j : Nat) : PressAct s (s.bindSlot j) := by
  obtain he | ⟨e, rest, lay, serial, -, hm, he⟩ | ⟨c, lay, serial, hb, -, -, he⟩ := s.bindSlot_cases j
  · rw [he]; exact .refl s
  · rw [he]; exact .bindMakeup hm _ _ _
  · rw [he]; exact .bindFromCursor hb _ _ _ _

theorem State.settleCursor_plies (s : State) (c : Cursor) (n : Normalised) :
    (s.settleCursor c n).plies = s.plies := by
  cases n <;> simp [State.settleCursor, State.reportExhausted]

theorem State.chainStep_plies (s : State) (c : Cursor) (g : Segment) :
    (s.chainStep c g).plies = s.plies := by
  unfold State.chainStep State.pauseChain State.endChain State.enterSegment
  split
  · simp
  · split <;> simp [State.settleCursor_plies]

theorem State.advanceCursor_plies (s : State) (c : Cursor) : (s.advanceCursor c).plies = s.plies := by
  unfold State.advanceCursor
  dsimp only
  split
  · rfl
  · split
    · rw [State.settleCursor_plies]
    · rw [State.chainStep_plies]

/-- A binding leaves every ply alone. -/
theorem State.bindSlot_plies (s : State) (j : Nat) : (s.bindSlot j).plies = s.plies := by
  obtain he | ⟨_, _, _, _, -, -, he⟩ | ⟨c, _, _, -, -, -, he⟩ := s.bindSlot_cases j
  · rw [he]
  · rw [he]; simp [State.bindMakeup]
  · rw [he]; simp [State.bindFromCursor, State.advanceCursor_plies]

/-! ### The arbiter and the render unit -/

theorem State.shortestFirst_mem {s : State} {ps : List Ply} {p : Ply}
    (h : s.shortestFirst ps = some p) : p ∈ ps := by
  induction ps generalizing p with
  | nil => cases h
  | cons q ps ih =>
    unfold State.shortestFirst at h
    split at h
    · cases h; simp
    · rename_i r hr
      split at h <;> cases h
      · simp
      · exact List.mem_cons_of_mem _ (ih hr)

/-- R49: the arbiter grants requesters only. -/
theorem State.chosen_isRequester {s : State} {p : Ply} (h : s.chosen = some p) :
    s.isRequester p = true := (List.mem_filter.1 (State.shortestFirst_mem h)).2

theorem State.stages_of_isRequester {s : State} {p : Ply} (h : s.isRequester p = true) :
    s.stages p = true := by
  simp only [State.isRequester, Bool.and_eq_true] at h
  exact h.1

theorem State.stages_iff (s : State) (p : Ply) : s.stages p = true ↔
    s.inRun = true ∧ s.active p = true ∧ (s.ply p).head.queue.length < Config.stagingDepth
    ∧ ∀ r, s.render = some r → r.ply ≠ p := by
  have hrender : s.render.map (·.ply) ≠ some p ↔ ∀ r, s.render = some r → r.ply ≠ p := by
    cases s.render <;> simp
  simp only [State.stages, Bool.and_eq_true, decide_eq_true_eq, hrender, and_assoc]

theorem PressAct.beginRender {s : State} {p : Ply} (hrun : s.inRun = true)
    (hroom : (s.ply p).head.queue.length < Config.stagingDepth) (j : Nat) :
    PressAct s (s.beginRender p j) := by
  unfold State.beginRender
  split
  · refine .setRender (.inl hrun) fun x hx => ?_
    split at hx
    · cases hx
    · cases hx; exact hroom
  · exact .refl s

theorem PressAct.grant {s : State} {p : Ply} (h : s.stages p = true) : PressAct s (s.grant p) := by
  obtain ⟨hrun, -, hroom, -⟩ := (s.stages_iff p).1 h
  unfold State.grant
  dsimp only
  split
  · exact .refl s
  · split
    · have hbind := PressAct.bindSlot s (s.ply p).nextNeeded
      refine hbind.trans (.beginRender (hbind.inRun.trans hrun) ?_ _)
      simpa [State.ply, State.bindSlot_plies] using hroom
    · exact .beginRender hrun hroom _
    · exact .refl s
    · exact .refl s

theorem PressAct.stage {s : State} {p : Ply} (h : s.stages p = true) : PressAct s (s.stage p) := by
  obtain ⟨-, -, hroom, hrender⟩ := (s.stages_iff p).1 h
  unfold State.stage
  dsimp only
  split
  · exact .create _ _
  · exact .refl s
  · split
    · exact (PressAct.refl s).append fun h => h.append hroom hrender _
    · exact .refl s

/-- R50: the render unit idle again, with an entry for the ply it served or none. -/
theorem State.completeRender_cases (s : State) (r : Render) :
    s.completeRender r = { s with render := none }
    ∨ ∃ img, s.renderImage r = some img
      ∧ s.completeRender r = State.append { s with render := none } r.ply (.image img false) := by
  unfold State.completeRender
  dsimp only
  split
  · split
    · exact .inr ⟨_, ‹_›, rfl⟩
    · exact .inl rfl
  · exact .inl rfl

theorem PressAct.stopRender (s : State) : PressAct s { s with render := none } :=
  .setRender (p := s.lastGranted) (.inr rfl) fun _ h => nomatch h

/-- R50: a completion finds the room kept for it while it was served. -/
theorem PressAct.completeRender {s : State} {r : Render} (hr : s.render = some r) :
    PressAct s (s.completeRender r) := by
  obtain he | ⟨img, -, he⟩ := s.completeRender_cases r <;> rw [he]
  · exact .stopRender s
  · exact (PressAct.stopRender s).append fun ⟨hall, hserved⟩ =>
      State.StagingBounded.append (s := { s with render := none }) ⟨hall, fun _ h => nomatch h⟩
        (hserved r hr) (fun _ h => nomatch h) _

/-! ### The commands of the press side -/

/-- The commands of the press side, the marriage apart. -/
def isPressCommand : Instr → Bool
  | .forwardCount _ | .reverseCount _ | .guardExpiry _ | .markPulse _ | .spliceEvent _
  | .readerRecord _ _ | .stageNextSlot _ | .renderGrant | .renderCompletion | .loadStart _
  | .accept _ _ | .reject _ _ _ | .loadTimerExpiry _ => true
  | _ => false

/-- Every command of the press side but a marriage is an act. -/
theorem PressAct.exec {c : Instr} (hc : isPressCommand c = true) {s t : State}
    (h : Machine.exec c s = .next t) : PressAct s t := by
  cases c <;> simp only [isPressCommand, Bool.false_eq_true] at hc <;> cases h
  case forwardCount e =>
    exact .foldl_active (fun _ _ => .forwardCount) _ s fun p => State.active_of_countingPlies
  case reverseCount e => exact .foldl .reverseCount _ s
  case guardExpiry p =>
    split
    · rename_i h
      simp only [Bool.and_eq_true] at h
      exact .forwardAdvance h.1.1.2
    · exact .refl s
  case markPulse p =>
    split
    · exact .snap s p
    · exact .refl s
  case spliceEvent p =>
    split
    · split
      · exact .splicePulse s p _
      · exact .refl s
    · exact .refl s
  case readerRecord p r =>
    split
    · split
      · exact .takeRecord s p _ _
      · exact .notify s _
    · exact .refl s
  case stageNextSlot p =>
    split
    · exact .stage ‹_›
    · exact .refl s
  case renderGrant =>
    split
    · rename_i p _ hp
      exact .grant (State.stages_of_isRequester (State.chosen_isRequester hp))
    · exact .refl s
  case renderCompletion =>
    split
    · exact .completeRender ‹_›
    · exact .refl s
  case loadStart p => exact .loadStart s p
  case accept p stamp => exact .acceptLoad s p stamp
  case reject p stamp cause => exact .rejectLoad s p stamp cause
  case loadTimerExpiry p => exact .expireLoad s p

end Sys2Proof.Machine

namespace Sys2Proof.Machine

/-! ## What every command keeps -/

/-- What every command keeps: each invariant of the state, that of the Withdrawn tally apart. -/
structure KeepsRun (s t : State) : Prop where
  queues : s.LinksBounded → t.LinksBounded
  makeups : s.MakeupsOrdered → t.MakeupsOrdered
  agrees : s.RunAgrees → t.RunAgrees
  window : s.WindowBounded → t.WindowBounded
  heads : s.WindowBounded → s.HeadsPassed → t.HeadsPassed
  staging : s.StagingBounded → t.StagingBounded
  form : s.PositionsInForm → t.PositionsInForm

/-- What every command but a marriage keeps: the Withdrawn tally within Good as well, and Good not
raised. -/
structure Keeps (s t : State) : Prop extends KeepsRun s t where
  good : t.tallies.good ≤ s.tallies.good
  withdrawn : s.WithdrawnWithinGood → s.tallies.good < 4294967295 → t.WithdrawnWithinGood

theorem KeepsRun.trans {s t u : State} (h : KeepsRun s t) (k : KeepsRun t u) : KeepsRun s u where
  queues := k.queues ∘ h.queues
  makeups := k.makeups ∘ h.makeups
  agrees := k.agrees ∘ h.agrees
  window := k.window ∘ h.window
  heads hw hp := k.heads (h.window hw) (h.heads hw hp)
  staging := k.staging ∘ h.staging
  form := k.form ∘ h.form

theorem Keeps.trans {s t u : State} (h : Keeps s t) (k : Keeps t u) : Keeps s u :=
  ⟨h.toKeepsRun.trans k.toKeepsRun, k.good.trans h.good,
    fun hw hg => k.withdrawn (h.withdrawn hw hg) (h.good.trans_lt hg)⟩

theorem PressAct.keeps {s t : State} (h : PressAct s t) : Keeps s t where
  queues hq := by
    obtain ⟨hn, hp, hs⟩ := hq
    exact ⟨h.notices hn, by rwa [h.links], by rwa [h.links]⟩
  makeups := h.makeups
  agrees := h.agrees
  window := h.window
  heads := h.heads
  staging := h.staging
  form := h.form
  good := h.good.le
  withdrawn hw _ := by simpa [State.WithdrawnWithinGood, h.good, h.withdrawn] using hw

theorem Keeps.refl (s : State) : Keeps s s := (PressAct.refl s).keeps

/-! ### The end of a run -/

/-- R157: the teardown leaves an IDLE part that meets every invariant of a run. -/
theorem Keeps.teardown (s : State) : Keeps s s.teardown where
  queues := id
  makeups := id
  agrees _ := by simp [State.RunAgrees, State.teardown]
  window := fun ⟨_, _, hpath⟩ => ⟨by simp [State.teardown], by simp [State.teardown, State.windowEnd],
    fun p => by simpa [State.teardown, State.ply, PlyState.teardown] using hpath p⟩
  heads _ _ hrun := by simp [State.teardown, State.inRun] at hrun
  staging _ := by
    simp [State.StagingBounded, State.teardown, State.ply, PlyState.teardown, HeadController.initial]
  form _ hrun := by simp [State.teardown, State.inRun] at hrun
  good := le_rfl
  withdrawn hw _ := hw

theorem Keeps.finishRun (s : State) (way : RunEnd) : Keeps s (s.finishRun way) :=
  ((PressAct.notify s _).keeps.trans (.teardown _)).trans (PressAct.notifyRunState _).keeps

theorem Keeps.testEnd (s : State) : Keeps s s.testEnd := by
  unfold State.testEnd
  split
  · exact .finishRun s _
  · split
    · exact .finishRun s _
    · exact .refl s

theorem State.finishRun_tallies (s : State) (way : RunEnd) : (s.finishRun way).tallies = s.tallies := by
  simp [State.finishRun, State.teardown]

theorem State.testEnd_tallies (s : State) : s.testEnd.tallies = s.tallies := by
  unfold State.testEnd
  split
  · rw [State.finishRun_tallies]
  · split
    · rw [State.finishRun_tallies]
    · rfl

/-! ### The marriage -/

theorem PressAct.checkAlignment (s : State) (j : Nat) : PressAct s (s.checkAlignment j).1 :=
  .foldl (fun s p => .raiseFault s p _) _ s

theorem PressAct.finalChecks (s : State) (j : Nat) : PressAct s (s.finalChecks j).1 :=
  .modSlot fun _ => id

theorem PressAct.segmentDone (s : State) (j : Nat) (slot : Slot) : PressAct s (s.segmentDone j slot) := by
  unfold State.segmentDone
  split
  · exact .refl s
  · split
    · exact .notify _ _
    · exact .refl s

/-- Steps 6 and 7 of R110 in a run. -/
theorem KeepsRun.closeMarriage {s : State} (hrun : s.inRun = true) (hs : s.slots ≠ []) (j : Nat)
    (slot : Slot) : KeepsRun s (s.closeMarriage j slot) := by
  have hrecord : KeepsRun s { s with
      marker := slot.outcome.marks
      tallies := s.tallies.count slot.outcome slot.isMakeup
      lastMarriage := some (slot.marriageRecord j) } :=
    { queues := id, makeups := id, window := id, heads := fun _ => id, staging := id, form := id
      agrees := fun ⟨h1, h2, h3, _⟩ =>
        ⟨h1, h2, h3, fun hi => by simp only [State.inRun, decide_eq_true_eq] at hrun; exact absurd hi hrun⟩ }
  refine hrecord.trans (Keeps.toKeepsRun (PressAct.keeps (.retireSlot ?_)))
  exact hs

/-- R117: a marriage leaves Withdrawn, and raises Good or leaves it. -/
theorem Tallies.count_withdrawn (t : Tallies) (o : SetOutcome) (makeup : Bool) :
    (t.count o makeup).withdrawn = t.withdrawn := by cases o <;> rfl

theorem Tallies.good_le_count {t : Tallies} (h : t.good < 4294967295) (o : SetOutcome) (makeup : Bool) :
    t.good ≤ (t.count o makeup).good := by
  cases o <;> simp [Tallies.count, raiseTally, Config.maxTally, h]

theorem KeepsRun.judge {s : State} (hrun : s.inRun = true) (j : Nat) :
    KeepsRun s (s.judge j)
    ∧ (s.WithdrawnWithinGood → s.tallies.good < 4294967295 → (s.judge j).WithdrawnWithinGood) := by
  unfold State.judge
  split
  · exact ⟨(Keeps.refl s).toKeepsRun, fun h _ => h⟩
  · rename_i slot hslot
    have hs : s.slots ≠ [] := by
      intro h
      simpa [h] using (State.slotAt_eq_some.1 hslot).2
    have hdone := PressAct.segmentDone (s.closeMarriage j slot) j slot
    refine ⟨((KeepsRun.closeMarriage hrun hs j slot).trans hdone.keeps.toKeepsRun).trans
      (Keeps.testEnd _).toKeepsRun, fun hw hg => ?_⟩
    rw [State.WithdrawnWithinGood, State.testEnd_tallies, hdone.good, hdone.withdrawn]
    simp only [State.closeMarriage, State.retireSlot_tallies, Tallies.count_withdrawn]
    exact hw.trans (Tallies.good_le_count hg _ _)

/-- R110: the steps of a marriage before the set is judged. -/
def State.settled (s : State) : State :=
  let s1 := (s.modSlot s.marriageSlot Slot.skipIfOpen).checkAlignment s.marriageSlot
  let s2 := s1.1.finalChecks s.marriageSlot
  s2.1.takeSpoils s.marriageSlot (s1.2 ++ s2.2)

theorem State.marry_eq (s : State) : s.marry = s.settled.judge s.marriageSlot := rfl

theorem PressAct.settled (s : State) : PressAct s s.settled :=
  (((PressAct.skipIfOpen s s.marriageSlot).trans (.checkAlignment _ _)).trans (.finalChecks _ _)).trans
    (.takeSpoils _ _ _)

theorem PressAct.ensureMarriageSlot (s : State) : PressAct s s.ensureMarriageSlot := by
  unfold State.ensureMarriageSlot
  split
  · exact .create s _
  · exact .refl s

/-- R109, R110: a set-cutoff. -/
theorem KeepsRun.setCutoff {s t : State} (h : exec .setCutoff s = .next t) :
    KeepsRun s t ∧ (s.WithdrawnWithinGood → s.tallies.good < 4294967295 → t.WithdrawnWithinGood) := by
  cases h
  dsimp only
  split
  · rename_i hrun
    split
    · exact ⟨(Keeps.refl s).toKeepsRun, fun h _ => h⟩
    · have hact := (PressAct.ensureMarriageSlot s).trans (.settled _)
      obtain ⟨hk, hw⟩ := KeepsRun.judge (hact.inRun.trans hrun) s.ensureMarriageSlot.marriageSlot
      rw [State.marry_eq]
      exact ⟨hact.keeps.toKeepsRun.trans hk, fun h hg =>
        hw (hact.keeps.withdrawn h hg) (hact.good.trans_lt hg)⟩
  · exact ⟨(Keeps.refl s).toKeepsRun, fun h _ => h⟩

end Sys2Proof.Machine

namespace Sys2Proof.Machine

/-! ## What every request keeps -/

/-- What a request does apart from its reply: it keeps the invariants, leaves the links alone and sends
nothing. -/
structure Handled (s t : State) : Prop extends Keeps s t where
  links : t.links = s.links
  out : t.out = s.out

theorem Handled.refl (s : State) : Handled s s := ⟨.refl s, rfl, rfl⟩

theorem Handled.trans {s t u : State} (h : Handled s t) (k : Handled t u) : Handled s u :=
  ⟨h.toKeeps.trans k.toKeeps, k.links.trans h.links, k.out.trans h.out⟩

theorem PressAct.handled {s t : State} (h : PressAct s t) (hout : t.out = s.out) : Handled s t :=
  ⟨h.keeps, h.links, hout⟩

/-- A change of the books alone. -/
theorem Handled.ofBooks {s t : State} (hbooks : t = s.withBooks t) (hrun : t.inRun = s.inRun)
    (hnotices : s.notices.length ≤ Config.noticeCapacity → t.notices.length ≤ Config.noticeCapacity)
    (hmakeups : s.MakeupsOrdered → t.MakeupsOrdered) (hagrees : s.RunAgrees → t.RunAgrees)
    (hgood : t.tallies.good = s.tallies.good)
    (hwithdrawn : t.tallies.withdrawn = s.tallies.withdrawn) : Handled s t :=
  (PressAct.ofBooks hbooks hrun hnotices hmakeups hagrees hgood hwithdrawn).handled
    (by rw [hbooks]; rfl)

theorem Handled.finishRun (s : State) (way : RunEnd) : Handled s (s.finishRun way) :=
  ⟨.finishRun s way, by simp [State.finishRun, State.teardown], by simp [State.finishRun, State.teardown]⟩

theorem Handled.testEnd (s : State) : Handled s s.testEnd := by
  unfold State.testEnd
  split
  · exact .finishRun s _
  · split
    · exact .finishRun s _
    · exact .refl s

/-- A change of the tables, the owner, the withheld flag or the restart. -/
theorem Handled.ofTables {s t : State} (hrun : t.inRun = s.inRun) (hagrees : s.RunAgrees → t.RunAgrees)
    (hplies : t.plies = s.plies) (hslots : t.slots = s.slots)
    (hmarriage : t.marriageSlot = s.marriageSlot) (hmakeups : t.makeups = s.makeups)
    (hrender : t.render = s.render) (hparams : t.params = s.params) (htallies : t.tallies = s.tallies)
    (hnotices : t.notices = s.notices) (hlinks : t.links = s.links) (hout : t.out = s.out) :
    Handled s t := by
  have hply : ∀ p, t.ply p = s.ply p := fun p => by simp [State.ply, hplies]
  have hactive : ∀ p, t.active p = s.active p := fun p => by simp [State.active, hply]
  constructor
  constructor
  constructor
  case heads => exact fun _ h => h.of_eq hrun hactive (fun p => by rw [hply]) hslots hmarriage
  case queues => simp [State.LinksBounded, hlinks, hnotices]
  case makeups => simp [State.MakeupsOrdered, hmakeups]
  case window => simp [State.WindowBounded, State.windowEnd, hslots, hmarriage, hply]
  case staging => simp [State.StagingBounded, hrender, hply]
  case form => simp [State.PositionsInForm, hrun, hactive, hply, State.cutoff, hparams]
  case good => rw [htallies]
  case withdrawn => simp [State.WithdrawnWithinGood, htallies]; tauto
  all_goals assumption

/-- A change of one ply's record and state that keeps its part of the invariants. -/
theorem Handled.modPly {s : State} {p : Ply} {f : PlyState → PlyState}
    (hpath : (s.ply p).record.PathFits → (f (s.ply p)).record.PathFits)
    (hactive : s.inRun = true → (f (s.ply p)).record.active = (s.ply p).record.active)
    (hhead : (f (s.ply p)).unit.headSlot = (s.ply p).unit.headSlot)
    (hform : s.inRun = true → (s.ply p).InForm s.cutoff → (f (s.ply p)).InForm s.cutoff)
    (hqueue : (f (s.ply p)).head.queue.length ≤ (s.ply p).head.queue.length) :
    Handled s (s.modPly p f) := by
  have hlen : ∀ q, ((s.modPly p f).ply q).head.queue.length ≤ (s.ply q).head.queue.length := by
    intro q; rw [State.ply_modPly]; split <;> simp_all
  have hact : s.inRun = true → ∀ q, (s.modPly p f).active q = s.active q := by
    intro hr q; unfold State.active; rw [State.ply_modPly]; split <;> simp_all
  constructor
  constructor
  constructor
  case window =>
    refine fun ⟨hl, he, hp⟩ => ⟨hl, he, fun q => ?_⟩
    rw [State.ply_modPly]
    split
    · exact hpath (hp p)
    · exact hp q
  case heads =>
    intro _ h hrun
    refine (h.of_eq (t := s.modPly p f) rfl (hact hrun) (fun q => ?_) rfl rfl) hrun
    rw [State.ply_modPly]; split <;> simp_all
  case staging =>
    intro ⟨hall, hrender⟩
    exact ⟨fun q => (hlen q).trans (hall q), fun r hr => (hlen _).trans_lt (hrender r hr)⟩
  case form =>
    intro h hrun q hq
    have hrun : s.inRun = true := hrun
    have hsq := h hrun q (by rwa [hact hrun q] at hq)
    rw [State.ply_modPly]
    split
    · subst_vars; exact hform hrun hsq
    · exact hsq
  case withdrawn => exact fun h _ => h
  all_goals simp [State.LinksBounded, State.RunAgrees, State.MakeupsOrdered]

/-! ### Control and configuration -/

theorem State.queueNotice_links_out (s : State) (n : Notice) (d : Destination) :
    Handled s (s.queueNotice n d) := by
  obtain ⟨hlt, he⟩ | ⟨-, he⟩ := s.queueNotice_cases n d <;> rw [he]
  · refine .ofBooks rfl rfl (fun _ => ?_) id id rfl rfl
    simp; omega
  · exact .ofTables rfl id rfl rfl rfl rfl rfl rfl rfl rfl rfl rfl

theorem Handled.grantControl (s : State) (l : Link) (new : Owner) :
    Handled s (s.grantControl l new).2 := by
  unfold State.grantControl
  split
  · exact .refl s
  · have howner : Handled s { s with owner := new } :=
      .ofTables rfl id rfl rfl rfl rfl rfl rfl rfl rfl rfl rfl
    exact (howner.trans (State.queueNotice_links_out _ _ _)).trans (State.queueNotice_links_out _ _ _)

theorem Handled.takeControl (l : Link) (s : State) : Handled s (s.takeControl l).2 := by
  unfold State.takeControl
  split <;> first | exact .refl s | exact .grantControl s _ _

theorem Handled.releaseControl (l : Link) (s : State) : Handled s (s.releaseControl l).2 := by
  unfold State.releaseControl
  split
  · exact .grantControl s _ _
  · exact .refl s

theorem PlyRecord.PathFits.limited {r : PlyRecord} (h : r.PathFits) : r.limited.PathFits := h

/-- R52: SET-PLY takes path lengths of 1..120 alone. -/
theorem decodeSetPly_pathFits {pl : List Byte} {p : Ply} {r : PlyRecord}
    (h : decodeSetPly pl = some (p, r)) : r.PathFits := by
  simp only [decodeSetPly, Option.bind_eq_bind, Option.bind_eq_some_iff] at h
  obtain ⟨_, -, r', hr, h⟩ := h
  cases h
  simp only [decodeRecord, Option.bind_eq_bind, Option.bind_eq_some_iff, inRange_eq_some_iff] at hr
  obtain ⟨_, -, _, -, d, ⟨hd, rfl⟩, _, -, _, -, _, -, _, -, _, -, _, -, _, -, hr⟩ := hr
  cases hr
  exact PlyRecord.PathFits.limited hd

theorem Handled.setPly (pl : List Byte) (s : State) : Handled s (s.setPly pl).2 := by
  unfold State.setPly
  split
  · exact .refl s
  · rename_i hidle
    split
    · exact .refl s
    · rename_i hread
      dsimp only [done]
      refine .modPly (fun _ => ?_) (fun h => absurd h hidle) rfl (fun h => absurd h hidle) le_rfl
      exact decodeSetPly_pathFits hread

theorem Handled.setLayout (pl : List Byte) (s : State) : Handled s (s.setLayout pl).2 := by
  unfold State.setLayout
  split
  · exact .refl s
  · split
    · exact .refl s
    · exact .ofTables rfl id rfl rfl rfl rfl rfl rfl rfl rfl rfl rfl

theorem Handled.setBlock (pl : List Byte) (s : State) : Handled s (s.setBlock pl).2 := by
  unfold State.setBlock
  split
  · exact .refl s
  · split
    · exact .refl s
    · exact .ofTables rfl id rfl rfl rfl rfl rfl rfl rfl rfl rfl rfl

theorem Handled.setSegment (pl : List Byte) (s : State) : Handled s (s.setSegment pl).2 := by
  unfold State.setSegment
  split
  · exact .refl s
  · split
    · exact .refl s
    · exact .ofTables rfl id rfl rfl rfl rfl rfl rfl rfl rfl rfl rfl

theorem Handled.setTrim (pl : List Byte) (s : State) : Handled s (s.setTrim pl).2 := by
  unfold State.setTrim
  split
  · exact .refl s
  · dsimp only [done, State.storeTrim]
    refine .modPly (fun h => h) (fun _ => rfl) rfl (fun _ h => h) ?_
    dsimp only
    split <;> exact le_rfl

theorem Handled.clearMakeups (s : State) : Handled s s.clearMakeups.2 := by
  unfold State.clearMakeups
  split
  · exact .refl s
  · rename_i hidle
    refine .ofBooks rfl rfl id (fun _ => by simp [State.MakeupsOrdered, done]) ?_ rfl rfl
    rintro ⟨h1, h2, h3, h4⟩
    refine ⟨h1, h2, fun hr _ => ?_, h4⟩
    simp only [State.inRun, decide_eq_true_eq] at hidle
    exact absurd hr hidle

/-! ### The run -/

theorem Handled.giveCause (s : State) (c : HoldCause) : Handled s (s.giveCause c) :=
  (PressAct.giveCause s c).handled (by simp)

theorem Handled.requestHold (s : State) : Handled s s.requestHold.2 := by
  unfold State.requestHold
  split
  · exact .giveCause s _
  · exact .refl s

/-- R151: a HELD run goes on. -/
theorem Handled.resume {s : State} (hrun : s.inRun = true) (hheld : s.RunAgrees → s.runState = .held) :
    Handled s s.resume := by
  have hrunning : Handled s { s with causes := HoldCauses.empty, runState := .running } := by
    refine .ofBooks rfl ?_ id id ?_ rfl rfl
    · rw [hrun]; rfl
    · intro ha
      have hs := hheld ha
      obtain ⟨h1, h2, h3, h4⟩ := ha
      simp only [hs, reduceCtorEq, false_iff] at h2
      exact ⟨by simp, by simpa using h2, fun _ => h3 (by simp [hs]), by simp⟩
  exact (hrunning.trans ((PressAct.notifyRunState _).handled (by simp))).trans (.testEnd _)

theorem Handled.setCursor (s : State) (n : Nat) (c : Option Cursor) :
    Handled s { s.countSkips n with cursor := c } :=
  ((PressAct.countSkips s n).trans (.setCursor _ _)).handled rfl

theorem Handled.requestRelease (s : State) : Handled s s.requestRelease.2 := by
  unfold State.requestRelease
  split
  · exact .refl s
  rename_i hheld
  simp only [ne_eq, Decidable.not_not] at hheld
  have hrun : s.inRun = true := by simp [State.inRun, hheld]
  split
  · exact .refl s
  split
  · exact .refl s
  split
  · exact .resume hrun fun _ => hheld
  · split
    · unfold State.renormalise
      split
      · exact (Handled.setCursor s _ _).trans (.resume hrun fun _ => hheld)
      · exact .setCursor s _ _
    · exact .resume hrun fun _ => hheld

theorem State.enterSegment_out (s : State) (c : Cursor) (i : Nat) (g : Segment) (pass : Nat) :
    (s.enterSegment c i g pass).out = s.out := by
  unfold State.enterSegment State.settleCursor
  split <;> simp [State.reportExhausted]

theorem Handled.requestContinue (s : State) : Handled s s.requestContinue.2 := by
  unfold State.requestContinue
  split
  · split
    · split
      · unfold State.continueChain
        split
        · exact (PressAct.endChain s _).handled rfl
        · exact .refl s
        · exact (PressAct.enterSegment s _ _ _ _).handled (State.enterSegment_out ..)
      · exact .refl s
    · exact .refl s
  · exact .refl s

theorem Handled.enterDraining {s : State} (hrun : s.inRun = true) (k : DrainKind) :
    Handled s (s.enterDraining k) := by
  have hdraining : Handled s { s with
      causes := HoldCauses.empty, drain := some k, runState := .draining } := by
    have hin : s.inRun = State.inRun { s with
      causes := HoldCauses.empty, drain := some k, runState := .draining } := hrun
    constructor
    constructor
    constructor
    case agrees =>
      refine fun ⟨h1, h2, h3, h4⟩ => ⟨by simp, by simp, fun _ => h3 ?_, by simp⟩
      simpa [State.inRun] using hrun
    case heads => exact fun _ h => h.of_eq hin.symm (fun _ => rfl) (fun _ => rfl) rfl rfl
    case form => exact fun h _ => h hrun
    case withdrawn => exact fun h _ => h
    case good => exact le_rfl
    case links => rfl
    case out => rfl
    all_goals exact id
  exact (hdraining.trans ((PressAct.notifyRunState _).handled (by simp))).trans (.testEnd _)

theorem State.inRun_of_issuing {s : State} (h : s.issuing = true) : s.inRun = true := by
  rcases (s.issuing_iff).1 h with h | h <;> simp [State.inRun, h]

theorem Handled.closeCursor (s : State) : Handled s s.closeCursor :=
  (PressAct.setCursor s _).handled rfl

theorem Handled.requestEnd (s : State) : Handled s s.requestEnd.2 := by
  unfold State.requestEnd
  split
  · have hrun : s.closeCursor.inRun = true := State.inRun_of_issuing (s := s) ‹_›
    exact (Handled.closeCursor s).trans (.enterDraining hrun _)
  · exact .refl s

theorem PressAct.voidAll (s : State) : PressAct s s.voidAll.1 := by
  have hvoid : PressAct s { s with slots := s.slots.map fun slot : Slot => slot.makeVoid .abort } := by
    refine .ofSlots (by simp) fun i y hy hopened => .inl ?_
    rw [List.getElem?_map] at hy
    obtain ⟨x, hx, rfl⟩ := Option.map_eq_some_iff.1 hy
    exact ⟨x, hx, Slot.makeVoid_not_opened hopened⟩
  exact (hvoid.trans (.bookkeeping _ _)).trans (.testAllLoaded _)

theorem State.voidAll_out (s : State) : s.voidAll.1.out = s.out :=
  (State.bookkeeping_frame { s with slots := s.slots.map fun slot : Slot => slot.makeVoid .abort }
    (s.slots.filterMap Slot.undone)).out

theorem Handled.abortFirst {s : State} (hrun : s.inRun = true) : Handled s s.abortFirst.2 := by
  have hvoid := PressAct.voidAll s.closeCursor
  exact ((Handled.closeCursor s).trans (hvoid.handled (State.voidAll_out _))).trans
    (.enterDraining (hvoid.inRun.trans hrun) _)

theorem Tallies.foldl_retireVoid (slots : List Slot) (t : Tallies) :
    (slots.foldl (fun t _ => t.retireVoid) t).good = t.good
    ∧ (slots.foldl (fun t _ => t.retireVoid) t).withdrawn = t.withdrawn := by
  induction slots generalizing t with
  | nil => exact ⟨rfl, rfl⟩
  | cons x xs ih => exact ih t.retireVoid

/-- R156: the slots left are retired, which empties the window and leaves its end. -/
theorem Handled.retireAll (s : State) : Handled s s.retireAll := by
  obtain ⟨hgood, hwithdrawn⟩ := Tallies.foldl_retireVoid s.slots s.tallies
  constructor
  constructor
  constructor
  case agrees =>
    intro ⟨h1, h2, h3, h4⟩
    refine ⟨h1, h2, h3, fun hi => ?_⟩
    obtain ⟨hslots, hm, hr, hk⟩ := h4 hi
    exact ⟨rfl, by simp [State.retireAll, State.windowEnd, hslots, hm], hr, hk⟩
  case window =>
    exact fun ⟨_, hend, hpath⟩ => ⟨by simp [State.retireAll], hend, hpath⟩
  case heads =>
    refine fun _ h hrun p hp => ⟨(h hrun p hp).1, fun j slot _ hslot => ?_⟩
    simpa [State.retireAll] using (State.slotAt_eq_some.1 hslot).2
  case good => exact hgood.le
  case withdrawn =>
    intro h _
    simpa [State.WithdrawnWithinGood, State.retireAll, hgood, hwithdrawn] using h
  case links => rfl
  case out => rfl
  all_goals exact id

/-- R156: the second ABORT-RUN. -/
theorem Handled.abortSecond (s : State) : Handled s s.abortSecond.2 :=
  (Handled.retireAll s).trans (.finishRun _ _)

theorem Handled.requestAbort (s : State) : Handled s s.requestAbort.2 := by
  unfold State.requestAbort
  split
  · exact .refl s
  · exact .abortSecond s
  all_goals exact .abortFirst (by simp_all [State.inRun])

theorem Handled.removeMakeupsCause {s : State} (hrun : s.inRun = true) :
    Handled s s.removeMakeupsCause := by
  have hheld : s.causes.makeups = true → s.RunAgrees → s.runState = .held := by
    intro hc ⟨h1, _⟩
    refine h1.2 fun he => ?_
    simp [he, HoldCauses.empty] at hc
  unfold State.removeMakeupsCause
  dsimp only
  split
  · rename_i hc
    split
    · exact .resume hrun (hheld hc)
    · rename_i hrest
      refine Handled.trans ?_ ((PressAct.notifyRunState _).handled (by simp))
      refine .ofBooks rfl rfl id id ?_ rfl rfl
      intro ha
      have hs := hheld hc ha
      obtain ⟨h1, h2, h3, h4⟩ := ha
      exact ⟨by simp [hs, hrest], h2, h3, h4⟩
  · exact .refl s

theorem Handled.requestMakeups (s : State) : Handled s s.requestMakeups.2 := by
  unfold State.requestMakeups
  split
  · rename_i h
    simp only [Bool.and_eq_true, Bool.not_eq_true', List.isEmpty_eq_false_iff] at h
    obtain ⟨hissuing, hnil⟩ := h
    have hbatch : Handled s { s with batch := true } :=
      .ofTables rfl (fun ⟨h1, h2, _, h4⟩ => ⟨h1, h2, fun _ _ => hnil, h4⟩) rfl rfl rfl rfl rfl rfl rfl
        rfl rfl rfl
    exact hbatch.trans (.removeMakeupsCause (State.inRun_of_issuing hissuing))
  · exact .refl s

theorem Handled.clearFault (pl : List Byte) (s : State) : Handled s (s.clearFault pl).2 := by
  unfold State.clearFault
  split
  · exact .refl s
  · dsimp only [done]
    refine .modPly id (fun _ => rfl) ?_ (fun _ hform => ?_) le_rfl
    · unfold PlyState.clearFault
      dsimp only
      split <;> rfl
    · obtain ⟨hx, hm, ho, hr⟩ := hform
      unfold PlyState.clearFault PlyState.InForm
      dsimp only
      split
      · exact ⟨hx, hm, ho, by simp⟩
      · exact ⟨hx, hm, ho, hr⟩

theorem Handled.requestWithdraw (pl : List Byte) (s : State) : Handled s (s.requestWithdraw pl).2 := by
  unfold State.requestWithdraw
  split
  · exact .refl s
  split
  · exact .refl s
  split
  · exact .refl s
  rename_i hgood
  split
  · exact .refl s
  split
  · exact .refl s
  split
  · exact .refl s
  rename_i v g _ _ _ _ _
  have hjoin := PressAct.joinMakeup s ⟨v, g, (s.cursor.map (·.pass)).getD 1, none⟩
  have hout := (State.joinMakeup_frame s ⟨v, g, (s.cursor.map (·.pass)).getD 1, none⟩).out
  have hk := hjoin.keeps
  refine ⟨⟨⟨hk.queues, hk.makeups, hk.agrees, hk.window, hk.heads, hk.staging, hk.form⟩, hk.good,
    fun hw hg => ?_⟩, hjoin.links, hout⟩
  simp only [done, State.withdraw, State.WithdrawnWithinGood, hjoin.good, hjoin.withdrawn, raiseTally,
    Config.maxTally]
  split <;> omega

theorem Handled.requestRestart (l : Link) (s : State) : Handled s (s.requestRestart l).2 := by
  unfold State.requestRestart
  split
  · exact .refl s
  · exact .ofTables rfl id rfl rfl rfl rfl rfl rfl rfl rfl rfl rfl

end Sys2Proof.Machine

namespace Sys2Proof.Machine

/-! ### START-RUN (R149, R150) -/

/-- R149: a request that is read names a cutoff of at least 256. -/
theorem decodeStartRun_cutoff {pl : List Byte} {q : StartRequest} (h : decodeStartRun pl = some q) :
    256 ≤ q.cutoff := by
  simp only [decodeStartRun, Option.bind_eq_bind, Option.bind_eq_some_iff, inRange_eq_some_iff] at h
  obtain ⟨_, -, c, ⟨⟨hc, -⟩, rfl⟩, _, -, _, -, _, -, _, -, h⟩ := h
  cases h
  exact hc

/-- R149 check 5: in a run that starts, no active ply fails a check of R55. -/
theorem State.badPly_of_start {s : State} {q : StartRequest} {value skips : Nat}
    (h : s.startDecision q = .start value skips) : ∃ segs, s.badPly q.cutoff segs = none := by
  unfold State.startDecision at h
  split at h
  · cases h
  · split at h
    · cases h
    · split at h <;> first | exact ⟨_, ‹_›⟩ | cases h

/-- R55 check 3: the mark phase of an active ply lies below C. -/
theorem State.markPhase_lt_of_start {s : State} {q : StartRequest} {value skips : Nat}
    (h : s.startDecision q = .start value skips) {p : Ply} (hp : s.active p = true) :
    (s.ply p).record.markPhase < q.cutoff := by
  obtain ⟨segs, hbad⟩ := State.badPly_of_start h
  have hmem : p ∈ s.activePlies := List.mem_filter.2 ⟨plyOrder_mem p, hp⟩
  have hnone := List.findSome?_eq_none_iff.1 hbad p hmem
  simp only [Option.map_eq_none_iff, PlyRecord.failedCheck] at hnone
  by_contra hle
  have hmark : (s.ply p).record.markFits q.cutoff = false := by
    simp only [PlyRecord.markFits, Bool.and_eq_false_iff, decide_eq_false_iff_not]
    right; omega
  simp only [hmark] at hnone
  split at hnone
  · cases hnone
  · split at hnone <;> simp at hnone

theorem PlyState.atStart_record (ps : PlyState) (c : Nat) : (ps.atStart c).record = ps.record := by
  unfold PlyState.atStart
  split <;> rfl

/-- R150: the start state, before the lead-in is built. -/
def State.startBlocks (s : State) (q : StartRequest) (value : Nat) : State :=
  { s with
    params := some ⟨q.cutoff, q.segment, q.faultAction⟩
    drain := none
    runPlies := s.plies.map fun _ ps => ps.record.active
    tallies := Tallies.zero
    lastMarriage := none
    policy := some q.policy
    endMakeups := some q.endMakeups
    plies := s.plies.map fun _ ps => ps.atStart q.cutoff
    lastGranted := .p5
    cursor := some ⟨.active, q.segment, 1, value, 0⟩
    batch := false }

theorem State.startRun_eq (s : State) (q : StartRequest) (value skips : Nat) :
    s.startRun q value skips =
      (((s.startBlocks q value).buildLeadIn.countSkips skips).enterRun).notifyRunState := rfl

theorem State.ply_startBlocks (s : State) (q : StartRequest) (value : Nat) (p : Ply) :
    (s.startBlocks q value).ply p = (s.ply p).atStart q.cutoff := by
  simp [State.startBlocks, State.ply]

theorem State.active_startBlocks (s : State) (q : StartRequest) (value : Nat) (p : Ply) :
    (s.startBlocks q value).active p = s.active p := by
  simp [State.active, State.ply_startBlocks, PlyState.atStart_record]

/-- The entry of a run changes the run state and the causes alone. -/
theorem State.enterRun_eq (s : State) : ∃ r c, r ≠ .idle ∧ r ≠ .draining
    ∧ (r = .held ↔ c ≠ HoldCauses.empty) ∧ s.enterRun = { s with runState := r, causes := c } := by
  unfold State.enterRun
  split
  · exact ⟨_, _, by simp, by simp, by simp, rfl⟩
  · exact ⟨_, _, by simp, by simp, by simp, rfl⟩

/-- Table 1-2: no active ply's path is longer than Dmax. -/
theorem State.pathLength_le_dmax {s : State} {p : Ply} (hp : s.active p = true) :
    (s.ply p).record.pathLength ≤ s.dmax := by
  have hfold : ∀ (l : List Nat) (a : Nat), a ≤ l.foldl max a ∧ ∀ x ∈ l, x ≤ l.foldl max a := by
    intro l
    induction l with
    | nil => simp
    | cons y ys ih =>
      intro a
      obtain ⟨h1, h2⟩ := ih (max a y)
      simp only [List.foldl_cons, List.mem_cons, forall_eq_or_imp]
      exact ⟨(le_max_left a y).trans h1, (le_max_right a y).trans h1, h2⟩
  exact (hfold _ 0).2 _ (List.mem_map.2 ⟨p, List.mem_filter.2 ⟨plyOrder_mem p, hp⟩, rfl⟩)

theorem State.dmax_le {s : State} {n : Nat} (h : ∀ p, (s.ply p).record.pathLength ≤ n) :
    s.dmax ≤ n := by
  have hfold : ∀ (l : List Nat) (a : Nat), a ≤ n → (∀ x ∈ l, x ≤ n) → l.foldl max a ≤ n := by
    intro l
    induction l with
    | nil => simp
    | cons y ys ih =>
      intro a ha hl
      exact ih _ (max_le ha (hl y (by simp))) fun x hx => hl x (by simp [hx])
  refine hfold _ 0 (Nat.zero_le n) fun x hx => ?_
  obtain ⟨p, -, rfl⟩ := List.mem_map.1 hx
  exact h p

/-- R150: the state in which a run starts. -/
theorem Handled.startRun {s : State} {q : StartRequest} {value skips : Nat}
    (hcutoff : 0 < q.cutoff) (hstart : s.startDecision q = .start value skips) :
    Handled s (s.startRun q value skips) := by
  rw [State.startRun_eq]
  refine Handled.trans ?_ ((PressAct.notifyRunState _).handled (by simp))
  obtain ⟨r, c, hidle, hdraining, hheld, he⟩ :=
    ((s.startBlocks q value).buildLeadIn.countSkips skips).enterRun_eq
  rw [he]
  generalize ht : ({ (s.startBlocks q value).buildLeadIn.countSkips skips with
    runState := r, causes := c } : State) = t
  have hply : ∀ p, t.ply p = (s.ply p).atStart q.cutoff := fun p => by
    subst ht; exact State.ply_startBlocks s q value p
  have hrecord : ∀ p, (t.ply p).record = (s.ply p).record := fun p => by
    rw [hply, PlyState.atStart_record]
  have hactive : ∀ p, t.active p = s.active p := fun p => by simp only [State.active, hrecord]
  have hon : ∀ p, t.active p = true → t.ply p =
      { record := (s.ply p).record
        run := some ((s.ply p).record.runValues q.cutoff)
        unit := { PositionUnit.initial with
          registration := .search, headSlot := (s.ply p).record.pathLength }
        head := HeadController.initial
        checker := Checker.initial
        capture := none } := fun p hp => by
    rw [hactive, State.active] at hp
    rw [hply, PlyState.atStart, if_pos hp]
  have hslots : t.slots = (List.range ((s.startBlocks q value).dmax + 1)).map
      (s.startBlocks q value).leadInSlot := by subst ht; rfl
  have hmarriage : t.marriageSlot = 0 := by subst ht; rfl
  have hrun : t.runState = r := by subst ht; rfl
  constructor
  constructor
  constructor
  case queues => subst ht; exact id
  case makeups => subst ht; exact id
  case agrees =>
    intro _
    subst ht
    exact ⟨hheld, by simp [hdraining, State.countSkips, State.buildLeadIn, State.startBlocks],
      fun _ hb => by simp [State.countSkips, State.buildLeadIn, State.startBlocks] at hb,
      fun hi => absurd hi hidle⟩
  case window =>
    intro ⟨_, _, hpath⟩
    have hdmax : (s.startBlocks q value).dmax ≤ 120 := State.dmax_le fun p => by
      rw [State.ply_startBlocks, PlyState.atStart_record]; exact (hpath p).2
    refine ⟨?_, ?_, fun p => by rw [hrecord]; exact hpath p⟩
    · simp [hslots, Config.windowCapacity]; omega
    · simp [State.windowEnd, hslots, hmarriage, Config.maxSetIndex]; omega
  case heads =>
    intro _ _ _ p hp
    have hdmax := State.pathLength_le_dmax (s := s.startBlocks q value) (p := p)
      (by rwa [State.active_startBlocks, ← hactive])
    rw [State.ply_startBlocks, PlyState.atStart_record] at hdmax
    refine ⟨?_, fun j slot _ hslot => ?_⟩
    · rw [hon p hp]
      simp [State.windowEnd, hslots, hmarriage]; omega
    · have hmem := List.mem_of_getElem? (State.slotAt_eq_some.1 hslot).2
      rw [hslots] at hmem
      obtain ⟨i, -, rfl⟩ := List.mem_map.1 hmem
      simp [State.leadInSlot]
  case staging =>
    intro ⟨hall, hserved⟩
    have hlen : ∀ p, (t.ply p).head.queue.length ≤ (s.ply p).head.queue.length := fun p => by
      rw [hply, PlyState.atStart]
      split <;> simp [HeadController.initial]
    refine ⟨fun p => (hlen p).trans (hall p), fun x hx => (hlen _).trans_lt (hserved x ?_)⟩
    subst ht; exact hx
  case form =>
    intro _ _ p hp
    have hc : t.cutoff = q.cutoff := by subst ht; rfl
    rw [hon p hp, hc]
    exact ⟨hcutoff, State.markPhase_lt_of_start hstart (by rwa [← hactive]),
      Nat.zero_le _, by simp⟩
  case good => subst ht; simp [State.countSkips, State.buildLeadIn, State.startBlocks, Tallies.zero]
  case withdrawn =>
    intro _ _
    subst ht
    simp [State.WithdrawnWithinGood, State.countSkips, State.buildLeadIn, State.startBlocks, Tallies.zero]
  case links => subst ht; rfl
  case out => subst ht; rfl

theorem Handled.requestStart (pl : List Byte) (s : State) : Handled s (s.requestStart pl).2 := by
  unfold State.requestStart
  split
  · exact .refl s
  split
  · exact .refl s
  · rename_i q hq
    split
    · exact .refl s
    · have := decodeStartRun_cutoff hq
      exact .startRun (by omega) ‹_›

/-! ### Every request, and frames -/

theorem Handled.query {α : Type} (decoded : Option α) (result : α → List Byte) (s : State) :
    Handled s (query decoded result s).2 := by
  unfold Machine.query
  split <;> exact .refl s

/-- R166 test 6: a request decided keeps the invariants, the links and what was sent. -/
theorem Handled.handle (r : Request) (l : Link) (pl : List Byte) (s : State) :
    Handled s (s.handle r l pl).2 := by
  cases r
  case identify | readTally | readCursor | readLink => exact .refl s
  case readStatus => exact .ofTables rfl id rfl rfl rfl rfl rfl rfl rfl rfl rfl rfl
  case readPly | readSlots | readMakeups | readBlock | readLayout | readSegment => exact .query _ _ s
  case takeControl => exact .takeControl l s
  case releaseControl => exact .releaseControl l s
  case setPly => exact .setPly pl s
  case setLayout => exact .setLayout pl s
  case setBlock => exact .setBlock pl s
  case setSegment => exact .setSegment pl s
  case setTrim => exact .setTrim pl s
  case clearMakeups => exact .clearMakeups s
  case startRun => exact .requestStart pl s
  case hold => exact .requestHold s
  case release => exact .requestRelease s
  case continueRun => exact .requestContinue s
  case endRun => exact .requestEnd s
  case abortRun => exact .requestAbort s
  case runMakeups => exact .requestMakeups s
  case clearFault => exact .clearFault pl s
  case withdrawSet => exact .requestWithdraw pl s
  case restart => exact .requestRestart l s

theorem Handled.answer (r : Request) (l : Link) (pl : List Byte) (s : State) :
    Handled s (s.answer r l pl).2 := by
  unfold State.answer
  split
  · exact .refl s
  split
  · exact .refl s
  split
  · exact .refl s
  · exact .handle r l pl s

/-- A change of one link within its bounds. -/
theorem Keeps.modLink {s : State} {l : Link} {f : LinkState → LinkState}
    (h : (s.link l).Bounded → (f (s.link l)).Bounded) : Keeps s (s.modLink l f) := by
  constructor
  case good => exact le_rfl
  case withdrawn => exact fun h _ => h
  constructor
  case queues =>
    refine fun ⟨hn, hp, hs⟩ => ⟨hn, ?_⟩
    cases l
    · exact ⟨h hp, hs⟩
    · exact ⟨hp, h hs⟩
  case heads => exact fun _ => id
  all_goals exact id

theorem raiseCounter_le (n : Nat) : raiseCounter n ≤ Config.maxCounter := Nat.min_le_right _ _

theorem Keeps.overrun (s : State) (l : Link) : Keeps s (s.overrun l) :=
  .modLink fun ⟨hr, hl, hg, hc, _⟩ => ⟨hr, hl, hg, hc, raiseCounter_le _⟩

theorem Keeps.pushReply {s : State} {l : Link} (h : s.repliesFull l = false) (r : Reply) :
    Keeps s (s.pushReply l r) := by
  refine .modLink fun ⟨_, hrest⟩ => ⟨?_, hrest⟩
  simp only [State.repliesFull, decide_eq_false_iff_not] at h
  simp; omega

theorem State.repliesFull_eq {s t : State} (h : t.links = s.links) (l : Link) :
    t.repliesFull l = s.repliesFull l := by
  unfold State.repliesFull State.link
  rw [h]

theorem Keeps.takeRequest (r : Request) (l : Link) (tag : Byte) (pl : List Byte) (s : State) :
    Keeps s (s.takeRequest r l tag pl) := by
  unfold State.takeRequest
  split
  · exact .overrun s l
  · rename_i hfull
    have ha := Handled.answer r l pl s
    refine ha.toKeeps.trans (.pushReply ?_ _)
    rw [State.repliesFull_eq ha.links]
    simpa using hfull

theorem Keeps.takeFrame (l : Link) (kind tag : Byte) (pl : List Byte) (s : State) :
    Keeps s (s.takeFrame l kind tag pl) := by
  unfold State.takeFrame
  split
  · exact .takeRequest _ _ _ _ s
  · split
    · exact .overrun s l
    · exact .pushReply (by simpa using ‹¬ s.repliesFull l = true›) _

theorem State.takeRequest_out (r : Request) (l : Link) (tag : Byte) (pl : List Byte) (s : State) :
    (s.takeRequest r l tag pl).out = s.out := by
  unfold State.takeRequest
  split
  · rfl
  · exact (Handled.answer r l pl s).out

theorem State.takeFrame_out (l : Link) (kind tag : Byte) (pl : List Byte) (s : State) :
    (s.takeFrame l kind tag pl).out = s.out := by
  unfold State.takeFrame
  split
  · exact State.takeRequest_out ..
  · split <;> rfl

/-! ### Receiving and sending -/

theorem Keeps.setRx (s : State) (l : Link) (rx : Option (List Byte)) : Keeps s (s.setRx l rx) :=
  .modLink id

theorem Keeps.countLength (s : State) (l : Link) : Keeps s (s.countLength l) :=
  .modLink fun ⟨hr, _, hrest⟩ => ⟨hr, raiseCounter_le _, hrest⟩

theorem Keeps.countGap (s : State) (l : Link) : Keeps s (s.countGap l) :=
  .modLink fun ⟨hr, hl, _, hrest⟩ => ⟨hr, hl, raiseCounter_le _, hrest⟩

theorem Keeps.countCrc (s : State) (l : Link) : Keeps s (s.countCrc l) :=
  .modLink fun ⟨hr, hl, hg, _, hrest⟩ => ⟨hr, hl, hg, raiseCounter_le _, hrest⟩

/-- R165: bytes received keep the invariants, and drive no line. -/
theorem Keeps.receive (fuel : Nat) (l : Link) (bs : List Byte) (s : State) :
    Keeps s (State.receive fuel l bs s) ∧ (State.receive fuel l bs s).out = s.out := by
  induction fuel generalizing bs s with
  | zero => exact ⟨.refl s, rfl⟩
  | succ fuel ih =>
    have next : ∀ {t : State} (bs : List Byte), Keeps s t → t.out = s.out →
        Keeps s (State.receive fuel l bs t) ∧ (State.receive fuel l bs t).out = s.out :=
      fun bs hk ho => ⟨hk.trans (ih bs _).1, (ih bs _).2.trans ho⟩
    cases bs with
    | nil => exact ⟨.refl s, rfl⟩
    | cons b rest =>
      unfold State.receive
      split
      · split
        · exact next _ (.setRx s l _) rfl
        · exact next _ (.refl s) rfl
      · dsimp only
        split
        · exact next _ (.setRx s l _) rfl
        · exact next _ ((Keeps.setRx s l _).trans (.countLength _ l)) rfl
        · exact next _ ((Keeps.setRx s l _).trans (.countCrc _ l)) rfl
        · exact next _ ((Keeps.setRx s l _).trans (.takeFrame l _ _ _ _)) (State.takeFrame_out ..)

end Sys2Proof.Machine

namespace Sys2Proof.Machine

/-- R164: a frame begun is recorded as sent, on a line that fires nothing. -/
theorem Keeps.beginFrame (s : State) (l : Link) (bytes : List Byte) :
    Keeps s (s.beginFrame l bytes)
    ∧ ∀ p sel, (s.beginFrame l bytes).firesOf p sel = s.firesOf p sel := by
  refine ⟨(Keeps.modLink id).trans (PressAct.keeps (.emit fun _ _ _ => ?_)), fun p sel => ?_⟩
  · simp
  simp [State.firesOf, State.beginFrame, State.emit, State.modLink]

theorem Keeps.setRestart (s : State) (r : RestartPhase) : Keeps s { s with restart := r } :=
  Handled.toKeeps (.ofTables rfl id rfl rfl rfl rfl rfl rfl rfl rfl rfl rfl)

/-- R167: a reply sent leaves its queue. -/
theorem Keeps.transmitReply (s : State) (l : Link) : Keeps s (s.transmitReply l)
    ∧ ∀ p sel, (s.transmitReply l).firesOf p sel = s.firesOf p sel := by
  unfold State.transmitReply
  split
  · rename_i r rest _ hreplies
    have hpop : Keeps s (s.modLink l fun k => { k with replies := rest }) := by
      refine .modLink fun ⟨hr, hrest⟩ => ⟨?_, hrest⟩
      simp only [hreplies, List.length_cons] at hr
      dsimp only
      omega
    dsimp only
    exact ⟨(hpop.trans (.setRestart _ _)).trans (Keeps.beginFrame _ _ _).1, (Keeps.beginFrame _ _ _).2⟩
  · exact ⟨.refl s, fun _ _ => rfl⟩

/-- R173: a notice sent leaves the queue. -/
theorem Keeps.transmitNotice (s : State) (l : Link) : Keeps s (s.transmitNotice l)
    ∧ ∀ p sel, (s.transmitNotice l).firesOf p sel = s.firesOf p sel := by
  unfold State.transmitNotice
  split
  · rename_i q rest _ _ hnotices
    split
    · have hpop : Keeps s { s with notices := rest } := by
        refine PressAct.keeps (.ofBooks rfl rfl (fun h => ?_) id id rfl rfl)
        simp only [hnotices, List.length_cons] at h
        dsimp only
        omega
      unfold State.sendNotice
      exact ⟨(hpop.trans (.modLink id)).trans (Keeps.beginFrame _ _ _).1, (Keeps.beginFrame _ _ _).2⟩
    · exact ⟨.refl s, fun _ _ => rfl⟩
  · exact ⟨.refl s, fun _ _ => rfl⟩

theorem Keeps.endFrame (s : State) (l : Link) : Keeps s (s.endFrame l)
    ∧ (s.endFrame l).out = s.out := by
  unfold State.endFrame
  split
  · exact ⟨.refl s, rfl⟩
  · exact ⟨(Keeps.modLink id).trans (.setRestart _ _), rfl⟩

/-! ### Power-on and RESTART -/

/-- R174: power-on and a performed RESTART leave a state that meets every invariant, its list and its ply
records being sound. -/
theorem Keeps.cleared {s t : State} (hrun : t.runState = .idle) (hcauses : t.causes = HoldCauses.empty)
    (hdrain : t.drain = none) (hslots : t.slots = []) (hmarriage : t.marriageSlot = 0)
    (hrender : t.render = none) (hmarker : t.marker = false) (htallies : t.tallies = Tallies.zero)
    (hmakeups : s.MakeupsOrdered → t.MakeupsOrdered) (hqueues : s.LinksBounded → t.LinksBounded)
    (hpath : (∀ p, (s.ply p).record.PathFits) → ∀ p, (t.ply p).record.PathFits)
    (hstaged : ∀ p, (t.ply p).head.queue = []) : Keeps s t where
  queues := hqueues
  makeups := hmakeups
  agrees _ := by simp [State.RunAgrees, hrun, hcauses, hdrain, hslots, hmarriage, hrender, hmarker]
  window h := ⟨by simp [hslots], by simp [State.windowEnd, hslots, hmarriage], hpath h.2.2⟩
  heads _ _ h := by simp [State.inRun, hrun] at h
  staging _ := by simp [State.StagingBounded, hstaged, hrender]
  form _ h := by simp [State.inRun, hrun] at h
  good := by simp [htallies, Tallies.zero]
  withdrawn _ _ := by simp [State.WithdrawnWithinGood, htallies, Tallies.zero]

theorem Keeps.powerOn (s : State) (a b : Rate) : Keeps s (s.powerOn a b) := by
  have hply : ∀ p, (s.powerOn a b).ply p = PlyState.initial := PerPly.get_all _
  refine .cleared rfl rfl rfl rfl rfl rfl rfl rfl ?_ ?_ ?_ ?_
  · simp [State.MakeupsOrdered, State.powerOn, State.reset]
  · simp [State.LinksBounded, LinkState.Bounded, State.powerOn, LinkState.initial, Config.noticeCapacity]
  · simp [hply, PlyState.initial, PlyRecord.PathFits, PlyRecord.default]
  · simp [hply, PlyState.initial, HeadController.initial]

theorem Keeps.restarted (s : State) (a b : Rate) : Keeps s (s.restarted a b) := by
  have hply : ∀ p, (s.restarted a b).ply p = { PlyState.initial with record := (s.ply p).record } :=
    fun p => by simp [State.restarted, State.ply]
  refine .cleared rfl rfl rfl rfl rfl rfl rfl rfl id ?_ ?_ ?_
  · rintro ⟨-, ⟨hp, -⟩, ⟨hs, -⟩⟩
    simp [State.LinksBounded, LinkState.Bounded, State.restarted, LinkState.restarted,
      Config.noticeCapacity, hp, hs]
  · exact fun h p => by rw [hply]; exact h p
  · simp [hply, PlyState.initial, HeadController.initial]

/-! ### Every command -/

/-- Every command but a marriage keeps the invariants. -/
theorem exec_keeps {c : Instr} (hc : c ≠ .setCutoff) {s t : State} (h : exec c s = .next t) :
    Keeps s t := by
  refine if hpress : isPressCommand c = true then (PressAct.exec hpress h).keeps else ?_
  cases c <;> try exact absurd rfl hpress
  case setCutoff => exact absurd rfl hc
  all_goals cases h
  case powerOn a b => exact .powerOn s a b
  case frameLengthDiscard l len =>
    split
    · exact (Keeps.receive _ l _ s).1
    · exact .refl s
  case frameGapExpiry l =>
    unfold State.gapExpires
    split
    · exact .refl s
    · exact ((Keeps.setRx s l _).trans (.countGap _ l)).trans (Keeps.receive _ l _ _).1
  case frameCrcDiscard l last =>
    split
    · exact (Keeps.receive _ l _ s).1
    · exact .refl s
  case badKind l kind tag payload => exact .takeFrame l kind tag payload s
  case replyTransmit l => exact (Keeps.transmitReply s l).1
  case noticeTransmit l => exact (Keeps.transmitNotice s l).1
  case restartPerformed a b =>
    split
    · exact .restarted s a b
    · exact .refl s
  case frameByteReceived l b => exact (Keeps.receive _ l _ s).1
  case lastByteSent l => exact (Keeps.endFrame s l).1
  all_goals exact .takeRequest _ _ _ _ s

/-- Every command keeps the invariants of a state. -/
theorem exec_keepsRun {c : Instr} {s t : State} (h : exec c s = .next t) : KeepsRun s t := by
  by_cases hc : c = .setCutoff
  · subst hc; exact (KeepsRun.setCutoff h).1
  · exact (exec_keeps hc h).toKeepsRun

/-- A step that answers is idle, or takes the front command on the state with the queue's rest. -/
theorem step_cases {s t : State} (h : step s = .next t) :
    (s.pending = [] ∧ t = s)
    ∨ ∃ c rest, s.pending = c :: rest ∧ exec c { s with pending := rest } = .next t := by
  unfold step at h
  split at h
  · cases h; exact .inl ⟨‹_›, rfl⟩
  · exact .inr ⟨_, _, ‹_›, h⟩

/-- Every step keeps the invariants of a state. -/
theorem step_keepsRun {s t : State} (h : step s = .next t) : KeepsRun s t := by
  obtain ⟨-, rfl⟩ | ⟨c, rest, -, hexec⟩ := step_cases h
  · exact (Keeps.refl _).toKeepsRun
  · have hk := exec_keepsRun hexec
    exact ⟨hk.queues, hk.makeups, hk.agrees, hk.window, hk.heads, hk.staging, hk.form⟩

/-! ### Firing -/

theorem State.firesOf_of_out {s t : State} (h : t.out = s.out) (p : Ply) (sel : Select) :
    t.firesOf p sel = s.firesOf p sel := by
  unfold State.firesOf
  rw [h]

/-- Steps 5 to 9 of R110 drive no line. -/
theorem State.judge_out (s : State) (j : Nat) : (s.judge j).out = s.out := by
  unfold State.judge
  split
  · rfl
  · rw [(Handled.testEnd _).out]
    unfold State.segmentDone State.closeMarriage
    split
    · simp
    · split <;> simp

theorem State.setCutoff_fires (s : State) {p : Ply} (hp : (s.ply p).head.inhibit = true) (sel : Select) :
    (s.ensureMarriageSlot.marry).firesOf p sel = s.firesOf p sel := by
  rw [State.marry_eq, State.firesOf_of_out (State.judge_out _ _)]
  exact ((PressAct.ensureMarriageSlot s).trans (.settled _)).fires p sel hp

/-- No command fires a ply whose head is inhibited. -/
theorem exec_fires {c : Instr} {s t : State} (h : exec c s = .next t) {p : Ply}
    (hp : (s.ply p).head.inhibit = true) (sel : Select) : t.firesOf p sel = s.firesOf p sel := by
  refine if hpress : isPressCommand c = true then (PressAct.exec hpress h).fires p sel hp else ?_
  cases c <;> try exact absurd rfl hpress
  all_goals cases h
  case powerOn a b => rfl
  case setCutoff =>
    dsimp only
    split
    · split
      · rfl
      · exact s.setCutoff_fires hp sel
    · rfl
  case frameLengthDiscard l len =>
    split
    · exact State.firesOf_of_out (Keeps.receive _ l _ s).2 p sel
    · rfl
  case frameGapExpiry l =>
    unfold State.gapExpires
    split
    · rfl
    · exact State.firesOf_of_out (Keeps.receive _ l _ _).2 p sel
  case frameCrcDiscard l last =>
    split
    · exact State.firesOf_of_out (Keeps.receive _ l _ s).2 p sel
    · rfl
  case badKind l kind tag payload => exact State.firesOf_of_out (State.takeFrame_out l kind tag payload s) p sel
  case replyTransmit l => exact (Keeps.transmitReply s l).2 p sel
  case noticeTransmit l => exact (Keeps.transmitNotice s l).2 p sel
  case restartPerformed a b => split <;> rfl
  case frameByteReceived l b => exact State.firesOf_of_out (Keeps.receive _ l _ s).2 p sel
  case lastByteSent l => exact State.firesOf_of_out (Keeps.endFrame s l).2 p sel
  all_goals exact State.firesOf_of_out (State.takeRequest_out ..) p sel

end Sys2Proof.Machine

namespace Sys2Proof.Proofs

open Sys2Proof.Machine

/-- Settles O7: a head that is inhibited stays so through every act of a press-side command, and an
impression fires only on one that is not; no other command drives a fire line. -/
theorem nothingFiresWhileInhibited : Obligations.NothingFiresWhileInhibited := by
  unfold Obligations.NothingFiresWhileInhibited
  intro c s t p sel hexec hinhibit
  exact exec_fires hexec hinhibit sel

/-- Settles O53. -/
theorem stepsKeepTheQueuesBounded : Obligations.StepsKeepTheQueuesBounded := by
  unfold Obligations.StepsKeepTheQueuesBounded
  exact fun s t hinv hstep => (step_keepsRun hstep).queues hinv

/-- Settles O54. -/
theorem stepsKeepTheMakeupListOrdered : Obligations.StepsKeepTheMakeupListOrdered := by
  unfold Obligations.StepsKeepTheMakeupListOrdered
  exact fun s t hinv hstep => (step_keepsRun hstep).makeups hinv

/-- Settles O55. -/
theorem stepsKeepTheRunInAgreement : Obligations.StepsKeepTheRunInAgreement := by
  unfold Obligations.StepsKeepTheRunInAgreement
  exact fun s t hinv hstep => (step_keepsRun hstep).agrees hinv

/-- Settles O56: the bound on the window is the premise under which the heads pass no OPEN slot. -/
theorem stepsKeepTheWindowBounded : Obligations.StepsKeepTheWindowBounded := by
  unfold Obligations.StepsKeepTheWindowBounded
  exact ⟨fun s t hinv hstep => (step_keepsRun hstep).window hinv,
    fun s t hwindow hinv hstep => (step_keepsRun hstep).heads hwindow hinv⟩

/-- Settles O57. -/
theorem stepsKeepTheStagingBounded : Obligations.StepsKeepTheStagingBounded := by
  unfold Obligations.StepsKeepTheStagingBounded
  exact fun s t hinv hstep => (step_keepsRun hstep).staging hinv

/-- Settles O58. -/
theorem stepsKeepPositionsInTheForm : Obligations.StepsKeepPositionsInTheForm := by
  unfold Obligations.StepsKeepPositionsInTheForm
  exact fun s t hinv hstep => (step_keepsRun hstep).form hinv

/-- Settles O59: a marriage may raise Good, and only a WITHDRAW-SET that finds Withdrawn below Good
raises Withdrawn. -/
theorem stepsKeepWithdrawnWithinGood : Obligations.StepsKeepWithdrawnWithinGood := by
  unfold Obligations.StepsKeepWithdrawnWithinGood
  intro s t hwithin hgood hstep
  obtain ⟨-, rfl⟩ | ⟨c, rest, -, hexec⟩ := step_cases hstep
  · exact hwithin
  · by_cases hc : c = .setCutoff
    · subst hc
      exact (KeepsRun.setCutoff hexec).2 hwithin hgood
    · exact (exec_keeps hc hexec).withdrawn hwithin hgood

/-- Settles O60: what each invariant bounds is empty, zero or at its default after reset. -/
theorem resetMeetsTheInvariants : Obligations.ResetMeetsTheInvariants := by
  unfold Obligations.ResetMeetsTheInvariants
  have hply : ∀ p, State.reset.ply p = PlyState.initial := PerPly.get_all _
  have hidle : State.reset.inRun = false := rfl
  refine ⟨?queues, ?makeups, ?agrees, ?window, ?staging, ?form, ?withdrawn, ?heads⟩
  case queues =>
    simp [State.LinksBounded, LinkState.Bounded, State.reset, LinkState.initial, Config.noticeCapacity]
  case makeups => simp [State.MakeupsOrdered, State.reset]
  case agrees => simp [State.RunAgrees, State.reset]
  case window =>
    exact ⟨by simp [State.reset], by simp [State.windowEnd, State.reset],
      fun p => by simp [hply, PlyState.initial, PlyRecord.PathFits, PlyRecord.default]⟩
  case staging =>
    exact ⟨fun p => by simp [hply, PlyState.initial, HeadController.initial], fun _ h => nomatch h⟩
  case form => simp [State.PositionsInForm, hidle]
  case withdrawn => simp [State.WithdrawnWithinGood, State.reset, Tallies.zero]
  case heads => simp [State.HeadsPassed, hidle]

/-- Settles O1: the queue is empty, or has a front command. -/
theorem stepTakesTheFrontCommand : Obligations.StepTakesTheFrontCommand := by
  unfold Obligations.StepTakesTheFrontCommand step
  exact ⟨fun c rest s h => by rw [h], fun s h => by rw [h]⟩

end Sys2Proof.Proofs

namespace Sys2Proof.Machine

/-! ## Counts -/

theorem exec_forwardCount_single {e : Edge} {p : Ply} {s : State} (h : s.countingPlies e = [p]) :
    exec (.forwardCount e) s = .next (s.forwardCount p) := by
  show Host.Outcome.next ((s.countingPlies e).foldl State.forwardCount s) = _
  rw [h]
  rfl

theorem exec_reverseCount_single {e : Edge} {p : Ply} {s : State} (h : s.countingPlies e = [p]) :
    exec (.reverseCount e) s = .next (s.reverseCount p) := by
  show Host.Outcome.next ((s.countingPlies e).foldl State.reverseCount s) = _
  rw [h]
  rfl

/-- A ply that counts an edge is active, in a run. -/
theorem State.inRun_of_countingPlies {s : State} {e : Edge} {p : Ply}
    (h : p ∈ s.countingPlies e) : s.inRun = true := by
  unfold State.countingPlies at h
  split at h
  · assumption
  · cases h

/-! ### A line edge (R57) -/

/-- R57: whether a ply counts the edges of the line encoder. -/
def State.countsLine (s : State) (p : Ply) : Bool :=
  s.inRun && (s.active p && decide ((s.ply p).record.source = .line))

theorem State.countingPlies_line (s : State) : s.countingPlies .line = plyOrder.filter s.countsLine := by
  have hcounts : ∀ p, (s.ply p).record.counts p .line = decide ((s.ply p).record.source = .line) := by
    intro p
    cases h : (s.ply p).record.source <;> simp [PlyRecord.counts, h]
  unfold State.countingPlies State.activePlies State.countsLine
  cases s.inRun
  · simp
  · simp [List.filter_filter, hcounts, Bool.and_comm]

/-- The share of a line edge that falls to one ply is counted by that ply alone. -/
theorem State.countingPlies_lineOn (s : State) (p : Ply) :
    s.countingPlies (.lineOn p) = if s.countsLine p then [p] else [] := by
  have hcounts : ∀ q, (s.ply q).record.counts q (.lineOn p) =
      (decide (q = p) && decide ((s.ply q).record.source = .line)) := by
    intro q
    cases h : (s.ply q).record.source <;> simp [PlyRecord.counts, h]
  have hone : plyOrder.filter (fun q => decide (q = p)) = [p] := by cases p <;> rfl
  have hfilter : (plyOrder.filter s.active).filter (fun q => (s.ply q).record.counts q (.lineOn p))
      = (plyOrder.filter fun q => decide (q = p)).filter fun q =>
        s.active q && decide ((s.ply q).record.source = .line) := by
    simp only [List.filter_filter, hcounts]
    congr 1
    funext q
    cases decide (q = p) <;> simp [Bool.and_comm]
  unfold State.countingPlies State.activePlies
  rw [hfilter, hone]
  unfold State.countsLine
  cases s.inRun
  · rfl
  · cases h : (s.active p && decide ((s.ply p).record.source = .line)) <;> simp [h]

theorem State.countsLine_of_setup {s t : State} (hsetup : s.SetupKept t) (hrun : t.inRun = s.inRun)
    (p : Ply) : t.countsLine p = s.countsLine p := by
  simp only [State.countsLine, hrun, hsetup.active, hsetup.record]

/-- A command taken on each ply in turn, each while the one before answers. -/
def eachPly (c : Ply → Instr) (ps : List Ply) (s : State) : Host.Outcome State Fault Refusal :=
  ps.foldl (fun o p => match o with
    | .next u => exec (c p) u
    | .fault f => .fault f
    | .refused r => .refused r) (.next s)

/-- The shares of a line edge taken ply by ply are the edge taken by the plies that count it. -/
theorem eachPly_lineOn {f : State → Ply → State} {c : Ply → Instr}
    (hexec : ∀ (s : State) (p : Ply), exec (c p) s = .next ((s.countingPlies (.lineOn p)).foldl f s))
    (hact : ∀ s p, s.active p = true → PressAct s (f s p)) (ps : List Ply) (s : State) :
    eachPly c ps s = .next ((ps.filter s.countsLine).foldl f s) := by
  induction ps generalizing s with
  | nil => rfl
  | cons p ps ih =>
    have hstep : eachPly c (p :: ps) s = eachPly c ps ((s.countingPlies (.lineOn p)).foldl f s) := by
      simp only [eachPly, List.foldl_cons, hexec]
    rw [hstep, ih, State.countingPlies_lineOn]
    by_cases hp : s.countsLine p = true
    · have hactive : s.active p = true := by
        simp only [State.countsLine, Bool.and_eq_true] at hp
        exact hp.2.1
      have hk := hact s p hactive
      simp only [hp, if_true, List.foldl_cons, List.foldl_nil, List.filter_cons,
        funext (State.countsLine_of_setup hk.setup hk.inRun)]
    · simp [hp]

/-! ### IDLE -/

theorem State.inRun_eq_false {s : State} (h : s.runState = .idle) : s.inRun = false := by
  simp [State.inRun, h]

theorem State.stages_of_idle {s : State} (h : s.runState = .idle) (p : Ply) : s.stages p = false := by
  simp [State.stages, State.inRun_eq_false h]

theorem State.chosen_of_idle {s : State} (h : s.runState = .idle) : s.chosen = none := by
  cases hc : s.chosen with
  | none => rfl
  | some p =>
    have := State.stages_of_isRequester (State.chosen_isRequester hc)
    rw [State.stages_of_idle h] at this
    cases this

/-! ## Power-on and RESTART (R174) -/

/-- A state that differs from the one after reset only in what `Cleared` does not speak of. -/
theorem State.cleared_of_plies {t : State}
    (h : t = { State.reset with
      plies := t.plies, layouts := t.layouts, blocks := t.blocks, segments := t.segments
      makeups := t.makeups, links := t.links, notices := t.notices, pending := t.pending, out := t.out })
    (hply : ∀ p, ∃ r, t.ply p = { PlyState.initial with record := r }) : t.Cleared := by
  have hfree : ∀ p, (t.ply p).run = none ∧ (t.ply p).unit = ⟨0, 0, .off, 0, false, none⟩
      ∧ (t.ply p).head = ⟨[], .empty, [], [], 0, none, false⟩ ∧ (t.ply p).checker = ⟨false, 0⟩
      ∧ (t.ply p).capture = none := fun p => by
    obtain ⟨r, hr⟩ := hply p
    rw [hr]
    exact ⟨rfl, rfl, rfl, rfl, rfl⟩
  have hidle : t.runState = .idle := by rw [h]; rfl
  have halarm : t.alarm = false := by
    simp [State.alarm, hidle, fun p => (hfree p).2.2.2.2]
  refine ⟨hidle, ?_, ?_, ?_, ?_, ?_, ?_, ?_, ?_, ?_, ?_, halarm, ?_, ?_, ?_, ?_, ?_, ?_, hfree⟩ <;>
    (rw [h]; rfl)

theorem State.powerOn_cleared (s : State) (press service : Rate) : (s.powerOn press service).Cleared :=
  State.cleared_of_plies rfl fun p => ⟨PlyRecord.default, PerPly.get_all _ p⟩

theorem State.powerOn_unconfigured (s : State) (press service : Rate) :
    (s.powerOn press service).Unconfigured := by
  have hempty : ∀ {α : Type} (n i : Nat), ((Vector.replicate n (none : Option α))[i]?).join = none := by
    intro α n i
    rw [Vector.getElem?_replicate]
    split <;> rfl
  exact ⟨hempty 64, hempty 8, hempty 32, rfl, fun p => by
    rw [show (s.powerOn press service).ply p = PlyState.initial from PerPly.get_all _ p]; rfl⟩

theorem State.ply_restarted (s : State) (press service : Rate) (p : Ply) :
    (s.restarted press service).ply p = { PlyState.initial with record := (s.ply p).record } := by
  simp [State.restarted, State.ply]

theorem State.restarted_cleared (s : State) (press service : Rate) :
    (s.restarted press service).Cleared :=
  State.cleared_of_plies rfl fun p => ⟨_, s.ply_restarted press service p⟩

/-- An admitted RESTART is answered and does as `State.requestRestart` decides. -/
theorem exec_restart_of_admits {s : State} {l : Link} (h : s.Admits .restart l) (tag : Byte) :
    exec (.restart l tag []) s =
      .next ((s.requestRestart l).2.replied l tag .restart (s.requestRestart l).1) :=
  congrArg Host.Outcome.next (State.takeRequest_of_admits h rfl tag)

end Sys2Proof.Machine

namespace Sys2Proof.Proofs

open Sys2Proof.Machine

/-- Settles O8: the allowance decides between the two branches of R59. -/
theorem reverseCountOwesOrOverruns : Obligations.ReverseCountOwesOrOverruns := by
  unfold Obligations.ReverseCountOwesOrOverruns
  intro e p s hcount
  rw [exec_reverseCount_single hcount]
  unfold State.reverseCount
  exact ⟨fun howes => by rw [if_pos howes], fun hover => by rw [if_neg (by omega)]⟩

/-- Settles O9: a count leaves which plies count the line as it was. -/
theorem lineEdgeReachesEachLinePly : Obligations.LineEdgeReachesEachLinePly := by
  unfold Obligations.LineEdgeReachesEachLinePly
  intro s
  constructor
  · refine Eq.trans ?_ (eachPly_lineOn (f := State.forwardCount) (fun _ _ => rfl)
      (fun _ _ => .forwardCount) plyOrder s).symm
    rw [← State.countingPlies_line]
    rfl
  · refine Eq.trans ?_ (eachPly_lineOn (f := State.reverseCount) (fun _ _ => rfl)
      (fun s p _ => .reverseCount s p) plyOrder s).symm
    rw [← State.countingPlies_line]
    rfl

/-- Settles O10: each event of the press side is guarded by the run. -/
theorem pressEventsInIdleChangeNothing : Obligations.PressEventsInIdleChangeNothing := by
  unfold Obligations.PressEventsInIdleChangeNothing
  intro s e p r hidle
  have hrun := State.inRun_eq_false hidle
  have hcount : s.countingPlies e = [] := by simp [State.countingPlies, hrun]
  refine ⟨?_, ?_, ?_, ?_, ?_, ?_, ?_, ?_, ?_, ?_⟩
  · simp [exec, execForwardCount, hcount]
  · simp [exec, execReverseCount, hcount]
  · simp [exec, execGuardExpiry, hrun]
  · simp [exec, execMarkPulse, hrun]
  · simp [exec, execSpliceEvent, hrun]
  · simp [exec, execSetCutoff, hrun]
  · simp [exec, execReaderRecord, State.takesRecords, hrun]
  · simp [exec, execStageNextSlot, State.stages_of_idle hidle]
  · simp [exec, execRenderGrant, State.chosen_of_idle hidle]
  · simp [exec, execLoadStart, State.loadStart, State.headFree, hrun]

/-- Settles O2: every block takes its power-on state, whatever the state was; the state after reset is a
power-on of itself. -/
theorem powerOnState : Obligations.PowerOnState := by
  unfold Obligations.PowerOnState
  refine ⟨fun press service s => ⟨_, rfl, s.powerOn_cleared press service,
    s.powerOn_unconfigured press service, rfl, rfl, rfl⟩, ?_, ?_, rfl, rfl, rfl⟩
  · exact State.reset.powerOn_cleared .b19200 .b19200
  · exact State.reset.powerOn_unconfigured .b19200 .b19200

/-- Settles O3: RESTART is decided by the run state alone, and performed by its own command, once its
DONE has been sent. -/
theorem restartIsTakenAndPerformed : Obligations.RestartIsTakenAndPerformed := by
  unfold Obligations.RestartIsTakenAndPerformed
  refine ⟨fun l tag s hadmits => ⟨fun hidle => ?taken, fun hrun => ?refused⟩,
    fun press service s hsent => ?performed, fun press service s hno => ?early⟩
  case taken =>
    rw [exec_restart_of_admits hadmits, State.requestRestart, if_neg (by simp [State.inRun, hidle])]
    rfl
  case refused =>
    rw [exec_restart_of_admits hadmits, State.requestRestart, if_pos (by simpa [State.inRun] using hrun)]
    rfl
  case performed =>
    have hexec : exec (.restartPerformed press service) s = .next (s.restarted press service) := by
      simp [exec, execRestartPerformed, hsent]
    refine ⟨_, hexec, s.restarted_cleared press service, fun p => by rw [State.ply_restarted], rfl, rfl,
      rfl, rfl, rfl, fun l => ?_, rfl, rfl, rfl⟩
    cases l <;> exact ⟨rfl, rfl, rfl⟩
  case early => simp [exec, execRestartPerformed, hno]

end Sys2Proof.Proofs


/-! ## Requests taken, refused and answered (R166, R167) -/

namespace Sys2Proof.Machine

/-- The command of a request is that request taken on its link. -/
theorem exec_requestCommand (r : Request) (l : Link) (tag : Byte) (pl : List Byte) (s : State) :
    exec (requestCommand r l tag pl) s = .next (s.takeRequest r l tag pl) := by
  cases r <;> rfl

/-- An admitted request is answered and does as its block decides. -/
theorem exec_of_handle {s t : State} {r : Request} {l : Link} {pl : List Byte} {a : Answer}
    (h : s.Admits r l) (hlen : pl.length = requestLength r) (tag : Byte)
    (hhandle : s.handle r l pl = (a, t)) :
    exec (requestCommand r l tag pl) s = .next (t.replied l tag r a) := by
  rw [exec_requestCommand, State.takeRequest_of_admits h hlen, hhandle]

/-- A request without a payload, admitted, is answered and does as its block decides. -/
theorem exec_of_handle_nil {s : State} {r : Request} {l : Link} (h : s.Admits r l)
    (hlen : requestLength r = 0) (tag : Byte) :
    exec (requestCommand r l tag []) s = .next ((s.handle r l []).2.replied l tag r (s.handle r l []).1) :=
  exec_of_handle (pl := []) h hlen.symm tag rfl

/-- A request that needs no control is admitted where there is room for its reply and no RESTART
pends. -/
theorem State.admits_of_free {s : State} {l : Link} (hroom : (s.link l).replies.length < 8)
    (hrestart : s.restart = .none) {r : Request} (hr : needsControl r = false) : s.Admits r l :=
  ⟨hroom, hrestart, fun h => by rw [hr] at h; exact absurd h (by decide)⟩

/-- With room for its reply, a request is answered as R166's tests 3 to 6 decide. -/
theorem State.takeRequest_of_room {s : State} {l : Link} (h : (s.link l).replies.length < 8)
    (r : Request) (tag : Byte) (pl : List Byte) :
    s.takeRequest r l tag pl = (s.answer r l pl).2.replied l tag r (s.answer r l pl).1 := by
  have hfull : s.repliesFull l = false := decide_eq_false (Nat.not_le.mpr h)
  simp [State.takeRequest, hfull, State.replied]

theorem State.repliesFull_of_le {s : State} {l : Link} (h : 8 ≤ (s.link l).replies.length) :
    s.repliesFull l = true := decide_eq_true h

/-- R166 test 1. -/
theorem State.takeRequest_of_full {s : State} {l : Link} (h : 8 ≤ (s.link l).replies.length)
    (r : Request) (tag : Byte) (pl : List Byte) : s.takeRequest r l tag pl = s.overrun l := by
  rw [State.takeRequest, if_pos (State.repliesFull_of_le h)]

/-- R166 test 1 is made of every frame, whatever its KIND. -/
theorem State.takeFrame_of_full {s : State} {l : Link} (h : 8 ≤ (s.link l).replies.length)
    (kind tag : Byte) (pl : List Byte) : s.takeFrame l kind tag pl = s.overrun l := by
  unfold State.takeFrame
  split
  · exact State.takeRequest_of_full h ..
  · rw [if_pos (State.repliesFull_of_le h)]

/-- A frame whose KIND is a request's is that request (log 6). -/
theorem State.takeFrame_requestCode (s : State) (r : Request) (l : Link) (tag : Byte) (pl : List Byte) :
    s.takeFrame l (requestCode r) tag pl = s.takeRequest r l tag pl := by
  rw [State.takeFrame, requestOfCode_requestCode]

/-! ### What a transmitter sends (R164, R167, R173) -/

/-- A reply sent while no RESTART is pending leaves the restart as it is. -/
theorem RestartPhase.afterReply_none (l : Link) (r : Reply) :
    RestartPhase.none.afterReply l r = .none := by
  simp [RestartPhase.afterReply]

theorem RestartPhase.afterReply_queued {l : Link} {r : Reply} (h : r.isRestartDone = true) :
    (RestartPhase.queued l).afterReply l r = .sending l := by
  simp [RestartPhase.afterReply, h]

/-- Two changes of one link are one change. -/
theorem State.modLink_modLink (s : State) (l : Link) (f g : LinkState → LinkState) :
    (s.modLink l f).modLink l g = s.modLink l fun k => g (f k) := by
  cases l <;> rfl

theorem State.transmitReply_of_busy {s : State} {l : Link}
    (h : (s.link l).tx ≠ none ∨ (s.link l).replies = []) : s.transmitReply l = s := by
  unfold State.transmitReply
  split
  · rename_i htx hreplies
    simp [htx, hreplies] at h
  · rfl

/-- The front reply sent by a free transmitter. -/
theorem State.transmitReply_of_free {s : State} {l : Link} {r : Reply} {rest : List Reply}
    (htx : (s.link l).tx = none) (hreplies : (s.link l).replies = r :: rest) :
    s.transmitReply l = { (s.modLink l fun k => { k with
        replies := rest, tx := some (frame r.answer.kind r.tag r.payload) }).emit
          (.frame l (frame r.answer.kind r.tag r.payload)) with
      restart := s.restart.afterReply l r } := by
  rw [State.transmitReply, htx, hreplies]
  cases l <;> rfl

theorem State.transmitNotice_of_front {s : State} {l : Link} {q : QueuedNotice}
    {rest : List QueuedNotice} (hnotices : s.notices = q :: rest) (htx : (s.link l).tx = none)
    (hreplies : (s.link l).replies = []) (hdest : q.dest.link s.owner = l) :
    s.transmitNotice l = s.sendNotice l q.notice rest := by
  simp [State.transmitNotice, hnotices, htx, hreplies, hdest]

theorem State.transmitNotice_of_wait {s : State} {l : Link} {q : QueuedNotice}
    {rest : List QueuedNotice} (hnotices : s.notices = q :: rest)
    (h : (s.link l).tx ≠ none ∨ (s.link l).replies ≠ [] ∨ q.dest.link s.owner ≠ l) :
    s.transmitNotice l = s := by
  unfold State.transmitNotice
  split
  · rename_i htx hreplies hfront
    obtain ⟨rfl, rfl⟩ := List.cons_eq_cons.mp (hnotices.symm.trans hfront)
    rw [if_neg (by simpa [htx, hreplies] using h)]
  · rfl

/-! ### What READ-SLOTS fits (R171) -/

/-- The entries taken fit in the room given. -/
theorem fitEntries_flatten_length (room : Nat) (es : List (List Byte)) :
    (fitEntries room es).flatten.length ≤ room := by
  induction es generalizing room with
  | nil => simp [fitEntries]
  | cons e es ih =>
    rw [fitEntries]
    split
    · have := ih (room - e.length)
      simp only [List.flatten_cons, List.length_append]
      omega
    · simp

theorem slotsResult_length_le (q : Nat × Nat) (s : State) : (slotsResult q s).length + 1 ≤ 240 := by
  have hfit := fitEntries_flatten_length (Config.maxPayload - 15) (s.slotEntries q.1 q.2)
  have hpayload : Config.maxPayload = 240 := rfl
  simp only [slotsResult, List.length_append, be_length]
  omega

/-! ### The operands of the queries -/

theorem decodePly_of_ply (p : Ply) : decodePly (be 1 (plyNumber p)) = some p := by
  have := plyNumber_le p
  rw [decodePly, field_be (by omega), plyOfNumber_plyNumber]

theorem plyOfNumber_of_lt {n : Nat} (h : 5 < n) : plyOfNumber n = none := by
  rw [Option.eq_none_iff_forall_ne_some]
  intro p hp
  have := plyOfNumber_le hp
  omega

theorem inRange_of_not {lo hi n : Nat} (h : ¬ (lo ≤ n ∧ n ≤ hi)) : inRange lo hi n = none := by
  rw [inRange, if_neg h]

theorem decodePly_of_lt {n : Nat} (h : 5 < n) (hn : n ≤ 255) : decodePly (be 1 n) = none := by
  rw [decodePly, field_be (by omega), plyOfNumber_of_lt h]

theorem decodeReadSlots_bytes {first n : Nat} (hfirst : first < 4294967296) (hn : n ≤ 255) :
    decodeReadSlots (be 4 first ++ be 1 n) = (inRange 1 8 n).map fun n => (first, n) := by
  simp (disch := omega) [decodeReadSlots, field_be_append, field_be_append_of_le, field_be]

/-- The count alone refuses a READ-SLOTS. -/
theorem decodeReadSlots_eq_none {first n : Nat} (h : n = 0 ∨ 8 < n) (hn : n ≤ 255) :
    decodeReadSlots (be 4 first ++ be 1 n) = none := by
  have hcount : field (be 4 first ++ be 1 n) 4 1 = n := by
    rw [field_be_append_of_le (by omega), field_be (by omega)]
  rw [decodeReadSlots, hcount, inRange_of_not (by omega), Option.map_none]

theorem decodeReadMakeups_bytes {pos n : Nat} (hpos : pos ≤ 255) (hn : n ≤ 255) :
    decodeReadMakeups (be 1 pos ++ be 1 n) = (inRange 1 14 n).map fun n => (pos, n) := by
  simp (disch := omega) [decodeReadMakeups, field_be_append, field_be_append_of_le, field_be]

theorem decodeIndex_bytes {hi i : Nat} (h : i ≤ hi) (hi' : hi ≤ 255) :
    decodeIndex hi (be 1 i) = some i := by
  rw [decodeIndex, field_be (by omega), inRange_of_mem ⟨by omega, h⟩]

theorem query_of_some {α : Type} {decoded : Option α} {a : α} (h : decoded = some a)
    (result : α → List Byte) (s : State) : query decoded result s = (.done (result a), s) := by
  rw [h]; rfl

theorem query_of_none {α : Type} {decoded : Option α} (h : decoded = none)
    (result : α → List Byte) (s : State) : query decoded result s = (.refused .badField 0 0, s) := by
  rw [h]; rfl

/-! ### Control (R168) -/

theorem State.grantControl_of_same {s : State} {new : Owner} (h : s.owner = new) (l : Link) :
    s.grantControl l new = (.done (be 1 new.code), s) := by
  rw [State.grantControl, if_pos h]; rfl

theorem State.grantControl_of_change {s : State} {new : Owner} (h : s.owner ≠ new) (l : Link) :
    s.grantControl l new = (.done (be 1 new.code),
      ({ s with owner := new }.queueNotice (.control new s.owner l) (.fixed .press)).queueNotice
        (.control new s.owner l) (.fixed .service)) := by
  rw [State.grantControl, if_neg h]; rfl

/-- TAKE-CONTROL is a grant, but for SERVICE while PRESS is the owner. -/
theorem State.takeControl_eq (l : Link) (s : State) :
    s.takeControl l = if l = .service ∧ s.owner = .press then refuse .heldByOther s
      else s.grantControl l (ownerOf l) := by
  unfold State.takeControl
  cases l <;> cases h : s.owner <;> simp [ownerOf]

end Sys2Proof.Machine

namespace Sys2Proof.Proofs

open Sys2Proof.Machine

/-- Settles O33: each test of R166 with those before it passed. -/
theorem requestsAreTestedInOrder : Obligations.RequestsAreTestedInOrder := by
  unfold Obligations.RequestsAreTestedInOrder
  intro r l kind tag pl s overrun
  refine ⟨fun hfull => ⟨?_, ?_⟩, fun hroom hkind => ?_, fun hroom hlen => ?_,
    fun hroom hlen hrestart => ?_, fun hroom hlen hrestart hneeds howner => ?_⟩
  · rw [exec_requestCommand, State.takeRequest_of_full hfull]
    rfl
  · exact congrArg Host.Outcome.next (State.takeFrame_of_full hfull kind tag pl)
  · have hfull : s.repliesFull l = false := decide_eq_false (Nat.not_le.mpr hroom)
    refine congrArg Host.Outcome.next ?_
    rw [State.takeFrame, requestOfCode_none_of_not_mem hkind]
    simp [hfull]
  · rw [exec_requestCommand, State.takeRequest_of_room hroom, State.answer, if_pos hlen]
    rfl
  · rw [exec_requestCommand, State.takeRequest_of_room hroom, State.answer,
      if_neg (by simpa using hlen), if_pos hrestart]
    rfl
  · rw [exec_requestCommand, State.takeRequest_of_room hroom, State.answer,
      if_neg (by simpa using hlen), if_neg (by simpa using hrestart),
      if_pos (by simp [hneeds, howner])]
    rfl

/-- Settles O34: the transmitter and the reply queue decide what is sent, and the restart goes with its
own DONE. -/
theorem repliesAreSentInOrder : Obligations.RepliesAreSentInOrder := by
  unfold Obligations.RepliesAreSentInOrder
  intro l s
  refine ⟨fun r rest htx hreplies => ⟨fun hrestart => ?_, fun hrestart hkind ⟨d, hdone⟩ => ?_⟩,
    fun hbusy => ?_, fun bytes htx => ⟨fun hother => ?_, fun hown => ?_⟩, fun htx => ?_⟩
  · refine congrArg Host.Outcome.next ?_
    rw [State.transmitReply_of_free htx hreplies, hrestart, RestartPhase.afterReply_none, ← hrestart]
    cases l <;> rfl
  · have hisDone : r.isRestartDone = true := by
      simp [Reply.isRestartDone, hdone, hkind, requestCode]
    refine ⟨_, congrArg Host.Outcome.next (State.transmitReply_of_free htx hreplies), ?_, ?_⟩
    · rw [hrestart, RestartPhase.afterReply_queued hisDone]
    · cases l <;> rfl
  · exact congrArg Host.Outcome.next (State.transmitReply_of_busy hbusy)
  · refine congrArg Host.Outcome.next ?_
    have hrestart : (s.modLink l fun k => { k with tx := none }).restart ≠ .sending l := hother
    rw [State.endFrame, htx]
    simp only [if_neg hrestart]
  · refine congrArg Host.Outcome.next ?_
    have hrestart : (s.modLink l fun k => { k with tx := none }).restart = .sending l := hown
    rw [State.endFrame, htx]
    simp only [if_pos hrestart]
  · refine congrArg Host.Outcome.next ?_
    rw [State.endFrame, htx]

/-- Settles O35: the destination of the front notice and the link's transmitter decide. -/
theorem frontNoticeGoesToItsLink : Obligations.FrontNoticeGoesToItsLink := by
  unfold Obligations.FrontNoticeGoesToItsLink
  intro l q rest s hnotices dest bytes
  have hdest : dest = q.dest.link s.owner := by
    dsimp only [dest, Destination.link]
    cases q.dest <;> cases s.owner <;> rfl
  rw [hdest]
  refine ⟨fun htx hreplies hlink => ?_, fun hwait => ?_⟩
  · refine congrArg Host.Outcome.next ?_
    rw [State.transmitNotice_of_front hnotices htx hreplies hlink]
    cases l <;> rfl
  · exact congrArg Host.Outcome.next (State.transmitNotice_of_wait hnotices hwait)

/-- Settles O36: each query is a request that needs no control, answered from the state by its own
result; its operand decides alone whether it is refused. -/
theorem queriesAnswerAndChangeNothing : Obligations.QueriesAnswerAndChangeNothing := by
  unfold Obligations.QueriesAnswerAndChangeNothing
  intro l tag s hroom hrestart
  have admits : ∀ {r : Request}, needsControl r = false → s.Admits r l := fun hr =>
    State.admits_of_free hroom hrestart hr
  refine ⟨?_, ?_, fun p => ?_, fun n h hn => ?_, fun first n hfirst h1 hn => ⟨?_, ?_⟩,
    fun first n h hn => ?_, ?_, ?_, fun pos n hpos h1 hn => ?_, fun pos n hpos h hn => ?_,
    fun i hi => ?_, fun i hi => ?_, fun i hi => ?_, ?_⟩
  · exact exec_of_handle_nil (r := .identify) (admits rfl) rfl tag
  · exact exec_of_handle_nil (r := .readStatus) (admits rfl) rfl tag
  · exact exec_of_handle (r := .readPly) (admits rfl) (be_length ..) tag
      (query_of_some (decodePly_of_ply p) _ s)
  · exact exec_of_handle (r := .readPly) (admits rfl) (be_length ..) tag
      (query_of_none (decodePly_of_lt h hn) _ s)
  · refine exec_of_handle (r := .readSlots) (admits rfl) (by simp [requestLength]) tag
      (query_of_some (a := (first, n)) ?_ _ s)
    rw [decodeReadSlots_bytes hfirst (by omega), inRange_of_mem ⟨h1, hn⟩, Option.map_some]
  · exact slotsResult_length_le _ _
  · exact exec_of_handle (r := .readSlots) (admits rfl) (by simp [requestLength]) tag
      (query_of_none (decodeReadSlots_eq_none h hn) _ s)
  · exact exec_of_handle_nil (r := .readTally) (admits rfl) rfl tag
  · exact exec_of_handle_nil (r := .readCursor) (admits rfl) rfl tag
  · refine exec_of_handle (r := .readMakeups) (admits rfl) (by simp [requestLength]) tag
      (query_of_some (a := (pos, n)) ?_ _ s)
    rw [decodeReadMakeups_bytes hpos (by omega), inRange_of_mem ⟨h1, hn⟩, Option.map_some]
  · refine exec_of_handle (r := .readMakeups) (admits rfl) (by simp [requestLength]) tag
      (query_of_none ?_ _ s)
    rw [decodeReadMakeups_bytes hpos hn, inRange_of_not (by omega), Option.map_none]
  · exact exec_of_handle (r := .readBlock) (admits rfl) (be_length ..) tag
      (query_of_some (decodeIndex_bytes (by omega) (by omega)) _ s)
  · exact exec_of_handle (r := .readLayout) (admits rfl) (be_length ..) tag
      (query_of_some (decodeIndex_bytes (by omega) (by omega)) _ s)
  · exact exec_of_handle (r := .readSegment) (admits rfl) (be_length ..) tag
      (query_of_some (decodeIndex_bytes (by omega) (by omega)) _ s)
  · exact exec_of_handle_nil (r := .readLink) (admits rfl) rfl tag

/-- Settles O37: TAKE-CONTROL and RELEASE-CONTROL are grants, which change the owner or leave it. -/
theorem controlFollowsItsTable : Obligations.ControlFollowsItsTable := by
  unfold Obligations.ControlFollowsItsTable
  intro l tag s hroom hrestart become
  have take : exec (.takeControl l tag []) s =
      .next ((s.takeControl l).2.replied l tag .takeControl (s.takeControl l).1) :=
    exec_of_handle_nil (r := .takeControl) (State.admits_of_free hroom hrestart rfl) rfl tag
  have release : exec (.releaseControl l tag []) s =
      .next ((s.releaseControl l).2.replied l tag .releaseControl (s.releaseControl l).1) :=
    exec_of_handle_nil (r := .releaseControl) (State.admits_of_free hroom hrestart rfl) rfl tag
  have hgrants : ¬ (l = .service ∧ s.owner = .press) →
      s.takeControl l = s.grantControl l (ownerOf l) := fun h => by
    rw [State.takeControl_eq, if_neg h]
  refine ⟨fun hl ho => ?_, fun hown => ?_, fun hfree => ?_, fun hown => ?_, fun hnot => ?_⟩
  · rw [take, State.takeControl_eq, if_pos ⟨hl, ho⟩]
    rfl
  · rw [take, hgrants (by rintro ⟨rfl, ho⟩; simp [ho, ownerOf] at hown),
      State.grantControl_of_same hown, hown]
  · have hchange : s.owner ≠ ownerOf l := by
      obtain ho | ⟨rfl, ho⟩ := hfree
      · cases l <;> simp [ho, ownerOf]
      · simp [ho, ownerOf]
    rw [take, hgrants (by rintro ⟨rfl, ho⟩; simp [ho] at hfree),
      State.grantControl_of_change hchange]
  · rw [release, State.releaseControl, if_pos hown,
      State.grantControl_of_change (by rw [hown]; cases l <;> simp [ownerOf])]
    rfl
  · rw [release, State.releaseControl, if_neg hnot]
    rfl

/-- Settles O43: the run state decides. -/
theorem clearMakeupsEmptiesTheList : Obligations.ClearMakeupsEmptiesTheList := by
  unfold Obligations.ClearMakeupsEmptiesTheList
  intro l tag s hadmits
  have hexec : exec (.clearMakeups l tag []) s =
      .next (s.clearMakeups.2.replied l tag .clearMakeups s.clearMakeups.1) :=
    exec_of_handle_nil (r := .clearMakeups) hadmits rfl tag
  refine ⟨fun hidle => ?_, fun hrun => ?_⟩
  · rw [hexec, State.clearMakeups, if_neg (by simp [State.inRun, hidle])]
    rfl
  · rw [hexec, State.clearMakeups, if_pos (by simpa [State.inRun] using hrun)]
    rfl

end Sys2Proof.Proofs


/-! ## The tables as SET-BLOCK, SET-LAYOUT and SET-SEGMENT replace them -/

namespace Sys2Proof.Machine

/-! ### What holds an entry in use (R27, R35, R144) -/

/-- A slot carries the binding that it shows. -/
theorem Slot.carries_iff {slot : Slot} {b : Binding} : slot.Carries b ↔ slot.binding = some b := by
  unfold Slot.Carries Slot.binding
  cases slot.disp <;> simp

theorem State.blockInUse_iff (s : State) (i : Nat) : s.blockInUse i = true ↔
    (∃ c, s.cursor = some c ∧ c.state ≠ .exhausted ∧ c.next / 16384 = i)
    ∨ (∃ slot ∈ s.slots, ∃ x, slot.Carries x ∧ x.value / 16384 = i)
    ∨ ∃ e ∈ s.makeups, e.value / 16384 = i := by
  have hsize : (16384 : Nat) = Config.blockSize := rfl
  rw [hsize]
  simp only [State.blockInUse, Bool.or_eq_true, List.any_eq_true, or_assoc, Slot.carries_iff]
  refine or_congr ?_ (or_congr (exists_congr fun slot => and_congr_right fun _ => ?_) ?_)
  · cases s.cursor <;> simp
  · cases slot.binding <;> simp
  · simp

theorem State.layoutInUse_iff (s : State) (i : Nat) : s.layoutInUse i = true ↔
    (∃ c, s.cursor = some c ∧ ∃ g, s.segment c.segment = some g ∧ g.layout = i)
    ∨ (∃ slot ∈ s.slots, ∃ x, slot.Carries x ∧ ∃ g, s.segment x.segment = some g ∧ g.layout = i)
    ∨ ∃ e ∈ s.makeups, ∃ g, s.segment e.segment = some g ∧ g.layout = i := by
  simp only [State.layoutInUse, Bool.or_eq_true, List.any_eq_true, or_assoc, Slot.carries_iff]
  refine or_congr ?_ (or_congr (exists_congr fun slot => and_congr_right fun _ => ?_) ?_)
  · cases s.cursor <;> simp [State.names]
  · cases slot.binding <;> simp [State.names]
  · simp [State.names]

theorem State.segmentInUse_iff (s : State) (i : Nat) : s.segmentInUse i = true ↔
    (∃ c, s.cursor = some c ∧ c.segment = i)
    ∨ (∃ slot ∈ s.slots, ∃ x, slot.Carries x ∧ x.segment = i)
    ∨ ∃ e ∈ s.makeups, e.segment = i := by
  simp only [State.segmentInUse, Bool.or_eq_true, List.any_eq_true, or_assoc, Slot.carries_iff]
  refine or_congr ?_ (or_congr (exists_congr fun slot => and_congr_right fun _ => ?_) ?_)
  · cases s.cursor <;> simp
  · cases slot.binding <;> simp
  · simp

/-- A table entry set within its bounds. -/
theorem setIfInBounds_fin {α : Type} {n : Nat} (v : Vector α n) (i : Fin n) (a : α) :
    v.setIfInBounds i a = v.set i a := by
  apply Vector.ext
  intro k hk
  simp [Vector.getElem_setIfInBounds, Vector.getElem_set]

/-- The test of an entry that is there and in use. -/
theorem entry_in_use_iff {α : Type} {o : Option α} {b : Bool} {P : Prop} (h : b = true ↔ P) :
    (o.isSome && b) = true ↔ o ≠ none ∧ P := by
  simp [h, Option.isSome_iff_ne_none]

/-! ### The codes of the tables (Table 9-6) -/

theorem Direction.code_le (x : Direction) : x.code ≤ 1 := by cases x <;> decide

@[simp] theorem directionOf_code (x : Direction) : directionOf x.code = some x := by cases x <;> rfl

theorem directionOf_le {n : Nat} {x : Direction} (h : directionOf n = some x) : n ≤ 1 := by
  unfold directionOf at h
  split at h <;> simp_all

theorem EndAction.code_le (x : EndAction) : x.code ≤ 1 := by cases x <;> decide

@[simp] theorem endActionOf_code (x : EndAction) : endActionOf x.code = some x := by cases x <;> rfl

theorem endActionOf_le {n : Nat} {x : EndAction} (h : endActionOf n = some x) : n ≤ 1 := by
  unfold endActionOf at h
  split at h <;> simp_all

/-- A field given by its presence byte is read back. -/
theorem optionalOf_isSome {o : Option Nat} {hi : Nat} (h : ∀ v, o = some v → v ≤ hi) :
    optionalOf o.isSome.toNat (o.getD 0) hi = some o := by
  cases o with
  | none => rfl
  | some v =>
    change (inRange 0 hi v).map some = some (some v)
    rw [inRange_of_mem ⟨Nat.zero_le v, h v rfl⟩, Option.map_some]

/-- A field given by a presence byte is present or absent, and in range where it is present. -/
theorem optionalOf_fields {present n hi : Nat} {o : Option Nat} (h : optionalOf present n hi = some o) :
    present ≤ 1 ∧ (present = 1 → n ≤ hi) := by
  unfold optionalOf at h
  split at h
  · simp
  · obtain ⟨m, hm, -⟩ := Option.map_eq_some_iff.mp h
    exact ⟨le_rfl, fun _ => (inRange_eq_some_iff.mp hm).1.2⟩
  · simp at h

theorem optional_length (o : Option Nat) (w : Nat) : (optional o w).length = 1 + w := by
  simp [optional, yesNo_eq_be]

/-- The next segment is read back. -/
theorem nextSegmentOf_byte {o : Option Nat} (h : ∀ n, o = some n → n ≤ 31) :
    nextSegmentOf (nextSegmentByte o) = some o := by
  cases o with
  | none => rfl
  | some n =>
    have hn := h n rfl
    have hbyte : nextSegmentByte (some n) = n := rfl
    rw [hbyte, nextSegmentOf, if_neg (by omega), inRange_of_mem ⟨Nat.zero_le n, hn⟩, Option.map_some]

theorem nextSegmentByte_le {o : Option Nat} (h : ∀ n, o = some n → n ≤ 31) :
    nextSegmentByte o ≤ 255 := by
  cases o with
  | none => exact le_rfl
  | some n => exact (h n rfl).trans (by decide)

theorem nextSegmentOf_field {n : Nat} {o : Option Nat} (h : nextSegmentOf n = some o) :
    n ≤ 31 ∨ n = 255 := by
  unfold nextSegmentOf at h
  split at h
  · exact .inr ‹_›
  · obtain ⟨m, hm, -⟩ := Option.map_eq_some_iff.mp h
    exact .inl (inRange_eq_some_iff.mp hm).1.2

/-! ### The payload of SET-BLOCK (R27) -/

theorem blockBytes_length (b : Option Block) : (blockBytes b).length = 9 := by
  cases b <;> simp [blockBytes]

/-- The wire carries every block table entry in range. -/
theorem decodeBlock_bytes {b : Option Block} (h : ∀ x, b = some x → x.InRange) :
    decodeBlock (blockBytes b) = some b := by
  cases b with
  | none => rfl
  | some x =>
    obtain ⟨hbase, hcount⟩ := h x rfl
    have hdir := x.dir.code_le
    simp (disch := omega) [decodeBlock, blockBytes, field_be_append, field_be_append_of_le, field_be,
      inRange_of_mem, Config.blockSize]

theorem decodeSetBlock_bytes (i : Fin 64) {b : Option Block} (h : ∀ x, b = some x → x.InRange) :
    decodeSetBlock (be 1 i ++ blockBytes b) = some (i.val, b) := by
  have hrest : (be 1 i ++ blockBytes b).drop 1 = blockBytes b := List.drop_left' (be_length ..)
  rw [decodeSetBlock, field_be_append (by omega), hrest, decodeBlock_bytes h,
    inRange_of_mem (by omega)]
  rfl

/-- The fields that R27 tests lie in range where an entry is read. -/
theorem decodeBlock_fields {pl : List Byte} {b : Option Block} (h : decodeBlock pl = some b) :
    field pl 0 1 ≤ 1 ∧ (field pl 0 1 = 1 → field pl 1 5 ≤ 9999999999 ∧ field pl 6 1 ≤ 1
      ∧ 1 ≤ field pl 7 2 ∧ field pl 7 2 ≤ 16384) := by
  unfold decodeBlock at h
  split at h
  · simp [*]
  · simp only [Option.bind_eq_bind, Option.bind_eq_some_iff, inRange_eq_some_iff] at h
    obtain ⟨_, ⟨hbase, -⟩, _, hdir, _, ⟨hcount, -⟩, -⟩ := h
    exact ⟨by omega, fun _ => ⟨hbase.2, directionOf_le hdir, hcount⟩⟩
  · simp at h

/-- A payload with a field that R27 does not take is not read. -/
theorem decodeSetBlock_eq_none {pl : List Byte} (hlen : pl.length = 10)
    (hbad : let b := fun i => (pl.getD i 0).toNat
      63 < b 0 ∨ 1 < b 1 ∨ (b 1 = 1 ∧ (9999999999 < field pl 2 5 ∨ 1 < b 7 ∨ field pl 8 2 = 0
        ∨ 16384 < field pl 8 2))) :
    decodeSetBlock pl = none := by
  rw [Option.eq_none_iff_forall_ne_some]
  intro x hx
  simp only [decodeSetBlock, Option.bind_eq_bind, Option.bind_eq_some_iff, inRange_eq_some_iff] at hx
  obtain ⟨i, ⟨hi, -⟩, b, hb, -⟩ := hx
  have hfields := decodeBlock_fields hb
  simp (disch := omega) only [field_drop, field_one, Nat.reduceAdd] at hi hfields
  simp only at hbad
  omega

/-! ### The payload of SET-SEGMENT (R145) -/

theorem segmentBytes_length (g : Option Segment) : (segmentBytes g).length = 11 := by
  cases g <;> simp [segmentBytes, optional_length]

/-- The wire carries every segment in range. -/
theorem decodeSegment_bytes {g : Option Segment} (h : ∀ x, g = some x → x.InRange) :
    decodeSegment (segmentBytes g) = some g := by
  cases g with
  | none => rfl
  | some x =>
    obtain ⟨hlayout, hquantity, hstart, hnext⟩ := h x rfl
    have hpresent := x.start.isSome.toNat_le
    have hvalue : x.start.getD 0 ≤ 1048575 := by cases hs : x.start <;> simp_all
    have hend := x.endAction.code_le
    have hbyte := nextSegmentByte_le hnext
    simp (disch := omega) [decodeSegment, segmentBytes, optional, yesNo_eq_be, field_be_append,
      field_be_append_of_le, field_be, inRange_of_mem, optionalOf_isSome hstart,
      nextSegmentOf_byte hnext]

theorem decodeSetSegment_bytes (i : Fin 32) {g : Option Segment} (h : ∀ x, g = some x → x.InRange) :
    decodeSetSegment (be 1 i ++ segmentBytes g) = some (i.val, g) := by
  have hrest : (be 1 i ++ segmentBytes g).drop 1 = segmentBytes g := List.drop_left' (be_length ..)
  rw [decodeSetSegment, field_be_append (by omega), hrest, decodeSegment_bytes h,
    inRange_of_mem (by omega)]
  rfl

/-- The fields that R145 tests lie in range where a segment is read. -/
theorem decodeSegment_fields {pl : List Byte} {g : Option Segment} (h : decodeSegment pl = some g) :
    field pl 0 1 ≤ 1 ∧ (field pl 0 1 = 1 → field pl 1 1 ≤ 7 ∧ 1 ≤ field pl 2 3
      ∧ (field pl 5 1 ≤ 1 ∧ (field pl 5 1 = 1 → field pl 6 3 ≤ 1048575)) ∧ field pl 9 1 ≤ 1
      ∧ (field pl 10 1 ≤ 31 ∨ field pl 10 1 = 255)) := by
  unfold decodeSegment at h
  split at h
  · simp [*]
  · simp only [Option.bind_eq_bind, Option.bind_eq_some_iff, inRange_eq_some_iff] at h
    obtain ⟨_, ⟨hlayout, -⟩, _, ⟨hquantity, -⟩, _, hstart, _, hend, _, hnext, -⟩ := h
    exact ⟨by omega, fun _ => ⟨hlayout.2, hquantity.1, optionalOf_fields hstart, endActionOf_le hend,
      nextSegmentOf_field hnext⟩⟩
  · simp at h

/-- A payload with a field that R145 does not take is not read. -/
theorem decodeSetSegment_eq_none {pl : List Byte} (hlen : pl.length = 12)
    (hbad : let b := fun i => (pl.getD i 0).toNat
      31 < b 0 ∨ 1 < b 1 ∨ (b 1 = 1 ∧ (7 < b 2 ∨ field pl 3 3 = 0 ∨ 1 < b 6
        ∨ (b 6 = 1 ∧ 1048575 < field pl 7 3) ∨ 1 < b 10 ∨ (31 < b 11 ∧ b 11 ≠ 255)))) :
    decodeSetSegment pl = none := by
  rw [Option.eq_none_iff_forall_ne_some]
  intro x hx
  simp only [decodeSetSegment, Option.bind_eq_bind, Option.bind_eq_some_iff, inRange_eq_some_iff] at hx
  obtain ⟨i, ⟨hi, -⟩, g, hg, -⟩ := hx
  have hfields := decodeSegment_fields hg
  simp (disch := omega) only [field_drop, field_one, Nat.reduceAdd] at hi hfields
  simp only at hbad
  omega

/-! ### SET-BLOCK and SET-SEGMENT decided -/

theorem State.setBlock_of_unread {pl : List Byte} (h : decodeSetBlock pl = none) (s : State) :
    s.setBlock pl = (.refused .badField 0 0, s) := by
  rw [State.setBlock, h]; rfl

theorem State.setBlock_of_read {pl : List Byte} {i : Nat} {b : Option Block}
    (h : decodeSetBlock pl = some (i, b)) (s : State) :
    s.setBlock pl = if (s.block i).isSome && s.blockInUse i then refuse .inUse s
      else done [] { s with blocks := s.blocks.setIfInBounds i b } := by
  rw [State.setBlock, h]

theorem State.setSegment_of_unread {pl : List Byte} (h : decodeSetSegment pl = none) (s : State) :
    s.setSegment pl = (.refused .badField 0 0, s) := by
  rw [State.setSegment, h]; rfl

theorem State.setSegment_of_read {pl : List Byte} {i : Nat} {g : Option Segment}
    (h : decodeSetSegment pl = some (i, g)) (s : State) :
    s.setSegment pl = if (s.segment i).isSome && s.segmentInUse i then refuse .inUse s
      else done [] { s with segments := s.segments.setIfInBounds i g } := by
  rw [State.setSegment, h]

/-! ### SET-TRIM (R83) -/

theorem decodeSetTrim_bytes {n w : Nat} (hn : n ≤ 255) (hw : w ≤ 16777215) :
    decodeSetTrim (be 1 n ++ be 3 w) =
      (plyOfNumber n).bind fun p => (trimInRange w).map fun t => (p, t) := by
  simp (disch := omega) [decodeSetTrim, field_be_append, field_be_append_of_le, field_be,
    Option.map_eq_bind]

/-- A trim out of range is not read. -/
theorem trimInRange_of_not_mem {w : Nat} (h : 65535 < w ∧ w < 16711681) : trimInRange w = none := by
  have hout : ¬ (-65535 ≤ trimOf w ∧ trimOf w ≤ 65535) := by
    unfold trimOf
    split <;> omega
  rw [trimInRange, if_neg hout]

theorem decodeSetTrim_trim (p : Ply) {x : Int} (h : -65535 ≤ x ∧ x ≤ 65535) :
    decodeSetTrim (be 1 (plyNumber p) ++ trimBytes x) = some (p, x) := by
  have hp := plyNumber_le p
  rw [trimBytes, decodeSetTrim_bytes (by omega) (by omega), plyOfNumber_plyNumber,
    trimInRange_of_mem h]
  rfl

theorem decodeSetTrim_eq_none {n w : Nat} (hn : n ≤ 255) (hw : w ≤ 16777215)
    (h : 5 < n ∨ (65535 < w ∧ w < 16711681)) : decodeSetTrim (be 1 n ++ be 3 w) = none := by
  rw [decodeSetTrim_bytes hn hw]
  obtain hply | htrim := h
  · rw [plyOfNumber_of_lt hply]; rfl
  · rw [trimInRange_of_not_mem htrim]
    cases plyOfNumber n <;> rfl

theorem State.setTrim_of_read {pl : List Byte} {p : Ply} {t : Int} (h : decodeSetTrim pl = some (p, t))
    (s : State) : s.setTrim pl =
      (.done (trimBytes t ++ yesNo (s.trimPending p t).isSome ++ trimBytes ((s.trimPending p t).getD 0)),
        s.storeTrim p t) := by
  rw [State.setTrim, h]; rfl

end Sys2Proof.Machine

namespace Sys2Proof.Proofs

open Sys2Proof.Machine

/-- Settles O39: the payload is read back as its entry, and the use of the entry named decides. -/
theorem setBlockReplacesTheEntry : Obligations.SetBlockReplacesTheEntry := by
  unfold Obligations.SetBlockReplacesTheEntry
  intro i b l tag s hadmits hb inUse
  have huse := entry_in_use_iff (o := s.block i) (s.blockInUse_iff i)
  have hread := State.setBlock_of_read (decodeSetBlock_bytes i hb) s
  have hlen : (be 1 i ++ blockBytes b).length = 10 := by simp [blockBytes_length]
  refine ⟨fun hfree => ?free, fun hsome hused => ?used, ?unread⟩
  case free =>
    refine exec_of_handle (r := .setBlock) hadmits hlen tag (hread.trans ?_)
    rw [if_neg fun h => (huse.mp h).1 (hfree.resolve_right (not_not_intro (huse.mp h).2)),
      setIfInBounds_fin]
    rfl
  case used =>
    refine exec_of_handle (r := .setBlock) hadmits hlen tag (hread.trans ?_)
    rw [if_pos (huse.mpr ⟨hsome, hused⟩)]
    rfl
  case unread =>
    intro pl hpl bad hbad
    exact exec_of_handle (r := .setBlock) hadmits hpl tag
      (State.setBlock_of_unread (decodeSetBlock_eq_none hpl hbad) s)

/-- Settles O41: the payload is read back as its segment, and the use of the segment named decides. -/
theorem setSegmentReplacesTheEntry : Obligations.SetSegmentReplacesTheEntry := by
  unfold Obligations.SetSegmentReplacesTheEntry
  intro i g l tag s hadmits hg inUse
  have huse := entry_in_use_iff (o := s.segment i) (s.segmentInUse_iff i)
  have hread := State.setSegment_of_read (decodeSetSegment_bytes i hg) s
  have hlen : (be 1 i ++ segmentBytes g).length = 12 := by simp [segmentBytes_length]
  refine ⟨fun hfree => ?free, fun hsome hused => ?used, ?unread⟩
  case free =>
    refine exec_of_handle (r := .setSegment) hadmits hlen tag (hread.trans ?_)
    rw [if_neg fun h => (huse.mp h).1 (hfree.resolve_right (not_not_intro (huse.mp h).2)),
      setIfInBounds_fin]
    rfl
  case used =>
    refine exec_of_handle (r := .setSegment) hadmits hlen tag (hread.trans ?_)
    rw [if_pos (huse.mpr ⟨hsome, hused⟩)]
    rfl
  case unread =>
    intro pl hpl bad hbad
    exact exec_of_handle (r := .setSegment) hadmits hpl tag
      (State.setSegment_of_unread (decodeSetSegment_eq_none hpl hbad) s)

/-- Settles O42: the trim is read back, and pends where the ply is active in a run. -/
theorem setTrimStoresAndPends : Obligations.SetTrimStoresAndPends := by
  unfold Obligations.SetTrimStoresAndPends
  intro p x l tag s hadmits hlo hhi limited
  have hread := State.setTrim_of_read (decodeSetTrim_trim p ⟨hlo, hhi⟩) s
  have hlen : (be 1 (plyNumber p) ++ trimBytes x).length = 4 := by simp [trimBytes]
  refine ⟨fun hout => ?stored, fun hrun hactive => ?pends, fun n w hn hw hbad => ?unread⟩
  case stored =>
    have hpend : s.trimPending p x = none := by
      rw [State.trimPending, if_neg]
      simpa [State.inRun, imp_iff_not_or] using hout
    refine exec_of_handle (r := .setTrim) hadmits hlen tag (hread.trans ?_)
    rw [State.storeTrim, hpend]
    rfl
  case pends =>
    have hpend : s.trimPending p x = some limited := by
      rw [State.trimPending, if_pos (by simpa [State.inRun] using ⟨hrun, hactive⟩)]
      rfl
    refine exec_of_handle (r := .setTrim) hadmits hlen tag (hread.trans ?_)
    rw [State.storeTrim, hpend]
    rfl
  case unread =>
    refine exec_of_handle (r := .setTrim) hadmits (by simp [requestLength]) tag (?_ : s.setTrim _ = _)
    rw [State.setTrim, decodeSetTrim_eq_none hn hw hbad]
    rfl

end Sys2Proof.Proofs


/-! ## SET-LAYOUT (R34, R35) -/

namespace Sys2Proof.Machine

/-! ### The codes of a layout (Table 9-6) -/

theorem Fill.code_le (x : Fill) : x.code ≤ 1 := by cases x <;> decide

@[simp] theorem fillOf_code (x : Fill) : fillOf x.code = some x := by cases x <;> rfl

theorem fillOf_le {n : Nat} {x : Fill} (h : fillOf n = some x) : n ≤ 1 := by
  unfold fillOf at h
  split at h <;> simp_all

theorem Overflow.code_le (x : Overflow) : x.code ≤ 1 := by cases x <;> decide

@[simp] theorem overflowOf_code (x : Overflow) : overflowOf x.code = some x := by cases x <;> rfl

theorem overflowOf_le {n : Nat} {x : Overflow} (h : overflowOf n = some x) : n ≤ 1 := by
  unfold overflowOf at h
  split at h <;> simp_all

theorem CheckMethod.code_le (x : CheckMethod) : x.code ≤ 3 := by
  cases x with
  | mod11w rule => cases rule <;> decide
  | none => decide
  | mod10w31 => decide
  | mod7r => decide

theorem CheckMethod.tenRuleCode_le (x : CheckMethod) : x.tenRuleCode ≤ 2 := by
  cases x with
  | mod11w rule => cases rule <;> decide
  | none => decide
  | mod10w31 => decide
  | mod7r => decide

@[simp] theorem checkOf_code (x : CheckMethod) : checkOf x.code x.tenRuleCode = some x := by
  cases x with
  | mod11w rule => cases rule <;> rfl
  | none => rfl
  | mod10w31 => rfl
  | mod7r => rfl

/-- R34: a ten-rule goes with MOD11W, and with it only. -/
theorem checkOf_fields {n rule : Nat} {x : CheckMethod} (h : checkOf n rule = some x) :
    n ≤ 3 ∧ (n = 2 → rule = 1 ∨ rule = 2) ∧ (n ≠ 2 → rule = 0) ∧ (n = 0 → x = .none) := by
  unfold checkOf at h
  split at h <;> simp_all

theorem maskByte_lt (m : PerPly Bool) : maskByte m < 64 := by
  unfold maskByte
  have := m.p0.toNat_le
  have := m.p1.toNat_le
  have := m.p2.toNat_le
  have := m.p3.toNat_le
  have := m.p4.toNat_le
  have := m.p5.toNat_le
  omega

@[simp] theorem maskOf_maskByte (m : PerPly Bool) : maskOf (maskByte m) = some m := by
  obtain ⟨a, b, c, d, e, f⟩ := m
  revert a b c d e f
  decide

/-- The mask read from a byte is sent as that byte. -/
theorem maskByte_of_maskOf {n : Nat} {m : PerPly Bool} (h : maskOf n = some m) : maskByte m = n := by
  have hall : ∀ k < 64, (maskOf k).map maskByte = some k := by decide
  have hn : n < 64 := by
    unfold maskOf at h
    split at h
    · assumption
    · simp at h
  simpa [h] using hall n hn

theorem maskEmpty_eq_true_iff (m : PerPly Bool) : maskEmpty m = true ↔ m = PerPly.all false := by
  obtain ⟨a, b, c, d, e, f⟩ := m
  revert a b c d e f
  decide

theorem maskEmpty_iff_of_maskOf {n : Nat} {m : PerPly Bool} (h : maskOf n = some m) :
    maskEmpty m = true ↔ n = 0 := by
  rw [maskEmpty, decide_eq_true_iff, maskByte_of_maskOf h]

theorem require_eq_some_iff {c : Bool} {u : Unit} : require c = some u ↔ c = true := by
  cases c <;> simp [require]

/-! ### Prefix, separator and phase B -/

theorem singleton_eq_be (b : Byte) : [b] = be 1 b.toNat := by simp [be]

theorem prefixBytes_length {t : List Byte} (h : t.length ≤ 4) : (prefixBytes t).length = 5 := by
  simp [prefixBytes]
  omega

/-- What follows the lead characters does not move them. -/
theorem decodePrefix_bytes {t : List Byte} (hlen : t.length ≤ 4) (hset : t.all inPrefixSet = true)
    (rest : List Byte) : decodePrefix (prefixBytes t ++ rest) = some t := by
  have hcount : field (prefixBytes t ++ rest) 0 1 = t.length := by
    rw [prefixBytes, List.append_assoc, List.append_assoc, field_be_append (by omega)]
  have hchars : ((prefixBytes t ++ rest).drop 1).take t.length = t := by
    rw [prefixBytes, List.append_assoc, List.append_assoc, List.drop_left' (be_length ..),
      List.take_left]
  simp only [decodePrefix, hcount, inRange_of_mem ⟨Nat.zero_le _, hlen⟩, Option.bind_eq_bind,
    Option.bind_some, hchars, hset, require]
  rfl

/-- The lead characters read are at most four, each of their set (Table 2-1). -/
theorem decodePrefix_fields {pl t : List Byte} (hlen : 5 ≤ pl.length) (h : decodePrefix pl = some t) :
    field pl 0 1 ≤ 4 ∧ ∀ k, k < field pl 0 1 → inPrefixSet (pl.getD (1 + k) 0) = true := by
  simp only [decodePrefix, Option.bind_eq_bind, Option.bind_eq_some_iff, inRange_eq_some_iff,
    require_eq_some_iff] at h
  obtain ⟨n, ⟨⟨-, hn⟩, rfl⟩, -, hset, -⟩ := h
  refine ⟨hn, fun k hk => ?_⟩
  rw [List.all_eq_true] at hset
  refine hset _ (List.mem_iff_getElem?.mpr ⟨k, ?_⟩)
  have hin : k + 1 < pl.length := by omega
  simp [hk, hin, Nat.add_comm 1 k]

theorem decodeSeparator_bytes {o : Option Byte} {m : CheckMethod}
    (h : ∀ c, o = some c → m ≠ .none ∧ inPrefixSet c = true) :
    decodeSeparator o.isSome.toNat (o.getD 0).toNat m = some o := by
  cases o with
  | none => rfl
  | some c =>
    obtain ⟨hm, hc⟩ := h c rfl
    simp [decodeSeparator, hm, hc, require]

/-- A separator is given with a check method and from the set of Table 2-1. -/
theorem decodeSeparator_fields {present char : Nat} {m : CheckMethod} {o : Option Byte}
    (h : decodeSeparator present char m = some o) :
    present ≤ 1 ∧ (present = 1 → m ≠ .none ∧ inPrefixSet (BitVec.ofNat 8 char) = true) := by
  unfold decodeSeparator at h
  split at h
  · simp
  · simp only [Option.bind_eq_bind, Option.bind_eq_some_iff, require_eq_some_iff, Bool.and_eq_true,
      decide_eq_true_iff] at h
    obtain ⟨-, hgiven, -⟩ := h
    exact ⟨le_rfl, fun _ => hgiven⟩
  · simp at h

theorem decodePhaseB_bytes (o : Option Nat) : decodePhaseB o.isSome.toNat (o.getD 0) = some o := by
  cases o <;> rfl

/-- Phase B is given with field B, and with it only. -/
theorem decodePhaseB_fields {present phase : Nat} {o : Option Nat}
    (h : decodePhaseB present phase = some o) :
    present ≤ 1 ∧ (present = 0 → phase = 0 ∧ o = none) := by
  unfold decodePhaseB at h
  split at h <;> simp_all

/-! ### The payload of SET-LAYOUT -/

theorem Layout.fieldBytes_length (l : Layout) : l.fieldBytes.length = 15 := by
  simp [Layout.fieldBytes, yesNo_eq_be]

theorem layoutBytes_length {lay : Option Layout} (h : ∀ x, lay = some x → x.InRange) :
    (layoutBytes lay).length = 21 := by
  cases lay with
  | none => rfl
  | some l =>
    have hprefix := prefixBytes_length (h l rfl).1
    simp [layoutBytes, Layout.fieldBytes_length, hprefix]

/-- The fields behind the lead characters stand at fixed places. -/
theorem field_prefixBytes_append {t : List Byte} (h : t.length ≤ 4) {off : Nat} (hoff : 5 ≤ off)
    (len : Nat) (rest : List Byte) : field (prefixBytes t ++ rest) off len = field rest (off - 5) len := by
  rw [field, List.drop_append, prefixBytes_length h,
    List.drop_of_length_le (by rw [prefixBytes_length h]; exact hoff), List.nil_append, field]

/-- The wire carries every layout record in range. -/
theorem decodeLayoutRecord_bytes {l : Layout} (h : l.InRange) :
    decodeLayoutRecord (prefixBytes l.prefixText ++ l.fieldBytes) = some l := by
  obtain ⟨hlen, hset, hwidth, hsep, hphaseA, hphaseB, hmaskB, hmasks, htol⟩ := h
  have hfill := l.fill.code_le
  have hcheck := l.check.code_le
  have hrule := l.check.tenRuleCode_le
  have hsome := l.separator.isSome.toNat_le
  have hchar : (l.separator.getD 0).toNat < 256 := (l.separator.getD 0).isLt
  have hpresent := l.phaseB.isSome.toNat_le
  have hphase : l.phaseB.getD 0 ≤ 65535 := by cases hb : l.phaseB <;> simp_all
  have hmA := maskByte_lt l.maskA
  have hmB := maskByte_lt l.maskB
  have hover := l.overflow.code_le
  have hB : (l.phaseB.isSome || maskEmpty l.maskB) = true := by
    rw [Bool.or_eq_true, maskEmpty_eq_true_iff]
    cases hb : l.phaseB with
    | none => exact .inr (hmaskB hb)
    | some b => exact .inl rfl
  have hsomeMask : (!(maskEmpty l.maskA && maskEmpty l.maskB)) = true := by
    rw [Bool.not_eq_true', ← Bool.not_eq_true, Bool.and_eq_true, maskEmpty_eq_true_iff,
      maskEmpty_eq_true_iff]
    exact hmasks
  rw [decodeLayoutRecord, decodePrefix_bytes hlen hset]
  simp (disch := omega) only [field_prefixBytes_append hlen]
  simp only [Layout.fieldBytes, yesNo_eq_be, singleton_eq_be (l.separator.getD 0), List.append_assoc]
  simp (disch := omega) only [field_be_append, field_be_append_of_le, field_be, inRange_of_mem hwidth,
    fillOf_code, checkOf_code, decodeSeparator_bytes hsep, decodePhaseB_bytes, maskOf_maskByte, hB,
    hsomeMask, overflowOf_code, require, Option.bind_eq_bind, Option.bind_some, Nat.reduceSub]
  rfl

theorem decodeSetLayout_bytes (i : Fin 8) {lay : Option Layout} (h : ∀ x, lay = some x → x.InRange) :
    decodeSetLayout (be 1 i ++ layoutBytes lay) = some (i.val, lay) := by
  have hrest : (be 1 i ++ layoutBytes lay).drop 1 = layoutBytes lay := List.drop_left' (be_length ..)
  have hentry : decodeLayout (layoutBytes lay) = some lay := by
    cases lay with
    | none => rfl
    | some l =>
      have hrecord : (layoutBytes (some l)).drop 1 = prefixBytes l.prefixText ++ l.fieldBytes := by
        rw [layoutBytes, List.append_assoc, List.drop_left' (be_length ..)]
      have hstate : field (layoutBytes (some l)) 0 1 = 1 := by
        rw [layoutBytes, List.append_assoc, field_be_append (by omega)]
      rw [decodeLayout, hstate, hrecord]
      simp only [decodeLayoutRecord_bytes (h l rfl), Option.map_some]
  rw [decodeSetLayout, field_be_append (by omega), hrest, hentry, inRange_of_mem (by omega)]
  rfl

/-- The fields that R34 tests are as it takes them where a layout record is read. -/
theorem decodeLayoutRecord_fields {pl : List Byte} {l : Layout} (hlen : 5 ≤ pl.length)
    (h : decodeLayoutRecord pl = some l) :
    (field pl 0 1 ≤ 4 ∧ ∀ k, k < field pl 0 1 → inPrefixSet (pl.getD (1 + k) 0) = true)
    ∧ (1 ≤ field pl 5 1 ∧ field pl 5 1 ≤ 10) ∧ field pl 6 1 ≤ 1
    ∧ (field pl 7 1 ≤ 3 ∧ (field pl 7 1 = 2 → field pl 10 1 = 1 ∨ field pl 10 1 = 2)
      ∧ (field pl 7 1 ≠ 2 → field pl 10 1 = 0))
    ∧ (field pl 8 1 ≤ 1 ∧ (field pl 8 1 = 1 →
      field pl 7 1 ≠ 0 ∧ inPrefixSet (BitVec.ofNat 8 (field pl 9 1)) = true))
    ∧ (field pl 11 1 ≤ 1 ∧ (field pl 11 1 = 0 → field pl 14 2 = 0 ∧ field pl 17 1 = 0))
    ∧ ¬ (field pl 16 1 = 0 ∧ field pl 17 1 = 0) ∧ field pl 19 1 ≤ 1 := by
  simp only [decodeLayoutRecord, Option.bind_eq_bind, Option.bind_eq_some_iff, inRange_eq_some_iff,
    require_eq_some_iff] at h
  obtain ⟨_, hprefix, _, ⟨hwidth, -⟩, _, hfill, m, hcheck, _, hsep, phaseB, hphaseB, maskA, hmaskA, maskB,
    hmaskB, -, hfieldB, -, hmasks, _, hoverflow, -⟩ := h
  obtain ⟨hmethod, hrule, hnorule, hnone⟩ := checkOf_fields hcheck
  obtain ⟨hseparated, hgiven⟩ := decodeSeparator_fields hsep
  obtain ⟨hpresent, habsent⟩ := decodePhaseB_fields hphaseB
  refine ⟨decodePrefix_fields hlen hprefix, hwidth, fillOf_le hfill, ⟨hmethod, hrule, hnorule⟩,
    ⟨hseparated, fun h => ⟨fun h0 => (hgiven h).1 (hnone h0), (hgiven h).2⟩⟩,
    ⟨hpresent, fun h => ⟨(habsent h).1, ?_⟩⟩, ?_, overflowOf_le hoverflow⟩
  · rw [(habsent h).2] at hfieldB
    exact (maskEmpty_iff_of_maskOf hmaskB).mp (by simpa using hfieldB)
  · rintro ⟨hA, hB⟩
    rw [(maskEmpty_iff_of_maskOf hmaskA).mpr hA, (maskEmpty_iff_of_maskOf hmaskB).mpr hB] at hmasks
    exact absurd hmasks (by decide)

/-- A layout table entry read is EMPTY, or its record is read. -/
theorem decodeLayout_fields {pl : List Byte} {lay : Option Layout} (h : decodeLayout pl = some lay) :
    field pl 0 1 ≤ 1 ∧ (field pl 0 1 = 1 → ∃ l, decodeLayoutRecord (pl.drop 1) = some l) := by
  unfold decodeLayout at h
  split at h
  · simp [*]
  · obtain ⟨l, hl, -⟩ := Option.map_eq_some_iff.mp h
    exact ⟨by omega, fun _ => ⟨l, hl⟩⟩
  · simp at h

/-- A payload with a field that R34 does not take is not read. -/
theorem decodeSetLayout_eq_none {pl : List Byte} (hlen : pl.length = 22)
    (hbad : let c := fun i => pl.getD i 0
      let b := fun i => (c i).toNat
      7 < b 0 ∨ 1 < b 1 ∨ (b 1 = 1 ∧
        (4 < b 2 ∨ (∃ k, k < b 2 ∧ inPrefixSet (c (3 + k)) = false)
          ∨ b 7 = 0 ∨ 10 < b 7 ∨ 1 < b 8 ∨ 3 < b 9
          ∨ 1 < b 10 ∨ (b 10 = 1 ∧ (b 9 = 0 ∨ inPrefixSet (c 11) = false))
          ∨ (b 9 = 2 ∧ b 12 ≠ 1 ∧ b 12 ≠ 2) ∨ (b 9 ≠ 2 ∧ b 12 ≠ 0)
          ∨ 1 < b 13 ∨ (b 13 = 0 ∧ (field pl 16 2 ≠ 0 ∨ b 19 ≠ 0)) ∨ (b 18 = 0 ∧ b 19 = 0)
          ∨ 1 < b 21))) :
    decodeSetLayout pl = none := by
  rw [Option.eq_none_iff_forall_ne_some]
  intro x hx
  simp only [decodeSetLayout, Option.bind_eq_bind, Option.bind_eq_some_iff, inRange_eq_some_iff] at hx
  obtain ⟨i, ⟨hi, -⟩, lay, hlay, -⟩ := hx
  obtain ⟨hstate, hrecord⟩ := decodeLayout_fields hlay
  simp (disch := omega) only [field_drop, field_one, Nat.reduceAdd] at hi hstate hrecord
  simp only at hbad
  obtain hindex | hentry | ⟨hdefined, hbad⟩ := hbad
  · omega
  · omega
  obtain ⟨l, hl⟩ := hrecord hdefined
  rw [List.drop_drop] at hl
  have hshift : ∀ k, (pl.drop 2).getD k 0 = pl.getD (2 + k) 0 := fun k => by simp
  have hfields := decodeLayoutRecord_fields (by rw [List.length_drop]; omega) hl
  simp (disch := omega) only [Nat.reduceAdd, field_drop, field_one, hshift, BitVec.ofNat_toNat,
    BitVec.setWidth_eq] at hfields
  obtain ⟨⟨hcount, hchars⟩, hwidth, hfill, hcheck, ⟨hsep, hgiven⟩, hphaseB, hmasks, hoverflow⟩ := hfields
  rcases hbad with h | ⟨k, hk, hchar⟩ | h | h | h | h | h | ⟨h, hmethod | hchar⟩ | h
  · omega
  · have hin := hchars k hk
    rw [← Nat.add_assoc, hchar] at hin
    exact absurd hin (by decide)
  · omega
  · omega
  · omega
  · omega
  · omega
  · exact (hgiven h).1 hmethod
  · exact absurd ((hgiven h).2) (by rw [hchar]; decide)
  · omega

theorem State.setLayout_of_unread {pl : List Byte} (h : decodeSetLayout pl = none) (s : State) :
    s.setLayout pl = (.refused .badField 0 0, s) := by
  rw [State.setLayout, h]; rfl

theorem State.setLayout_of_read {pl : List Byte} {i : Nat} {lay : Option Layout}
    (h : decodeSetLayout pl = some (i, lay)) (s : State) :
    s.setLayout pl = if (s.layout i).isSome && s.layoutInUse i then refuse .inUse s
      else done [] { s with layouts := s.layouts.setIfInBounds i lay } := by
  rw [State.setLayout, h]

end Sys2Proof.Machine

namespace Sys2Proof.Proofs

open Sys2Proof.Machine

/-- Settles O40: the payload is read back as its layout, and the use of the layout named decides. -/
theorem setLayoutReplacesTheEntry : Obligations.SetLayoutReplacesTheEntry := by
  unfold Obligations.SetLayoutReplacesTheEntry
  intro l tag s hadmits
  refine ⟨fun i lay hlay => ?read, ?unread⟩
  case read =>
    intro named inUse
    have huse := entry_in_use_iff (o := s.layout i) (s.layoutInUse_iff i)
    have hread := State.setLayout_of_read (decodeSetLayout_bytes i hlay) s
    have hlen : (be 1 i ++ layoutBytes lay).length = 22 := by simp [layoutBytes_length hlay]
    refine ⟨fun hfree => exec_of_handle (r := .setLayout) hadmits hlen tag (hread.trans ?_),
      fun hsome hused => exec_of_handle (r := .setLayout) hadmits hlen tag (hread.trans ?_)⟩
    · rw [if_neg fun h => (huse.mp h).1 (hfree.resolve_right (not_not_intro (huse.mp h).2)),
        setIfInBounds_fin]
      rfl
    · rw [if_pos (huse.mpr ⟨hsome, hused⟩)]
      rfl
  case unread =>
    intro pl hpl c b hbad
    exact exec_of_handle (r := .setLayout) hadmits hpl tag
      (State.setLayout_of_unread (decodeSetLayout_eq_none hpl hbad) s)

end Sys2Proof.Proofs


/-! ## What joins to the make-up list do (R135 to R137) -/

namespace Sys2Proof.Machine

theorem State.notify_of_room {s : State} (h : s.notices.length < 48) (n : Notice) :
    s.notify n = { s with notices := s.notices ++ [⟨n, .owner⟩] } := by
  have hroom : s.notices.length < Config.noticeCapacity := h
  rw [State.notify, State.queueNotice, if_pos hroom]

/-- A notice sent changes at most the notice queue and the withheld flag. -/
theorem State.notify_notices {s : State} (h : s.notices.length < 48) (n : Notice) :
    (s.notify n).notices = s.notices ++ [⟨n, .owner⟩] := by
  rw [State.notify_of_room h]

/-- Whether a value that joins sets the batch flag (R137, third case). -/
def State.joinSetsFlag (s : State) : Bool :=
  decide (s.endMakeups = some .auto) && decide (s.cursor.map (·.state) = some .chainEnd)

/-- What joins to the make-up list leave, with the batch flag, the causes and the notices that they
give: everything else is as it was. -/
structure State.Joined (s t : State) : Prop where
  rest : t = { s with
    makeups := t.makeups, batch := t.batch, runState := t.runState, causes := t.causes
    notices := t.notices, withheld := t.withheld }
  grows : s.makeups.length ≤ t.makeups.length
  batch : t.batch = (s.batch || (decide (s.makeups.length < t.makeups.length) && s.joinSetsFlag))
  held : s.HeldByJoins t s.batch s.makeups.length t.makeups.length
  notices : s.notices.length + (s.joinNotices s.batch s.makeups.length t.makeups.length).length ≤ 48 →
    t.notices = s.notices ++ s.joinNotices s.batch s.makeups.length t.makeups.length

theorem State.flagAtHigh_eq (s : State) (flag : Bool) (before : Nat) :
    s.flagAtHigh flag before = (flag || (decide (before < 127) && s.joinSetsFlag)) := by
  rw [State.flagAtHigh, State.joinSetsFlag, Bool.and_assoc]

theorem State.joinsHold_self (s : State) (flag : Bool) (n : Nat) : s.joinsHold flag n n = false := by
  simp [State.joinsHold]

theorem State.joinNotices_self (s : State) (flag : Bool) (n : Nat) : s.joinNotices flag n n = [] := by
  have hno : ¬ (n < 128 ∧ 128 ≤ n) := by omega
  simp [State.joinNotices, State.joinsHold_self, hno]

/-- At most RUN-STATE and MAKEUP-HIGH. -/
theorem State.joinNotices_length_le (s : State) (flag : Bool) (before after : Nat) :
    (s.joinNotices flag before after).length ≤ 2 := by
  unfold State.joinNotices
  split <;> split <;> simp

namespace State.Joined

theorem refl (s : State) : s.Joined s where
  rest := rfl
  grows := le_rfl
  batch := by simp
  held := by simp [State.HeldByJoins, State.joinsHold_self]
  notices _ := by simp [State.joinNotices_self]

theorem joinSetsFlag_eq {s t : State} (h : s.Joined t) : t.joinSetsFlag = s.joinSetsFlag := by
  rw [h.rest]; rfl

/-- The flag at the join to 128 is the same whether it is read before or after joins below it. -/
theorem flagAtHigh_eq {s t : State} (h : s.Joined t) (hlow : t.makeups.length < 128) :
    t.flagAtHigh t.batch t.makeups.length = s.flagAtHigh s.batch s.makeups.length := by
  rw [State.flagAtHigh_eq, State.flagAtHigh_eq, h.batch, h.joinSetsFlag_eq]
  have hgrows := h.grows
  obtain heq | hlt := hgrows.eq_or_lt
  · simp [← heq]
  · have hbefore : s.makeups.length < 127 := by omega
    cases s.batch <;> simp [hlt, hbefore]

theorem cursor {s t : State} (h : s.Joined t) : t.cursor = s.cursor := by rw [h.rest]
theorem slots {s t : State} (h : s.Joined t) : t.slots = s.slots := by rw [h.rest]
theorem plies {s t : State} (h : s.Joined t) : t.plies = s.plies := by rw [h.rest]
theorem tallies {s t : State} (h : s.Joined t) : t.tallies = s.tallies := by rw [h.rest]
theorem drain {s t : State} (h : s.Joined t) : t.drain = s.drain := by rw [h.rest]

/-- Where no join holds the run, its state and causes stand. -/
theorem same {s t : State} (h : s.Joined t)
    (hno : s.joinsHold s.batch s.makeups.length t.makeups.length = false) :
    t.runState = s.runState ∧ t.causes = s.causes := by
  have hheld := h.held
  rwa [State.HeldByJoins, if_neg (by simp [hno])] at hheld

/-- Where a join holds the run, it is HELD with MAKEUPS. -/
theorem holds {s t : State} (h : s.Joined t)
    (hyes : s.joinsHold s.batch s.makeups.length t.makeups.length = true) :
    t.runState = .held ∧ t.causes = { s.causes with makeups := true } := by
  have hheld := h.held
  rwa [State.HeldByJoins, if_pos hyes] at hheld

/-- A join that holds the run comes to 128 entries or more with the flag clear, in RUNNING or HELD. -/
theorem joinsHold_iff (s : State) (flag : Bool) (before after : Nat) :
    s.joinsHold flag before after = true ↔ before < after ∧ 128 ≤ after
      ∧ s.flagAtHigh flag before = false ∧ s.issuing = true := by
  simp [State.joinsHold, State.issuing, and_assoc]

theorem issuing_eq {s t : State} (h : s.Joined t) : t.issuing = s.issuing := by
  cases hhold : s.joinsHold s.batch s.makeups.length t.makeups.length with
  | false => rw [State.issuing, State.issuing, (h.same hhold).1]
  | true =>
    obtain ⟨-, -, -, hissuing⟩ := (joinsHold_iff ..).mp hhold
    rw [hissuing, State.issuing_iff]
    exact .inr (h.holds hhold).1

/-- Joins that reach 128 without holding the run leave none to hold it. -/
theorem joinsHold_after {s t : State} (h : s.Joined t) (hlt : s.makeups.length < t.makeups.length)
    (hhigh : 128 ≤ t.makeups.length)
    (hno : s.joinsHold s.batch s.makeups.length t.makeups.length = false) (after : Nat) :
    t.joinsHold t.batch t.makeups.length after = false := by
  rw [← Bool.not_eq_true, joinsHold_iff] at hno ⊢
  rintro ⟨-, -, hflag, hissuing⟩
  rw [State.flagAtHigh_eq, h.batch] at hflag
  rw [h.issuing_eq] at hissuing
  refine hno ⟨hlt, hhigh, ?_, hissuing⟩
  rw [State.flagAtHigh_eq]
  simp_all

/-- What joins before others and those others hold together. -/
theorem joinsHold_trans {s t : State} (h : s.Joined t) {after : Nat} (hafter : t.makeups.length ≤ after) :
    s.joinsHold s.batch s.makeups.length after =
      (s.joinsHold s.batch s.makeups.length t.makeups.length
        || t.joinsHold t.batch t.makeups.length after) := by
  have hgrows := h.grows
  rw [Bool.eq_iff_iff, Bool.or_eq_true]
  cases hno : s.joinsHold s.batch s.makeups.length t.makeups.length with
  | true =>
    obtain ⟨hlt, hhigh, hflag, hissuing⟩ := (joinsHold_iff ..).mp hno
    simp only [true_or, iff_true]
    exact (joinsHold_iff ..).mpr ⟨by omega, by omega, hflag, hissuing⟩
  | false =>
    obtain hlow | hhigh := Nat.lt_or_ge t.makeups.length 128
    · simp only [joinsHold_iff, h.flagAtHigh_eq hlow, h.issuing_eq, Bool.false_eq_true, false_or]
      constructor
      · rintro ⟨-, ha, hf, hi⟩
        exact ⟨by omega, ha, hf, hi⟩
      · rintro ⟨-, ha, hf, hi⟩
        exact ⟨by omega, ha, hf, hi⟩
    · obtain heq | hlt := hgrows.eq_or_lt
      · have hflag : t.batch = s.batch := by simp [h.batch, ← heq]
        simp only [joinsHold_iff, State.flagAtHigh_eq, h.joinSetsFlag_eq, h.issuing_eq, hflag, heq,
          Bool.false_eq_true, false_or]
      · rw [h.joinsHold_after hlt hhigh hno]
        simp only [Bool.false_eq_true, or_false, iff_false]
        intro hall
        obtain ⟨-, -, hflag, hissuing⟩ := (joinsHold_iff ..).mp hall
        have hyes := (joinsHold_iff ..).mpr ⟨hlt, hhigh, hflag, hissuing⟩
        rw [hno] at hyes
        exact absurd hyes (by decide)

theorem heldByJoins_trans {s t u : State} (h : s.Joined t) (k : t.Joined u) :
    s.HeldByJoins u s.batch s.makeups.length u.makeups.length := by
  rw [State.HeldByJoins, h.joinsHold_trans k.grows]
  cases hlater : t.joinsHold t.batch t.makeups.length u.makeups.length with
  | true =>
    obtain ⟨hrun, hcauses⟩ := k.holds hlater
    rw [if_pos (by simp), hrun, hcauses]
    cases hfirst : s.joinsHold s.batch s.makeups.length t.makeups.length with
    | true => simp [(h.holds hfirst).2]
    | false => simp [(h.same hfirst).2]
  | false =>
    rw [Bool.or_false, (k.same hlater).1, (k.same hlater).2]
    exact h.held

/-- The notices of joins are those of the first, then those of the others. -/
theorem joinNotices_trans {s t : State} (h : s.Joined t) {after : Nat} (hafter : t.makeups.length ≤ after) :
    s.joinNotices s.batch s.makeups.length after =
      s.joinNotices s.batch s.makeups.length t.makeups.length
        ++ t.joinNotices t.batch t.makeups.length after := by
  have hgrows := h.grows
  have hhold := h.joinsHold_trans hafter
  cases hfirst : s.joinsHold s.batch s.makeups.length t.makeups.length with
  | true =>
    obtain ⟨hrun, hcauses⟩ := h.holds hfirst
    obtain ⟨-, hhigh, -, -⟩ := (joinsHold_iff ..).mp hfirst
    have hpast : ¬ (t.makeups.length < 128 ∧ 128 ≤ after) := by omega
    have hreach : (s.makeups.length < 128 ∧ 128 ≤ after)
        ↔ (s.makeups.length < 128 ∧ 128 ≤ t.makeups.length) := by omega
    simp [State.joinNotices, hhold, hfirst, hrun, hcauses, hpast, hreach]
  | false =>
    obtain ⟨hrun, hcauses⟩ := h.same hfirst
    rw [hfirst, Bool.false_or] at hhold
    obtain hlow | hhigh := Nat.lt_or_ge t.makeups.length 128
    · have hnot : ¬ (s.makeups.length < 128 ∧ 128 ≤ t.makeups.length) := by omega
      have hreach : (s.makeups.length < 128 ∧ 128 ≤ after)
          ↔ (t.makeups.length < 128 ∧ 128 ≤ after) := by omega
      simp [State.joinNotices, hhold, hfirst, hrun, hcauses, hnot, hreach, h.flagAtHigh_eq hlow, h.drain]
    · have hpast : ¬ (t.makeups.length < 128 ∧ 128 ≤ after) := by omega
      have hreach : (s.makeups.length < 128 ∧ 128 ≤ after)
          ↔ (s.makeups.length < 128 ∧ 128 ≤ t.makeups.length) := by omega
      obtain heq | hlt := hgrows.eq_or_lt
      · have hnot : ¬ (s.makeups.length < 128 ∧ 128 ≤ t.makeups.length) := by omega
        simp [State.joinNotices, hhold, hfirst, hrun, hcauses, hpast, hreach, hnot, h.drain]
      · have hlater := h.joinsHold_after hlt hhigh hfirst after
        simp [State.joinNotices, hhold, hfirst, hlater, hpast, hreach]

theorem trans {s t u : State} (h : s.Joined t) (k : t.Joined u) : s.Joined u where
  rest := by
    have hrest := k.rest
    rw [h.rest] at hrest
    exact hrest
  grows := h.grows.trans k.grows
  batch := by
    have hh := h.grows
    have hk := k.grows
    rw [k.batch, h.batch, h.joinSetsFlag_eq]
    have hlen : s.makeups.length < u.makeups.length ↔
        s.makeups.length < t.makeups.length ∨ t.makeups.length < u.makeups.length := by omega
    rw [decide_eq_decide.mpr hlen, Bool.decide_or, Bool.and_or_distrib_right, Bool.or_assoc]
  held := h.heldByJoins_trans k
  notices hroom := by
    rw [h.joinNotices_trans k.grows] at hroom ⊢
    rw [List.length_append] at hroom
    have hfirst := h.notices (by omega)
    rw [k.notices (by rw [hfirst, List.length_append]; omega), hfirst, List.append_assoc]

end State.Joined

/-- A value listed or refused for want of room joins to no effect. -/
theorem State.joinMakeup_of_not {s : State} {e : MakeupEntry}
    (h : ¬ (s.listed e.value = false ∧ s.makeups.length < 256)) : (s.joinMakeup e).2 = s := by
  obtain ⟨-, he⟩ | ⟨-, -, he⟩ | ⟨hl, hc, -⟩ := s.joinMakeup_cases e
  · rw [he]
  · rw [he]
  · exact absurd ⟨hl, hc⟩ h

theorem State.joinMakeup_of_room {s : State} {e : MakeupEntry} (hl : s.listed e.value = false)
    (hc : s.makeups.length < 256) :
    s.joinMakeup e = (.joined, ({ s with makeups := insertEntry e s.makeups }.afterJoin).batchAtJoin) := by
  obtain ⟨h, -⟩ | ⟨-, h, -⟩ | ⟨-, -, he⟩ := s.joinMakeup_cases e
  · rw [h] at hl; exact absurd hl (by decide)
  · exact absurd h (Nat.not_le.mpr hc)
  · exact he

/-! ### What a cause given reports (R148, R151) -/

/-- R151: RUN-STATE as a cause given sends it: while RUNNING, and while HELD where the cause is new. -/
def State.causeNotices (s : State) (c : HoldCause) : List QueuedNotice :=
  if s.runState = .running ∨ (s.runState = .held ∧ s.causes.has c = false) then
    [⟨.runState .held (s.causes.join c) s.drain, .owner⟩]
  else []

theorem State.giveCause_only (s : State) (c : HoldCause) :
    s.giveCause c = { s with
      runState := (s.giveCause c).runState, causes := (s.giveCause c).causes
      notices := (s.giveCause c).notices, withheld := (s.giveCause c).withheld } := by
  obtain ⟨hr, he⟩ | ⟨hr, -, he⟩ | ⟨-, he⟩ := s.giveCause_cases c
  · rw [he, State.notifyRunState, State.notify_only]
  · rw [he, State.notifyRunState, State.notify_only]
  · rw [he]

/-- A cause given while sets are issued leaves the run HELD with that cause. -/
theorem State.giveCause_runState_of_issuing {s : State} (h : s.issuing = true) (c : HoldCause) :
    (s.giveCause c).runState = .held := by
  rw [State.issuing_iff] at h
  obtain ⟨-, he⟩ | ⟨hr, -, he⟩ | ⟨⟨hr, -⟩ | hr | hr, he⟩ := s.giveCause_cases c
  · rw [he, State.notifyRunState_runState]
  · rw [he, State.notifyRunState_runState, hr]
  · rw [he, hr]
  · simp [hr] at h
  · simp [hr] at h

theorem State.giveCause_of_not_issuing {s : State} (h : s.issuing = false) (c : HoldCause) :
    s.giveCause c = s := by
  have hnot : ¬ (s.runState = .running ∨ s.runState = .held) := by
    rw [← State.issuing_iff, h]; decide
  obtain ⟨hr, -⟩ | ⟨hr, -⟩ | ⟨-, he⟩ := s.giveCause_cases c
  · exact absurd (.inl hr) hnot
  · exact absurd (.inr hr) hnot
  · exact he

theorem State.causeNotices_length_le (s : State) (c : HoldCause) : (s.causeNotices c).length ≤ 1 := by
  unfold State.causeNotices
  split <;> simp

theorem State.giveCause_notices {s : State} {c : HoldCause}
    (h : s.notices.length + (s.causeNotices c).length ≤ 48) :
    (s.giveCause c).notices = s.notices ++ s.causeNotices c := by
  obtain ⟨hr, he⟩ | ⟨hr, hc, he⟩ | ⟨hno, he⟩ := s.giveCause_cases c
  · have hsent : s.causeNotices c = [⟨.runState .held (s.causes.join c) s.drain, .owner⟩] :=
      if_pos (.inl hr)
    rw [hsent] at h
    rw [he, hsent, State.notifyRunState, State.notify_notices (by simpa using h)]
  · have hsent : s.causeNotices c = [⟨.runState .held (s.causes.join c) s.drain, .owner⟩] :=
      if_pos (.inr ⟨hr, hc⟩)
    rw [hsent] at h
    rw [he, hsent, State.notifyRunState, State.notify_notices (by simpa using h), hr]
  · have hsilent : s.causeNotices c = [] := if_neg (by
      rcases hno with ⟨hr, hc⟩ | hr | hr <;> simp [*])
    rw [he, hsilent, List.append_nil]

/-! ### One join -/

/-- R136: whether the join that makes the list as it is gives the cause MAKEUPS. -/
def State.joinGivesCause (t : State) : Bool := decide (128 ≤ t.makeups.length) && !t.batch

/-- The cause MAKEUPS given at a join. -/
def State.causeAtJoin (t : State) : State := if t.joinGivesCause then t.giveCause .makeups else t

theorem State.afterJoin_eq (t : State) : t.afterJoin = if t.makeups.length = 128 then
    t.causeAtJoin.notify (.makeupHigh t.makeups.length t.causeAtJoin.batch) else t.causeAtJoin := rfl

theorem State.causeAtJoin_only (t : State) : t.causeAtJoin = { t with
    runState := t.causeAtJoin.runState, causes := t.causeAtJoin.causes
    notices := t.causeAtJoin.notices, withheld := t.causeAtJoin.withheld } := by
  unfold State.causeAtJoin
  split
  · exact t.giveCause_only .makeups
  · rfl

theorem State.afterJoin_only (t : State) : t.afterJoin = { t with
    runState := t.afterJoin.runState, causes := t.afterJoin.causes
    notices := t.afterJoin.notices, withheld := t.afterJoin.withheld } := by
  rw [State.afterJoin_eq]
  split
  · rw [State.notify_only, State.causeAtJoin_only]
  · exact t.causeAtJoin_only

theorem State.afterJoin_runState (t : State) : t.afterJoin.runState = t.causeAtJoin.runState
    ∧ t.afterJoin.causes = t.causeAtJoin.causes := by
  rw [State.afterJoin_eq]
  split
  · exact ⟨State.notify_runState .., State.notify_causes ..⟩
  · exact ⟨rfl, rfl⟩

section OneJoin

variable {s t : State} {l : List MakeupEntry} (hl : l.length = s.makeups.length + 1)
  (ht : t = { s with makeups := l })
include hl ht

/-- A single join holds the run exactly where it gives the cause while sets are issued. -/
theorem State.joinsHold_one : s.joinsHold s.batch s.makeups.length l.length
    = (t.joinGivesCause && s.issuing) := by
  have hmakeups : t.makeups = l := by rw [ht]
  have hbatch : t.batch = s.batch := by rw [ht]
  rw [Bool.eq_iff_iff, State.Joined.joinsHold_iff, State.flagAtHigh_eq, State.joinGivesCause, hmakeups,
    hbatch, Bool.and_eq_true, Bool.and_eq_true, decide_eq_true_iff, Bool.not_eq_true', and_assoc]
  constructor
  · rintro ⟨-, hhigh, hflag, hissuing⟩
    exact ⟨hhigh, by simpa using (Bool.or_eq_false_iff.mp hflag).1, hissuing⟩
  · rintro ⟨hhigh, hflag, hissuing⟩
    have hpast : ¬ s.makeups.length < 127 := by omega
    exact ⟨by omega, hhigh, by simp [hflag, hpast], hissuing⟩

theorem State.heldByJoins_one : s.HeldByJoins t.afterJoin s.batch s.makeups.length l.length := by
  have hissuing : t.issuing = s.issuing := by rw [ht]; rfl
  have hrun : t.runState = s.runState := by rw [ht]
  have hcauses : t.causes = s.causes := by rw [ht]
  rw [State.HeldByJoins, State.joinsHold_one hl ht, t.afterJoin_runState.1, t.afterJoin_runState.2,
    State.causeAtJoin]
  cases hgives : t.joinGivesCause with
  | false => simp [hrun, hcauses]
  | true =>
    cases hi : s.issuing with
    | false => simp [State.giveCause_of_not_issuing (hissuing.trans hi), hrun, hcauses]
    | true =>
      have hi' := hissuing.trans hi
      simp only [Bool.and_self, if_true, State.giveCause_runState_of_issuing hi',
        State.giveCause_causes_of_issuing hi', hcauses, true_and]
      rfl

/-- The notices of a single join: RUN-STATE of the cause, then MAKEUP-HIGH at 128. -/
theorem State.joinNotices_one : s.joinNotices s.batch s.makeups.length l.length
    = (if t.joinGivesCause then t.causeNotices .makeups else [])
      ++ if l.length = 128 then [⟨.makeupHigh l.length s.batch, .owner⟩] else [] := by
  have hrun : t.runState = s.runState := by rw [ht]
  have hcauses : t.causes = s.causes := by rw [ht]
  have hdrain : t.drain = s.drain := by rw [ht]
  rw [State.joinNotices, State.joinsHold_one hl ht]
  congr 1
  · cases hgives : t.joinGivesCause with
    | false => simp
    | true =>
      cases hr : s.runState <;>
        simp [State.causeNotices, State.issuing, hrun, hcauses, hdrain, hr, HoldCauses.has, HoldCauses.join]
  · by_cases h128 : l.length = 128
    · have hbefore : s.makeups.length = 127 := by omega
      simp [h128, hbefore, State.flagAtHigh_eq]
    · rw [if_neg (by omega), if_neg h128]

theorem State.afterJoin_notices
    (hroom : s.notices.length + (s.joinNotices s.batch s.makeups.length l.length).length ≤ 48) :
    t.afterJoin.notices = s.notices ++ s.joinNotices s.batch s.makeups.length l.length := by
  have hnotices : t.notices = s.notices := by rw [ht]
  have hmakeups : t.makeups = l := by rw [ht]
  have hbatch : t.causeAtJoin.batch = s.batch := by rw [t.causeAtJoin_only, ht]
  rw [State.joinNotices_one hl ht] at hroom ⊢
  rw [List.length_append] at hroom
  have hcause : t.causeAtJoin.notices
      = s.notices ++ if t.joinGivesCause then t.causeNotices .makeups else [] := by
    rw [State.causeAtJoin]
    cases hgives : t.joinGivesCause with
    | false => simp [hnotices]
    | true =>
      rw [hgives] at hroom
      simp only [if_true] at hroom ⊢
      rw [State.giveCause_notices (by rw [hnotices]; omega), hnotices]
  rw [State.afterJoin_eq, hmakeups, hbatch]
  by_cases h128 : l.length = 128
  · rw [if_pos h128] at hroom ⊢
    rw [if_pos h128, State.notify_notices, hcause, List.append_assoc]
    rw [hcause, List.length_append]
    simp only [List.length_singleton] at hroom
    omega
  · rw [if_neg h128, if_neg h128, hcause, List.append_nil]

end OneJoin

/-- R137, third case. -/
theorem State.batchAtJoin_eq (s : State) : s.batchAtJoin = { s with batch := s.batch || s.joinSetsFlag } := by
  have hunfold : s.batchAtJoin = if s.joinSetsFlag then { s with batch := true } else s := rfl
  rw [hunfold]
  cases s.joinSetsFlag with
  | true => rw [if_pos rfl, Bool.or_true]
  | false => rw [if_neg (by decide), Bool.or_false]

theorem State.joinMakeup_joined (s : State) (e : MakeupEntry) : s.Joined (s.joinMakeup e).2 := by
  by_cases h : s.listed e.value = false ∧ s.makeups.length < 256
  · have hlen := insertEntry_length e s.makeups
    have hheld := State.heldByJoins_one hlen rfl
    have hnotices := State.afterJoin_notices hlen rfl
    have hrest := ({ s with makeups := insertEntry e s.makeups } : State).afterJoin_only
    rw [State.joinMakeup_of_room h.1 h.2, State.batchAtJoin_eq]
    generalize ({ s with makeups := insertEntry e s.makeups } : State).afterJoin = u at *
    have hmakeups : u.makeups = insertEntry e s.makeups := by rw [hrest]
    have hbatch : u.batch = s.batch := by rw [hrest]
    have hsets : u.joinSetsFlag = s.joinSetsFlag := by rw [hrest]; rfl
    refine ⟨?rest, ?grows, ?batch, ?held, ?notices⟩ <;> dsimp only
    case rest =>
      rw [hmakeups]
      exact congrArg (fun v : State => { v with
        batch := u.batch || u.joinSetsFlag, makeups := insertEntry e s.makeups }) hrest
    case grows => rw [hmakeups]; omega
    case batch => simp [hmakeups, hbatch, hsets]
    case held => rw [hmakeups]; exact hheld
    case notices => rw [hmakeups]; exact hnotices
  · rw [State.joinMakeup_of_not h]
    exact .refl s

end Sys2Proof.Machine


/-! ## The run's requests (Chapter 8) -/

namespace Sys2Proof.Machine

/-! ### What an answer leaves -/

/-- An answer changes its link alone, and there by the reply alone. -/
theorem State.replied_links {s u : State} (h : u.links = s.links) (l : Link) (tag : Byte) (r : Request)
    (a : Answer) : (u.replied l tag r a).links = (s.replied l tag r a).links := by
  simp [State.replied, State.pushReply, State.modLink, h]

theorem State.SetupKept.replied {s u : State} (h : s.SetupKept u) (l : Link) (tag : Byte) (r : Request)
    (a : Answer) : s.SetupKept (u.replied l tag r a) := h

/-! ### The end of a run (R121, R157) -/

theorem State.SetupKept.notify (s : State) (n : Notice) : s.SetupKept (s.notify n) := by
  simp [State.SetupKept]

theorem State.SetupKept.finishRun (s : State) (way : RunEnd) : s.SetupKept (s.finishRun way) := by
  simp [State.SetupKept, State.finishRun, State.teardown, State.ply, PlyState.teardown]

theorem State.finishRun_links (s : State) (way : RunEnd) : (s.finishRun way).links = s.links := by
  simp [State.finishRun, State.teardown]

theorem State.finishRun_cursor (s : State) (way : RunEnd) : (s.finishRun way).cursor = s.cursor := by
  simp [State.finishRun, State.teardown]

theorem State.finishRun_makeups (s : State) (way : RunEnd) : (s.finishRun way).makeups = s.makeups := by
  simp [State.finishRun, State.teardown]

theorem State.finishRun_runState (s : State) (way : RunEnd) : (s.finishRun way).runState = .idle := by
  simp [State.finishRun, State.teardown]

theorem State.finishRun_lastMarriage (s : State) (way : RunEnd) :
    (s.finishRun way).lastMarriage = s.lastMarriage := by
  simp [State.finishRun, State.teardown]

/-- R157: a run that ends leaves the part torn down. -/
theorem State.finishRun_tornDown (s : State) (way : RunEnd) : s.TornDown (s.finishRun way) := by
  simp [State.TornDown, State.finishRun, State.teardown, State.ply, PlyState.teardown,
    PositionUnit.initial, HeadController.initial]

/-- R157: the notices of a run that ends: RUN-END and the RUN-STATE of IDLE. -/
theorem State.finishRun_notices {s : State} (h : s.notices.length + 2 ≤ 48) (way : RunEnd) :
    (s.finishRun way).notices = s.notices
      ++ [⟨.runEnd way s.tallies s.cursor s.batch s.makeups.length, .owner⟩,
        ⟨.runState .idle HoldCauses.empty none, .owner⟩] := by
  have hend : (s.notify (.runEnd way s.tallies s.cursor s.batch s.makeups.length)).teardown.notices
      = s.notices ++ [⟨.runEnd way s.tallies s.cursor s.batch s.makeups.length, .owner⟩] :=
    State.notify_notices (by omega) _
  rw [State.finishRun, State.notifyRunState, State.notify_notices, hend, List.append_assoc]
  · rfl
  · rw [hend, List.length_append, List.length_singleton]
    omega

/-- What the two tests of R121 leave: the run over, or the state as it was. -/
theorem State.testEnd_cases (s : State) :
    (s.complete = true ∧ s.testEnd = s.finishRun .complete)
    ∨ (s.complete = false ∧ s.drained = true ∧ s.testEnd = s.finishRun .drained)
    ∨ (s.complete = false ∧ s.drained = false ∧ s.testEnd = s) := by
  unfold State.testEnd
  cases s.complete <;> cases s.drained <;> simp

theorem State.complete_iff (s : State) : s.complete = true ↔
    s.runState = .running ∧ s.cursor.map (·.state) = some .chainEnd ∧ s.batch = false
      ∧ ∀ slot ∈ s.slots, slot.isBound = false := by
  simp [State.complete, and_assoc]

theorem State.drained_iff (s : State) : s.drained = true ↔
    s.runState = .draining ∧ ∀ slot ∈ s.slots, slot.isNumbered = false := by
  simp [State.drained]

/-! ### RELEASE (R151, R153) -/

/-- R151: the run RUNNING again, its last cause gone, before the completion test. -/
def State.running (s : State) : State :=
  { s with causes := HoldCauses.empty, runState := .running }.notifyRunState

theorem State.resume_eq (s : State) : s.resume = s.running.testEnd := rfl

theorem State.running_only (s : State) : s.running = { s with
    causes := HoldCauses.empty, runState := .running
    notices := s.running.notices, withheld := s.running.withheld } :=
  State.notify_only ..

theorem State.running_complete_iff (s : State) : s.running.complete = true ↔
    s.cursor.map (·.state) = some .chainEnd ∧ s.batch = false ∧ ∀ slot ∈ s.slots, slot.isBound = false := by
  rw [State.complete_iff, State.running_only]
  simp

/-- The run resumed is over where the completion test finds it so, and RUNNING otherwise. -/
theorem State.resume_cases (s : State) :
    (s.running.complete = true ∧ s.resume = s.running.finishRun .complete)
    ∨ (s.running.complete = false ∧ s.resume = s.running) := by
  have hdrained : s.running.drained = false := by
    rw [State.drained, State.running_only]; rfl
  rw [State.resume_eq]
  obtain h | ⟨-, h, -⟩ | ⟨h, -, he⟩ := s.running.testEnd_cases
  · exact .inl h
  · rw [hdrained] at h; exact absurd h (by decide)
  · exact .inr ⟨h, he⟩

theorem State.SetupKept.running (s : State) : s.SetupKept s.running := by
  rw [State.running_only]; exact .refl s

theorem State.SetupKept.resume (s : State) : s.SetupKept s.resume := by
  obtain ⟨-, he⟩ | ⟨-, he⟩ := s.resume_cases
  · rw [he]; exact (State.SetupKept.running s).trans (.finishRun ..)
  · rw [he]; exact .running s

/-- What RELEASE leaves alone where it resumes the run. -/
theorem State.resume_kept (s : State) : s.resume.makeups = s.makeups ∧ s.resume.links = s.links
    ∧ s.resume.cursor = s.cursor ∧ s.resume.causes = HoldCauses.empty := by
  obtain ⟨-, he⟩ | ⟨-, he⟩ := s.resume_cases
  · have hcauses := (s.running.finishRun_tornDown .complete).2.1
    rw [he, hcauses, State.finishRun_makeups, State.finishRun_links, State.finishRun_cursor,
      State.running_only]
    exact ⟨rfl, rfl, rfl, rfl⟩
  · rw [he, State.running_only]
    exact ⟨rfl, rfl, rfl, rfl⟩

theorem State.resume_runState (s : State) : (s.resume.runState = .running ∨ s.resume.runState = .idle)
    ∧ (s.resume.runState = .idle ↔ s.cursor.map (·.state) = some .chainEnd ∧ s.batch = false
      ∧ ∀ slot ∈ s.slots, slot.isBound = false) := by
  rw [← State.running_complete_iff]
  obtain ⟨hc, he⟩ | ⟨hc, he⟩ := s.resume_cases
  · rw [he, State.finishRun_runState, hc]
    simp
  · rw [he, hc, State.running_only]
    simp

theorem State.faultPending_iff (s : State) : s.faultPending = true ↔
    ∃ p, s.active p = true ∧ (s.ply p).head.inhibit = true := by
  have plies : ∀ q : Ply, q ∈ plyOrder := by intro q; cases q <;> decide
  simp [State.faultPending, State.activePlies, plies]

/-- R153's second test. -/
theorem State.listHigh_iff (s : State) :
    (decide (Config.makeupHigh ≤ s.makeups.length) && !s.batch) = true
      ↔ 128 ≤ s.makeups.length ∧ s.batch = false := by
  have h : Config.makeupHigh = 128 := rfl
  simp [h]

section Release

variable {s : State} (hheld : s.runState = .held)
include hheld

theorem State.requestRelease_of_fault
    (hp : ∃ p, s.active p = true ∧ (s.ply p).head.inhibit = true) :
    s.requestRelease = refuse .faultPending s := by
  rw [State.requestRelease, if_neg (not_not_intro hheld), if_pos (s.faultPending_iff.mpr hp)]

variable (hp : ¬ ∃ p, s.active p = true ∧ (s.ply p).head.inhibit = true)
include hp

theorem State.requestRelease_of_high (hh : 128 ≤ s.makeups.length ∧ s.batch = false) :
    s.requestRelease = refuse .listHigh s := by
  rw [State.requestRelease, if_neg (not_not_intro hheld), if_neg (mt s.faultPending_iff.mp hp),
    if_pos (s.listHigh_iff.mpr hh)]

variable (hh : ¬ (128 ≤ s.makeups.length ∧ s.batch = false))
include hh

theorem State.requestRelease_of_resumes (hc : ∀ c, s.cursor = some c → c.state ≠ .exhausted) :
    s.requestRelease = done [] s.resume := by
  rw [State.requestRelease, if_neg (not_not_intro hheld), if_neg (mt s.faultPending_iff.mp hp),
    if_neg (mt s.listHigh_iff.mp hh)]
  cases hcur : s.cursor with
  | none => rfl
  | some c => exact if_neg (hc c hcur)

theorem State.requestRelease_of_exhausted {c : Cursor} (hcur : s.cursor = some c)
    (hc : c.state = .exhausted) : s.requestRelease = s.renormalise c := by
  rw [State.requestRelease, if_neg (not_not_intro hheld), if_neg (mt s.faultPending_iff.mp hp),
    if_neg (mt s.listHigh_iff.mp hh), hcur]
  exact if_pos hc

end Release

end Sys2Proof.Machine

namespace Sys2Proof.Proofs

open Sys2Proof.Machine

/-- Settles O46: the three tests of R153 in order; the run resumed keeps the setup, and is over or
RUNNING. -/
theorem releaseTestsAndResumes : Obligations.ReleaseTestsAndResumes := by
  unfold Obligations.ReleaseTestsAndResumes
  intro l tag s hadmits refused pending high resumes
  have hexec : ∀ {a : Answer} {t : State}, s.requestRelease = (a, t) →
      exec (.release l tag []) s = .next (t.replied l tag .release a) := fun h =>
    exec_of_handle (r := .release) hadmits rfl tag h
  -- a state that differs from this one in cursor and skips alone, resumed
  have hresumes : ∀ u : State, s.SetupKept u → u.batch = s.batch → u.slots = s.slots →
      u.makeups = s.makeups → u.links = s.links →
      resumes (u.resume.replied l tag .release (.done []))
        ∧ (u.resume.replied l tag .release (.done [])).cursor = u.cursor := by
    intro u hsetup hbatch hslots hmakeups hlinks
    obtain ⟨hm, hl, hcur, hcauses⟩ := u.resume_kept
    obtain ⟨hrun, hidle⟩ := u.resume_runState
    rw [← hcur, hbatch, hslots] at hidle
    exact ⟨⟨hcauses, hrun, hidle, hm.trans hmakeups, State.replied_links (hl.trans hlinks) ..,
      (hsetup.trans (.resume u)).replied ..⟩, hcur⟩
  refine ⟨fun hnot => ?_, fun hheld hp => ?_, fun hheld hp hh => ?_, fun hheld hp hh hc => ?_,
    fun hheld hp hh c hcur hc => ⟨fun v k hfound => ?_, fun r k hex => ?_⟩⟩
  · exact hexec (if_pos hnot)
  · exact hexec (State.requestRelease_of_fault hheld hp)
  · exact hexec (State.requestRelease_of_high hheld hp hh)
  · exact ⟨_, hexec (State.requestRelease_of_resumes hheld hp hh hc), hresumes s (.refl s) rfl rfl rfl rfl⟩
  · have hdone : s.requestRelease = done []
        ({ s.countSkips k with cursor := some { c with state := .active, next := v } } : State).resume := by
      rw [State.requestRelease_of_exhausted hheld hp hh hcur hc, State.renormalise, hfound]
    exact ⟨_, hexec hdone, hresumes _ (.refl s) rfl rfl rfl rfl⟩
  · refine hexec ?_
    rw [State.requestRelease_of_exhausted hheld hp hh hcur hc, State.renormalise, hex]
    rfl

end Sys2Proof.Proofs


/-! ## CONTINUE, END-RUN, RUN-MAKEUPS, CLEAR-FAULT and WITHDRAW-SET -/

namespace Sys2Proof.Machine

/-! ### The chain step (R146, R147) -/

theorem State.chainDecision_of_end {s : State} {c : Cursor} {g : Segment}
    (h : g.next = none ∨ c.pass = 65535) : s.chainDecision c g = .chainEnd := by
  unfold State.chainDecision
  split
  · rfl
  · exact if_pos (h.resolve_left (by simp [*]))

section ChainStep

variable {s : State} {c : Cursor} {g : Segment} {i : Nat} (hnext : g.next = some i)
  (hpass : c.pass ≠ 65535)
include hnext hpass

theorem State.chainDecision_of_empty (hseg : s.segment i = none) :
    s.chainDecision c g = .blocked i .segmentEmpty := by
  have hmax : ¬ c.pass = Config.maxPass := hpass
  simp [State.chainDecision, hnext, hmax, hseg]

theorem State.chainDecision_of_unfit {g' : Segment} {lay : Layout} (hseg : s.segment i = some g')
    (hlay : s.layout g'.layout = some lay) (hfits : s.layoutFits lay = false) :
    s.chainDecision c g = .blocked i .layoutUnfit := by
  have hmax : ¬ c.pass = Config.maxPass := hpass
  simp [State.chainDecision, hnext, hmax, hseg, hlay, hfits]

theorem State.chainDecision_of_fits {g' : Segment} (hseg : s.segment i = some g')
    (hfits : ∀ lay, s.layout g'.layout = some lay → s.layoutFits lay = true) :
    s.chainDecision c g = .enter i g' := by
  have hmax : ¬ c.pass = Config.maxPass := hpass
  cases hlay : s.layout g'.layout with
  | none => simp [State.chainDecision, hnext, hmax, hseg, hlay]
  | some lay => simp [State.chainDecision, hnext, hmax, hseg, hlay, hfits lay hlay]

end ChainStep

theorem State.requestContinue_of_paused {s : State} {c : Cursor} {g : Segment} (hi : s.issuing = true)
    (hcur : s.cursor = some c) (hc : c.state = .paused) (hseg : s.segment c.segment = some g) :
    s.requestContinue = s.continueChain c g := by
  simp [State.requestContinue, hi, hcur, hc, hseg]

theorem State.requestContinue_of_not {s : State}
    (h : s.issuing = false ∨ ∀ c, s.cursor = some c → c.state ≠ .paused) :
    s.requestContinue = refuse .wrongState s := by
  unfold State.requestContinue
  split
  · rename_i c hi hcur
    exact if_neg ((h.resolve_left (by simp [hi])) c hcur)
  · rfl

/-! ### A cursor EXHAUSTED (R40, R41) -/

theorem State.reportExhausted_only (s : State) (r : Nat) : s.reportExhausted r = { s with
    runState := (s.reportExhausted r).runState, causes := (s.reportExhausted r).causes
    notices := (s.reportExhausted r).notices, withheld := (s.reportExhausted r).withheld } := by
  rw [State.reportExhausted, State.notify_only, State.giveCause_only]

theorem State.reportExhausted_of_issuing {s : State} (h : s.issuing = true) (r : Nat) :
    (s.reportExhausted r).runState = .held
    ∧ (s.reportExhausted r).causes = { s.causes with sequence := true } := by
  rw [State.reportExhausted, State.notify_runState, State.notify_causes,
    State.giveCause_runState_of_issuing h, State.giveCause_causes_of_issuing h]
  exact ⟨rfl, rfl⟩

/-- R41: RUN-STATE where the cause SEQUENCE is new or the run was RUNNING, then EXHAUSTED. -/
theorem State.reportExhausted_notices {s : State}
    (h : s.notices.length + (s.causeNotices .sequence).length < 48) (r : Nat) :
    (s.reportExhausted r).notices = s.notices ++ s.causeNotices .sequence ++ [⟨.exhausted r, .owner⟩] := by
  have hcause := State.giveCause_notices (s := s) (c := .sequence) (by omega)
  rw [State.reportExhausted, State.notify_notices, hcause]
  rwa [hcause, List.length_append]

/-- What a normalisation that ends EXHAUSTED makes of the state. -/
theorem State.settleCursor_exhausted (s : State) (c : Cursor) (r k : Nat) :
    s.settleCursor c (.exhausted r k) = State.reportExhausted
      { s.countSkips k with cursor := some { c with state := .exhausted, next := r } } r := rfl

/-! ### DRAINING (R155, R156) -/

/-- R155, R156: the run DRAINING with a drain kind, before the end-of-draining test. -/
def State.draining (s : State) (k : DrainKind) : State :=
  { s with causes := HoldCauses.empty, drain := some k, runState := .draining }.notifyRunState

theorem State.enterDraining_eq (s : State) (k : DrainKind) :
    s.enterDraining k = (s.draining k).testEnd := rfl

theorem State.draining_only (s : State) (k : DrainKind) : s.draining k = { s with
    causes := HoldCauses.empty, drain := some k, runState := .draining
    notices := (s.draining k).notices, withheld := (s.draining k).withheld } :=
  State.notify_only ..

theorem State.draining_drained_iff (s : State) (k : DrainKind) :
    (s.draining k).drained = true ↔ ∀ slot ∈ s.slots, slot.isNumbered = false := by
  rw [State.drained_iff, State.draining_only]
  simp

theorem State.enterDraining_cases (s : State) (k : DrainKind) :
    ((∀ slot ∈ s.slots, slot.isNumbered = false) ∧ s.enterDraining k = (s.draining k).finishRun .drained)
    ∨ ((∃ slot ∈ s.slots, slot.isNumbered = true) ∧ s.enterDraining k = s.draining k) := by
  have hcomplete : (s.draining k).complete = false := by
    rw [State.complete, State.draining_only]; rfl
  rw [State.enterDraining_eq]
  obtain ⟨h, -⟩ | ⟨-, h, he⟩ | ⟨-, h, he⟩ := (s.draining k).testEnd_cases
  · rw [hcomplete] at h; exact absurd h (by decide)
  · exact .inl ⟨(s.draining_drained_iff k).mp h, he⟩
  · rw [← Bool.not_eq_true, State.draining_drained_iff] at h
    exact .inr ⟨by simpa using h, he⟩

theorem State.SetupKept.draining (s : State) (k : DrainKind) : s.SetupKept (s.draining k) := by
  rw [State.draining_only]; exact .refl s

theorem State.SetupKept.enterDraining (s : State) (k : DrainKind) : s.SetupKept (s.enterDraining k) := by
  obtain ⟨-, he⟩ | ⟨-, he⟩ := s.enterDraining_cases k
  · rw [he]; exact (State.SetupKept.draining s k).trans (.finishRun ..)
  · rw [he]; exact .draining s k

/-- What the entry into DRAINING keeps, whether or not the run is then over. -/
theorem State.enterDraining_kept (s : State) (k : DrainKind) :
    (s.enterDraining k).cursor = s.cursor ∧ (s.enterDraining k).causes = HoldCauses.empty
    ∧ (s.enterDraining k).makeups = s.makeups ∧ (s.enterDraining k).tallies = s.tallies
    ∧ (s.enterDraining k).links = s.links := by
  obtain ⟨-, he⟩ | ⟨-, he⟩ := s.enterDraining_cases k
  · have hcauses := ((s.draining k).finishRun_tornDown .drained).2.1
    rw [he, hcauses, State.finishRun_cursor, State.finishRun_makeups, State.finishRun_tallies,
      State.finishRun_links, State.draining_only]
    exact ⟨rfl, rfl, rfl, rfl, rfl⟩
  · rw [he, State.draining_only]
    exact ⟨rfl, rfl, rfl, rfl, rfl⟩

/-! ### RUN-MAKEUPS (R154) -/

theorem State.removeMakeupsCause_of_not {s : State} (h : s.causes.makeups = false) :
    s.removeMakeupsCause = s := by
  rw [State.removeMakeupsCause, if_neg (by simp [h])]

/-- With the batch flag set the completion test does not find the run complete. -/
theorem State.resume_of_batch {s : State} (h : s.batch = true) : s.resume = s.running := by
  obtain ⟨hc, -⟩ | ⟨-, he⟩ := s.resume_cases
  · rw [State.running_complete_iff, h] at hc
    exact absurd hc.2.1 (by decide)
  · exact he

theorem State.requestMakeups_of_issuing {s : State} (hi : s.issuing = true) (hm : s.makeups ≠ []) :
    s.requestMakeups = done
      (yesNo ({ s with batch := true } : State).removeMakeupsCause.batch
        ++ be 1 ({ s with batch := true } : State).removeMakeupsCause.causes.byte)
      ({ s with batch := true } : State).removeMakeupsCause := by
  rw [State.requestMakeups, if_pos (by simp [hi, hm])]

theorem State.requestMakeups_of_not {s : State} (h : s.issuing = false ∨ s.makeups = []) :
    s.requestMakeups = refuse .wrongState s := by
  refine if_neg ?_
  obtain h | h := h <;> simp [h]

/-! ### WITHDRAW-SET (R139) -/

theorem decodeWithdraw_bytes {v g : Nat} (hv : v ≤ 16777215) (hg : g ≤ 255) :
    decodeWithdraw (be 3 v ++ be 1 g) =
      (inRange 0 1048575 v).bind fun v => (inRange 0 31 g).map fun g => (v, g) := by
  simp (disch := omega) [decodeWithdraw, field_be_append, field_be_append_of_le, field_be,
    Option.map_eq_bind]

theorem decodeWithdraw_of_mem {v g : Nat} (hv : v ≤ 1048575) (hg : g ≤ 31) :
    decodeWithdraw (be 3 v ++ be 1 g) = some (v, g) := by
  rw [decodeWithdraw_bytes (by omega) (by omega), inRange_of_mem (by omega), inRange_of_mem (by omega)]
  rfl

theorem decodeWithdraw_of_not_mem {v g : Nat} (hv : v ≤ 16777215) (hg : g ≤ 255)
    (h : ¬ (v ≤ 1048575 ∧ g ≤ 31)) : decodeWithdraw (be 3 v ++ be 1 g) = none := by
  rw [decodeWithdraw_bytes hv hg]
  by_cases hv' : v ≤ 1048575
  · rw [inRange_of_not (n := g) (by omega)]
    cases inRange 0 1048575 v <;> rfl
  · rw [inRange_of_not (by omega)]
    rfl

theorem State.withdrawable_iff (s : State) (v g : Nat) : s.withdrawable v g = true ↔
    ∃ lay, s.segmentLayout g = some lay ∧ issuable s.blocks lay v = true := by
  unfold State.withdrawable
  cases s.segmentLayout g <;> simp

/-- R139: the value of an unlisted set joins, and Withdrawn is raised by one. -/
theorem State.withdraw_spec {s : State} {v g : Nat} (hl : s.listed v = false)
    (hm : s.makeups.length < 128) (hw : s.tallies.withdrawn < 4294967295) :
    (s.withdraw v g).makeups = insertEntry ⟨v, g, (s.cursor.map (·.pass)).getD 1, none⟩ s.makeups
    ∧ (s.withdraw v g).tallies = { s.tallies with withdrawn := s.tallies.withdrawn + 1 }
    ∧ (s.withdraw v g).batch = (s.batch || (decide (s.endMakeups = some .auto)
      && decide (s.cursor.map (·.state) = some .chainEnd)))
    ∧ (s.withdraw v g).slots = s.slots ∧ (s.withdraw v g).cursor = s.cursor
    ∧ (s.withdraw v g).plies = s.plies ∧ (s.withdraw v g).links = s.links
    ∧ s.SetupKept (s.withdraw v g) := by
  have hj := s.joinMakeup_joined ⟨v, g, (s.cursor.map (·.pass)).getD 1, none⟩
  have hsetup := (PressAct.joinMakeup s ⟨v, g, (s.cursor.map (·.pass)).getD 1, none⟩).setup
  have hlinks := (PressAct.joinMakeup s ⟨v, g, (s.cursor.map (·.pass)).getD 1, none⟩).links
  have hmakeups : (s.joinMakeup ⟨v, g, (s.cursor.map (·.pass)).getD 1, none⟩).2.makeups
      = insertEntry ⟨v, g, (s.cursor.map (·.pass)).getD 1, none⟩ s.makeups := by
    rw [State.joinMakeup_of_room hl (by omega)]
    simp
  have hbatch := hj.batch
  rw [hmakeups, insertEntry_length, decide_eq_true (Nat.lt_succ_self _), Bool.true_and] at hbatch
  have hraise : raiseTally 5 s.tallies.withdrawn = s.tallies.withdrawn + 1 := if_pos hw
  unfold State.withdraw
  refine ⟨hmakeups, ?_, hbatch, hj.slots, hj.cursor, hj.plies, hlinks, hsetup⟩
  simp only [hj.tallies, hraise]

end Sys2Proof.Machine

namespace Sys2Proof.Proofs

open Sys2Proof.Machine

/-- Settles O47: the run and the cursor decide whether the chain step is taken; what stands beyond the
segment decides what it does. -/
theorem continueTakesTheChainStep : Obligations.ContinueTakesTheChainStep := by
  unfold Obligations.ContinueTakesTheChainStep
  intro l tag s hadmits refused
  have hexec : ∀ {a : Answer} {t : State}, s.requestContinue = (a, t) →
      exec (.continueRun l tag []) s = .next (t.replied l tag .continueRun a) := fun h =>
    exec_of_handle (r := .continueRun) hadmits rfl tag h
  refine ⟨fun hnot => hexec (State.requestContinue_of_not ?_), fun c g hrun hcur hc hseg => ?_⟩
  · obtain h | h | h := hnot
    · exact .inl (by simp [State.issuing, h])
    · exact .inl (by simp [State.issuing, h])
    · exact .inr h
  have hissuing := s.issuing_iff.mpr hrun
  have hrequest := State.requestContinue_of_paused hissuing hcur hc hseg
  refine ⟨fun hend => hexec ?_, fun i hnext hpass hempty => hexec ?_,
    fun i g' lay v k hnext hpass hseg' hlay hfits hnorm => hexec ?_,
    fun i g' lay hnext hpass hseg' hlay hfits => hexec ?_,
    fun i g' r k hnext hpass hseg' hfits hnorm => ?_⟩
  · rw [hrequest, State.continueChain, State.chainDecision_of_end hend]
    rfl
  · rw [hrequest, State.continueChain, State.chainDecision_of_empty hnext hpass hempty]
    rfl
  · have henter := State.chainDecision_of_fits (s := s) hnext hpass hseg' (fun lay' h => by
      rw [hlay] at h; cases h; exact hfits)
    have hcand : normalise s.blocks (s.layout g'.layout) (g'.candidate c.next) = .found v k := by
      rw [hlay]; exact hnorm
    rw [hrequest, State.continueChain, henter]
    simp only [State.enterSegment, hcand]
    rfl
  · rw [hrequest, State.continueChain, State.chainDecision_of_unfit hnext hpass hseg' hlay hfits]
    rfl
  · have henter := State.chainDecision_of_fits (s := s) hnext hpass hseg' hfits
    have hcand : normalise s.blocks (s.layout g'.layout) (g'.candidate c.next) = .exhausted r k := hnorm
    let u : State := { s.countSkips k with cursor := some ⟨.exhausted, i, c.pass + 1, r, 0⟩ }
    have hu : s.enterSegment c i g' (c.pass + 1) = u.reportExhausted r := by
      rw [State.enterSegment, hcand, State.settleCursor_exhausted]
    have honly := u.reportExhausted_only r
    have hdone : s.requestContinue = (.done [4], u.reportExhausted r) := by
      have hcode : be 1 (cursorCode (u.reportExhausted r).cursor) = [4] := by rw [honly]; rfl
      rw [hrequest, State.continueChain, henter]
      simp only [hu, done, hcode]
    have hrunU : u.issuing = true := hissuing
    obtain ⟨hheld, hcauses⟩ := State.reportExhausted_of_issuing hrunU r
    refine ⟨_, hexec hdone, ?_, hheld, hcauses, ?_, fun hroom hr hs => ?_, fun hroom hnew => ?_,
      State.replied_links ?_ .., State.SetupKept.replied ?_ .., ?_, ?_, ?_, ?_⟩
    · exact (congrArg State.cursor honly :)
    · exact (congrArg State.tallies honly :)
    · have hsilent : u.causeNotices .sequence = [] := if_neg (by
        simp [u, hr, hs, HoldCauses.has])
      have := State.reportExhausted_notices (s := u) (by rw [hsilent]; exact hroom) r
      rw [hsilent, List.append_nil] at this
      exact this
    · have hsent : u.causeNotices .sequence
          = [⟨.runState .held { s.causes with sequence := true } s.drain, .owner⟩] := if_pos (by
        obtain h | h := hnew
        · exact .inl h
        · exact hrun.imp id fun hr => ⟨hr, h⟩)
      have := State.reportExhausted_notices (s := u)
        (by rw [hsent]; exact Nat.add_lt_of_lt_sub hroom) r
      rw [hsent, List.append_assoc] at this
      exact this
    · exact (congrArg State.links honly :)
    · rw [honly]; exact .refl s
    · exact (congrArg State.slots honly :)
    · exact (congrArg State.makeups honly :)
    · exact (congrArg State.batch honly :)
    · exact (congrArg State.plies honly :)

/-- Settles O48: the run state decides whether END-RUN is taken, and the window whether the run is over. -/
theorem endRunDrains : Obligations.EndRunDrains := by
  unfold Obligations.EndRunDrains
  intro l tag s hadmits
  have hexec : ∀ {a : Answer} {t : State}, s.requestEnd = (a, t) →
      exec (.endRun l tag []) s = .next (t.replied l tag .endRun a) := fun h =>
    exec_of_handle (r := .endRun) hadmits rfl tag h
  refine ⟨fun hnot => hexec (if_neg ?_), fun hrun => ?_⟩
  · obtain h | h := hnot <;> simp [State.issuing, h]
  · obtain ⟨hcur, hcauses, hmakeups, htallies, hlinks⟩ := s.closeCursor.enterDraining_kept .ended
    refine ⟨_, hexec (if_pos (s.issuing_iff.mpr hrun)), hcur, hcauses, hmakeups, htallies,
      State.replied_links hlinks .., State.SetupKept.replied (.enterDraining s.closeCursor .ended) ..,
      fun ⟨slot, hslot, hnumbered⟩ => ?_, fun hnone => ?_⟩
    · obtain ⟨hnone, -⟩ | ⟨-, he⟩ := s.closeCursor.enterDraining_cases .ended
      · exact absurd hnumbered (by simp [hnone slot hslot])
      · have hleft := he.trans (s.closeCursor.draining_only .ended)
        exact ⟨(congrArg State.runState hleft :), (congrArg State.drain hleft :), (congrArg State.slots hleft :),
          (congrArg State.marriageSlot hleft :), (congrArg State.batch hleft :), (congrArg State.plies hleft :)⟩
    · obtain ⟨-, he⟩ | ⟨⟨slot, hslot, hnumbered⟩, -⟩ := s.closeCursor.enterDraining_cases .ended
      · obtain ⟨hidle, -, hdrain, hmarriage, hslots, -⟩ :=
          (s.closeCursor.draining .ended).finishRun_tornDown .drained
        rw [← he] at hidle hdrain hmarriage hslots
        exact ⟨hidle, hdrain, hslots, hmarriage⟩
      · exact absurd hnumbered (by simp [hnone slot hslot])

/-- Settles O50: the run state and the list decide whether RUN-MAKEUPS is taken; its cause removed may be
the last. -/
theorem runMakeupsStartsTheBatch : Obligations.RunMakeupsStartsTheBatch := by
  unfold Obligations.RunMakeupsStartsTheBatch
  intro l tag s hadmits rest batch reply
  have hexec : ∀ {a : Answer} {t : State}, s.requestMakeups = (a, t) →
      exec (.runMakeups l tag []) s = .next (t.replied l tag .runMakeups a) := fun h =>
    exec_of_handle (r := .runMakeups) hadmits rfl tag h
  refine ⟨fun hnot => hexec (State.requestMakeups_of_not ?_), fun hrun hm => ?_⟩
  · obtain h | h | h := hnot
    · exact .inl (by simp [State.issuing, h])
    · exact .inl (by simp [State.issuing, h])
    · exact .inr h
  have hrequest := State.requestMakeups_of_issuing (s.issuing_iff.mpr hrun) hm
  refine ⟨fun hno => hexec ?_, fun hcause hothers => hexec ?_, fun hcause hlast => hexec ?_⟩
  · rw [hrequest, State.removeMakeupsCause_of_not (s := { s with batch := true }) hno]
    rfl
  · have hremoved : batch.removeMakeupsCause
        = { batch with causes := rest }.notify (.runState s.runState rest s.drain) := by
      rw [State.removeMakeupsCause, if_pos hcause]
      exact if_neg hothers
    rw [hrequest, hremoved, State.notify_batch, State.notify_causes]
    rfl
  · have hremoved : batch.removeMakeupsCause = batch.running := by
      rw [State.removeMakeupsCause, if_pos hcause]
      exact (if_pos hlast).trans (State.resume_of_batch rfl)
    rw [hrequest, hremoved, State.running, State.notifyRunState_batch, State.notifyRunState_causes]
    rfl

/-- Settles O51: the ply is read from the payload; the run state decides of LOST. -/
theorem clearFaultClearsOnePly : Obligations.ClearFaultClearsOnePly := by
  unfold Obligations.ClearFaultClearsOnePly
  intro p l tag s hadmits
  have hexec : ∀ {pl : List Byte} {a : Answer} {t : State}, pl.length = 1 → s.clearFault pl = (a, t) →
      exec (.clearFault l tag pl) s = .next (t.replied l tag .clearFault a) := fun hlen h =>
    exec_of_handle (r := .clearFault) hadmits hlen tag h
  refine ⟨fun n hn => hexec (be_length ..) ?_, hexec (be_length ..) ?_⟩
  · rw [State.clearFault, decodePly_of_lt hn (by omega)]
    rfl
  · rw [State.clearFault, decodePly_of_ply]
    have hlost : ∀ ps : PlyState, (s.inRun && decide (ps.unit.registration = .lost)) = true
        ↔ s.runState ≠ .idle ∧ ps.unit.registration = .lost := fun ps => by simp [State.inRun]
    simp only [PlyState.clearFault, hlost]
    rfl

/-- Settles O52: the five tests of R139 in order. -/
theorem withdrawSetTestsAndLists : Obligations.WithdrawSetTestsAndLists := by
  unfold Obligations.WithdrawSetTestsAndLists
  intro v g l tag s hadmits hv hg refused good
  have hexec : ∀ {a : Answer} {t : State}, s.requestWithdraw (be 3 v ++ be 1 g) = (a, t) →
      exec (.withdrawSet l tag (be 3 v ++ be 1 g)) s = .next (t.replied l tag .withdrawSet a) := fun h =>
    exec_of_handle (r := .withdrawSet) hadmits (by simp [requestLength]) tag h
  have hread : good → s.requestWithdraw (be 3 v ++ be 1 g) =
      if s.tallies.good < s.tallies.withdrawn + 1 then refuse .wrongState s
      else if 128 ≤ s.makeups.length then refuse .listHigh s
      else if s.listed v then refuse .duplicate s
      else if s.inFlight v g then refuse .inFlight s
      else done [] (s.withdraw v g) := fun ⟨hv', hg', hlay⟩ => by
    rw [State.requestWithdraw, decodeWithdraw_of_mem hv' hg']
    simp only [(s.withdrawable_iff v g).mpr hlay, Bool.not_true, Bool.false_eq_true, if_false]
    rfl
  refine ⟨fun hbad => hexec ?_, fun hgood ht => hexec ?_, fun hgood ht => ⟨fun hh => hexec ?_,
    fun hh => ⟨fun hd => hexec ?_, fun hd => ⟨fun hf => hexec ?_, fun hf hw => ?_⟩⟩⟩⟩
  · by_cases hread : v ≤ 1048575 ∧ g ≤ 31
    · have hno : s.withdrawable v g = false := by
        rw [← Bool.not_eq_true, State.withdrawable_iff]
        exact fun h => hbad ⟨hread.1, hread.2, h⟩
      rw [State.requestWithdraw, decodeWithdraw_of_mem hread.1 hread.2]
      simp only [hno, Bool.not_false, if_true]
      rfl
    · rw [State.requestWithdraw, decodeWithdraw_of_not_mem hv hg hread]
      rfl
  · rw [hread hgood, if_pos ht]
    rfl
  · rw [hread hgood, if_neg (by omega), if_pos hh]
    rfl
  · rw [hread hgood, if_neg (by omega), if_neg (by omega), if_pos hd]
    rfl
  · rw [hread hgood, if_neg (by omega), if_neg (by omega), if_neg (by simp [hd]), if_pos hf]
    rfl
  · have hdone : s.requestWithdraw (be 3 v ++ be 1 g) = (.done [], s.withdraw v g) := by
      rw [hread hgood, if_neg (by omega), if_neg (by omega), if_neg (by simp [hd]), if_neg (by simp [hf])]
      rfl
    obtain ⟨hmakeups, htallies, hbatch, hslots, hcur, hplies, hlinks, hsetup⟩ :=
      State.withdraw_spec (g := g) hd hh hw
    exact ⟨_, hexec hdone, hmakeups, htallies, hbatch, hslots, hcur, hplies,
      State.replied_links hlinks .., hsetup.replied ..⟩

end Sys2Proof.Proofs


/-! ## The receiver (R164, R165) -/

namespace Sys2Proof.Machine

/-! ### Bytes taken one after another, without fuel -/

/-- R165: one byte examined, with those that follow it: what is then left to examine, and the state. -/
def State.rxStep (l : Link) (b : Byte) (rest : List Byte) (s : State) : List Byte × State :=
  match (s.link l).rx with
  | none => if b = 0x5A then (rest, s.setRx l (some [])) else (rest, s)
  | some buf =>
    match rxStatus (buf ++ [b]) with
    | .incomplete => (rest, s.setRx l (some (buf ++ [b])))
    | .tooLong => (buf ++ [b] ++ rest, (s.setRx l none).countLength l)
    | .badCrc => (buf ++ [b] ++ rest, (s.setRx l none).countCrc l)
    | .good kind tag pl => (rest, (s.setRx l none).takeFrame l kind tag pl)

/-- R165: a receiver takes bytes until none is left. -/
inductive Takes (l : Link) : List Byte → State → State → Prop
  | nil (s : State) : Takes l [] s s
  | step {b : Byte} {rest : List Byte} {s t : State}
      (h : Takes l (s.rxStep l b rest).1 (s.rxStep l b rest).2 t) : Takes l (b :: rest) s t

theorem State.receive_succ (fuel : Nat) (l : Link) (b : Byte) (rest : List Byte) (s : State) :
    State.receive (fuel + 1) l (b :: rest) s
      = State.receive fuel l (s.rxStep l b rest).1 (s.rxStep l b rest).2 := by
  cases hrx : (s.link l).rx with
  | none =>
    by_cases hb : b = 0x5A
    · simp only [State.receive, State.rxStep, hrx, hb, if_true]
    · simp only [State.receive, State.rxStep, hrx, hb, if_false]
  | some buf => cases hst : rxStatus (buf ++ [b]) <;> simp [State.receive, State.rxStep, hrx, hst]

theorem Takes.unique {l : Link} {bs : List Byte} {s t u : State} (h : Takes l bs s t)
    (k : Takes l bs s u) : t = u := by
  induction h with
  | nil s => cases k; rfl
  | step h ih =>
    cases k with
    | step k => exact ih k

/-- What follows the bytes taken stays to be taken. -/
theorem State.rxStep_append (l : Link) (b : Byte) (rest more : List Byte) (s : State) :
    s.rxStep l b (rest ++ more) = ((s.rxStep l b rest).1 ++ more, (s.rxStep l b rest).2) := by
  unfold State.rxStep
  split
  · split <;> rfl
  · split <;> simp

theorem Takes.append {l : Link} {bs more : List Byte} {s t u : State} (h : Takes l bs s t)
    (k : Takes l more t u) : Takes l (bs ++ more) s u := by
  induction h with
  | nil s => exact k
  | step h ih =>
    refine .step ?_
    rw [List.append_eq, State.rxStep_append]
    exact ih k

/-! ### The fuel is enough -/

/-- Fuel that suffices for `n` more bytes where the receiver is at `rx`: each discard leaves one byte
fewer to examine. -/
def rxCost (rx : Option (List Byte)) (n : Nat) : Nat :=
  (rx.map fun _ => n).getD 0
    + ((rx.map List.length).getD 0 + n) * ((rx.map List.length).getD 0 + n + 1)

theorem rxCost_none (n : Nat) : rxCost none n = n * (n + 1) := by simp [rxCost]

theorem rxCost_some (buf : List Byte) (n : Nat) :
    rxCost (some buf) n = n + (buf.length + n) * (buf.length + n + 1) := rfl

@[simp] theorem State.link_setRx (s : State) (l : Link) (rx : Option (List Byte)) :
    ((s.setRx l rx).link l).rx = rx := by cases l <;> rfl

@[simp] theorem State.rx_countLength (s : State) (l : Link) :
    ((s.countLength l).link l).rx = (s.link l).rx := by cases l <;> rfl

@[simp] theorem State.rx_countCrc (s : State) (l : Link) :
    ((s.countCrc l).link l).rx = (s.link l).rx := by cases l <;> rfl

@[simp] theorem State.rx_countGap (s : State) (l : Link) :
    ((s.countGap l).link l).rx = (s.link l).rx := by cases l <;> rfl

@[simp] theorem State.rx_overrun (s : State) (l : Link) :
    ((s.overrun l).link l).rx = (s.link l).rx := by cases l <;> rfl

@[simp] theorem State.rx_pushReply (s : State) (l : Link) (r : Reply) :
    ((s.pushReply l r).link l).rx = (s.link l).rx := by cases l <;> rfl

theorem State.rx_takeRequest (s : State) (r : Request) (l : Link) (tag : Byte) (pl : List Byte) :
    ((s.takeRequest r l tag pl).link l).rx = (s.link l).rx := by
  have hlinks : (s.answer r l pl).2.links = s.links := (Handled.answer r l pl s).links
  unfold State.takeRequest
  split
  · exact s.rx_overrun l
  · rw [State.rx_pushReply, State.link, hlinks, State.link]

/-- A frame taken leaves the receiver as it was. -/
theorem State.rx_takeFrame (s : State) (l : Link) (kind tag : Byte) (pl : List Byte) :
    ((s.takeFrame l kind tag pl).link l).rx = (s.link l).rx := by
  unfold State.takeFrame
  split
  · exact s.rx_takeRequest ..
  · split
    · exact s.rx_overrun l
    · exact s.rx_pushReply ..

/-- Each step leaves less to do. -/
theorem State.rxStep_cost (l : Link) (b : Byte) (rest : List Byte) (s : State) :
    rxCost ((s.rxStep l b rest).2.link l).rx (s.rxStep l b rest).1.length
      < rxCost (s.link l).rx (rest.length + 1) := by
  cases hrx : (s.link l).rx with
  | none =>
    by_cases hb : b = 0x5A
    · simp only [State.rxStep, hrx, hb, if_true, State.link_setRx, rxCost_none, rxCost_some,
        List.length_nil]
      nlinarith
    · simp only [State.rxStep, hrx, hb, if_false, rxCost_none]
      nlinarith
  | some buf =>
    cases hst : rxStatus (buf ++ [b]) with
    | incomplete =>
      simp only [State.rxStep, hrx, hst, State.link_setRx, rxCost_some, List.length_append,
        List.length_singleton]
      rw [show buf.length + 1 + rest.length = buf.length + (rest.length + 1) by omega]
      omega
    | tooLong =>
      simp only [State.rxStep, hrx, hst, State.rx_countLength, State.link_setRx, rxCost_none, rxCost_some,
        List.length_append, List.length_singleton]
      rw [show buf.length + 1 + rest.length = buf.length + (rest.length + 1) by omega]
      omega
    | badCrc =>
      simp only [State.rxStep, hrx, hst, State.rx_countCrc, State.link_setRx, rxCost_none, rxCost_some,
        List.length_append, List.length_singleton]
      rw [show buf.length + 1 + rest.length = buf.length + (rest.length + 1) by omega]
      omega
    | good kind tag pl =>
      simp only [State.rxStep, hrx, hst, State.rx_takeFrame, State.link_setRx, rxCost_none, rxCost_some]
      have hle : rest.length ≤ buf.length + (rest.length + 1) := by omega
      have := Nat.mul_le_mul hle (Nat.add_le_add_right hle 1)
      omega

/-- With fuel enough, a receiver takes every byte. -/
theorem State.receive_takes (fuel : Nat) (l : Link) (bs : List Byte) (s : State)
    (h : rxCost (s.link l).rx bs.length ≤ fuel) : Takes l bs s (State.receive fuel l bs s) := by
  induction fuel generalizing bs s with
  | zero =>
    cases bs with
    | nil => exact .nil s
    | cons b rest => exact absurd ((s.rxStep_cost l b rest).trans_le h) (Nat.not_lt_zero _)
  | succ fuel ih =>
    cases bs with
    | nil => exact .nil s
    | cons b rest =>
      rw [State.receive_succ]
      exact .step (ih _ _ (Nat.le_of_lt_succ ((s.rxStep_cost l b rest).trans_le h)))

/-- A character that arrives is taken. -/
theorem State.receiveByte_takes (s : State) (l : Link) (b : Byte) : Takes l [b] s (s.receiveByte l b) := by
  refine State.receive_takes _ l [b] s ?_
  rw [State.rxFuel]
  cases (s.link l).rx with
  | none => simp [rxCost_none]
  | some buf =>
    simp only [rxCost_some, Option.map_some, Option.getD_some, List.length_singleton]
    nlinarith

theorem State.receiveByte_eq {s t : State} {l : Link} {b : Byte} (h : Takes l [b] s t) :
    s.receiveByte l b = t := (s.receiveByte_takes l b).unique h

/-- Bytes that arrive one after another are taken one after another. -/
theorem Takes.foldl (l : Link) (bs : List Byte) (s : State) :
    Takes l bs s (bs.foldl (fun u b => u.receiveByte l b) s) := by
  induction bs generalizing s with
  | nil => exact .nil s
  | cons b bs ih => exact (s.receiveByte_takes l b).append (ih _)

/-- The bytes of a gap's discard are taken. -/
theorem State.gapExpires_takes {s : State} {l : Link} {buf : List Byte} (h : (s.link l).rx = some buf) :
    Takes l buf ((s.setRx l none).countGap l) (s.gapExpires l) := by
  rw [State.gapExpires, h]
  refine State.receive_takes _ l buf _ ?_
  simp only [State.rx_countGap, State.link_setRx, rxCost_none, State.rxFuel, h, Option.map_some,
    Option.getD_some]
  nlinarith

/-! ### Hunting, collecting and discarding -/

/-- A hunting receiver passes over every byte but SYNC. -/
theorem Takes.hunt {l : Link} {s : State} (h : (s.link l).rx = none) {bs : List Byte}
    (hbs : (0x5A : Byte) ∉ bs) : Takes l bs s s := by
  induction bs with
  | nil => exact .nil s
  | cons b bs ih =>
    rw [List.mem_cons, not_or] at hbs
    obtain ⟨hb, hrest⟩ := hbs
    refine .step ?_
    rw [show s.rxStep l b bs = (bs, s) by simp only [State.rxStep, h, Ne.symm hb, if_false]]
    exact ih hrest

theorem Takes.sync {l : Link} {s t : State} {rest : List Byte} (h : (s.link l).rx = none)
    (k : Takes l rest (s.setRx l (some [])) t) : Takes l (0x5A :: rest) s t := by
  refine .step ?_
  rw [show s.rxStep l 0x5A rest = (rest, s.setRx l (some [])) by simp [State.rxStep, h]]
  exact k

section Receiving

variable {l : Link} {s t : State} {b : Byte} {buf rest : List Byte} (h : (s.link l).rx = some buf)
include h

theorem Takes.collect (hst : rxStatus (buf ++ [b]) = .incomplete)
    (k : Takes l rest (s.setRx l (some (buf ++ [b]))) t) : Takes l (b :: rest) s t := by
  refine .step ?_
  rw [show s.rxStep l b rest = (rest, s.setRx l (some (buf ++ [b]))) by simp [State.rxStep, h, hst]]
  exact k

theorem Takes.tooLong (hst : rxStatus (buf ++ [b]) = .tooLong)
    (k : Takes l (buf ++ [b] ++ rest) ((s.setRx l none).countLength l) t) : Takes l (b :: rest) s t := by
  refine .step ?_
  rw [show s.rxStep l b rest = (buf ++ [b] ++ rest, (s.setRx l none).countLength l) by
    simp [State.rxStep, h, hst]]
  exact k

theorem Takes.badCrc (hst : rxStatus (buf ++ [b]) = .badCrc)
    (k : Takes l (buf ++ [b] ++ rest) ((s.setRx l none).countCrc l) t) : Takes l (b :: rest) s t := by
  refine .step ?_
  rw [show s.rxStep l b rest = (buf ++ [b] ++ rest, (s.setRx l none).countCrc l) by
    simp [State.rxStep, h, hst]]
  exact k

theorem Takes.good {kind tag : Byte} {pl : List Byte} (hst : rxStatus (buf ++ [b]) = .good kind tag pl)
    (k : Takes l rest ((s.setRx l none).takeFrame l kind tag pl) t) : Takes l (b :: rest) s t := by
  refine .step ?_
  rw [show s.rxStep l b rest = (rest, (s.setRx l none).takeFrame l kind tag pl) by
    simp [State.rxStep, h, hst]]
  exact k

/-- A byte that makes the status given discards the frame as its event does. -/
theorem State.discardsAt_of_status {st : RxStatus} (hst : rxStatus (buf ++ [b]) = st) :
    s.discardsAt l b st = true := by
  rw [State.discardsAt, h]
  exact decide_eq_true hst

end Receiving

/-! ### The bytes of a frame -/

/-- No proper beginning of what follows a frame's SYNC is complete. -/
theorem rxStatus_of_prefix {kind tag : Byte} {pl buf more : List Byte} (h : pl.length ≤ 240)
    (hsplit : (frame kind tag pl).tail = buf ++ more) (hmore : more ≠ []) :
    rxStatus buf = .incomplete := by
  cases buf with
  | nil => rfl
  | cons len rest =>
    have hlength : (frame kind tag pl).tail.length = pl.length + 5 := by
      rw [List.length_tail, frame_length]; omega
    obtain ⟨hlen, -⟩ := List.cons_eq_cons.mp hsplit
    rw [hsplit, List.length_append, List.length_cons] at hlength
    have hpos := List.length_pos_iff.mpr hmore
    have hval : len.toNat = pl.length := by rw [← hlen]; exact toNat_len h
    have hmax : ¬ Config.maxPayload < pl.length := Nat.not_lt.mpr h
    simp only [rxStatus, hval, if_neg hmax]
    rw [if_pos (by omega)]

/-- A receiver that holds the beginning of what follows a frame's SYNC takes the rest as that frame. -/
theorem Takes.frame_rest {l : Link} {kind tag : Byte} {pl : List Byte} (hpl : pl.length ≤ 240)
    {more : List Byte} (hmore : more ≠ []) {buf : List Byte}
    (hsplit : (frame kind tag pl).tail = buf ++ more) {s : State} (h : (s.link l).rx = some buf) :
    Takes l more s ((s.setRx l none).takeFrame l kind tag pl) := by
  induction more generalizing buf s with
  | nil => exact absurd rfl hmore
  | cons b more ih =>
    have hnext : (frame kind tag pl).tail = (buf ++ [b]) ++ more := by simpa using hsplit
    by_cases hlast : more = []
    · subst hlast
      rw [List.append_nil] at hnext
      refine .good h ?_ (.nil _)
      rw [← hnext]
      exact rxStatus_frame kind tag hpl
    · refine .collect h (rxStatus_of_prefix hpl hnext hlast) ?_
      have hset : (s.setRx l (some (buf ++ [b]))).setRx l none = s.setRx l none := by cases l <;> rfl
      rw [← hset]
      exact ih hlast hnext (s.link_setRx l _)

theorem State.setRx_none {s : State} {l : Link} (h : (s.link l).rx = none) : s.setRx l none = s := by
  cases l <;> (simp only [State.link, PerLink.get] at h; simp [State.setRx, State.modLink, PerLink.set, PerLink.get, ← h])

/-- The bytes of a frame that a hunting receiver takes are that frame. -/
theorem Takes.frame {l : Link} {kind tag : Byte} {pl : List Byte} (hpl : pl.length ≤ 240) {s : State}
    (h : (s.link l).rx = none) : Takes l (frame kind tag pl) s (s.takeFrame l kind tag pl) := by
  have hframe : Machine.frame kind tag pl = 0x5A :: (Machine.frame kind tag pl).tail := rfl
  rw [hframe]
  have hrest := Takes.frame_rest (l := l) (kind := kind) (tag := tag) (s := s.setRx l (some [])) hpl
    (List.ne_nil_of_length_pos (by rw [List.length_tail, frame_length]; omega))
    (List.nil_append _).symm (s.link_setRx l _)
  rw [show (s.setRx l (some [])).setRx l none = s.setRx l none by cases l <;> rfl,
    State.setRx_none h] at hrest
  exact .sync h hrest

/-- Commands that each answer with a byte received, one after another. -/
theorem foldl_receiveByte {f : Host.Outcome State Fault Refusal → Byte → Host.Outcome State Fault Refusal}
    {l : Link} (hf : ∀ u b, f (.next u) b = exec (.frameByteReceived l b) u) (bs : List Byte) (s : State) :
    bs.foldl f (.next s) = .next (bs.foldl (fun u b => u.receiveByte l b) s) := by
  induction bs generalizing s with
  | nil => rfl
  | cons b bs ih =>
    rw [List.foldl_cons, hf]
    exact ih (s.receiveByte l b)

end Sys2Proof.Machine

namespace Sys2Proof.Proofs

open Sys2Proof.Machine

/-- Settles O31: one step of the receiver for each case; what is left to examine after a discard is taken
byte by byte. -/
theorem receiverCollectsAndDiscards : Obligations.ReceiverCollectsAndDiscards := by
  unfold Obligations.ReceiverCollectsAndDiscards
  intro l b s k hunts
  have hbyte : ∀ {t : State}, Takes l [b] s t → exec (.frameByteReceived l b) s = .next t :=
    fun h => congrArg Host.Outcome.next (State.receiveByte_eq h)
  have hhunts : ∀ (bytes : List Byte) {u t : State}, Takes l bytes u t → hunts bytes u = .next t :=
    fun bytes u t h => (foldl_receiveByte (fun _ _ => rfl) bytes u).trans
      (congrArg Host.Outcome.next ((Takes.foldl l bytes u).unique h))
  have hlong : k.rx = some [] → 240 < b.toNat → rxStatus ([] ++ [b]) = .tooLong := fun _ hb => if_pos hb
  have hlength : k.rx = some [] → 240 < b.toNat →
      exec (.frameLengthDiscard l b) s = exec (.frameByteReceived l b) s := fun hrx hb =>
    congrArg Host.Outcome.next (if_pos (State.discardsAt_of_status hrx (hlong hrx hb)))
  have hcrc : ∀ buf, k.rx = some buf → rxStatus (buf ++ [b]) = .badCrc →
      exec (.frameCrcDiscard l b) s = exec (.frameByteReceived l b) s := fun buf hrx hst =>
    congrArg Host.Outcome.next (if_pos (State.discardsAt_of_status hrx hst))
  have hcountLength : (s.setRx l none).countLength l = s.modLink l fun k => { k with
      rx := none, counters := { k.counters with length := min (k.counters.length + 1) 65535 } } :=
    State.modLink_modLink ..
  have hcountCrc : (s.setRx l none).countCrc l = s.modLink l fun k => { k with
      rx := none, counters := { k.counters with crc := min (k.counters.crc + 1) 65535 } } :=
    State.modLink_modLink ..
  have hcountGap : (s.setRx l none).countGap l = s.modLink l fun k => { k with
      rx := none, counters := { k.counters with gap := min (k.counters.gap + 1) 65535 } } :=
    State.modLink_modLink ..
  refine ⟨fun hrx hb => ?_, fun hrx hb => ?_, fun buf hrx hst => ?_, fun hrx hb => ?_,
    fun buf hrx hst hbuf hb => ?_, fun buf hrx hbuf => ?_, fun hrx => ?_, fun hrx hb => (hlength hrx hb).symm,
    fun buf hrx hst => ⟨(hcrc buf hrx hst).symm, ?_⟩, fun buf hrx => ?_⟩
  · exact hbyte (.hunt hrx (by simpa using Ne.symm hb))
  · rw [hb] at hbyte ⊢
    exact hbyte (.sync hrx (.nil _))
  · exact hbyte (.collect hrx hst (.nil _))
  · rw [hlength hrx hb, ← hcountLength]
    refine hbyte (.tooLong hrx (hlong hrx hb) (.hunt (by simp) ?_))
    have hne : (0x5A : Byte) ≠ b := by rintro rfl; exact absurd hb (by decide)
    simpa using hne
  · rw [hcrc buf hrx hst, ← hcountCrc]
    refine hbyte (.badCrc hrx hst (.hunt (by simp) ?_))
    rw [List.append_nil, List.mem_append, List.mem_singleton]
    exact not_or.mpr ⟨hbuf, Ne.symm hb⟩
  · rw [← hcountGap]
    exact congrArg Host.Outcome.next ((State.gapExpires_takes hrx).unique (.hunt (by simp) hbuf))
  · have hnone : (s.link l).rx = none := hrx
    refine congrArg Host.Outcome.next ?_
    rw [State.gapExpires, hnone]
  · rw [hcrc buf hrx hst, ← hcountCrc]
    have htakes := Takes.foldl l (buf ++ [b]) ((s.setRx l none).countCrc l)
    rw [hhunts _ htakes]
    exact hbyte (.badCrc hrx hst (by rwa [List.append_nil]))
  · rw [← hcountGap, hhunts _ (State.gapExpires_takes hrx)]
    rfl

/-- Settles O32: a hunting receiver takes SYNC, collects what follows and takes the frame with its last
byte. -/
theorem frameBytesAreTakenAsTheFrame : Obligations.FrameBytesAreTakenAsTheFrame := by
  unfold Obligations.FrameBytesAreTakenAsTheFrame
  intro l kind tag pl s hrx hpl
  refine ⟨?_, fun r hr => ?_⟩
  · rw [foldl_receiveByte (fun _ _ => rfl),
      (Takes.foldl l (frame kind tag pl) s).unique (Takes.frame hpl hrx)]
    rfl
  · rw [exec_requestCommand, ← hr, ← State.takeFrame_requestCode]
    rfl

end Sys2Proof.Proofs


/-! ## Counts within the form, faults, and the head's load -/

namespace Sys2Proof.Machine

/-! ### One ply changed twice -/

theorem State.modPly_modPly (s : State) (p : Ply) (f g : PlyState → PlyState) :
    (s.modPly p f).modPly p g = s.modPly p fun ps => g (f ps) := by
  cases p <;> rfl

theorem State.modPly_congr {s : State} {p : Ply} {f g : PlyState → PlyState}
    (h : f (s.ply p) = g (s.ply p)) : s.modPly p f = s.modPly p g :=
  congrArg (fun ps => { s with plies := s.plies.set p ps }) h

theorem State.modPly_id {s : State} {p : Ply} {f : PlyState → PlyState} (h : f (s.ply p) = s.ply p) :
    s.modPly p f = s := by
  have hset : s.plies.set p (s.plies.get p) = s.plies := by cases p <;> rfl
  have hput : s.modPly p f = { s with plies := s.plies.set p (s.plies.get p) } :=
    congrArg (fun ps => { s with plies := s.plies.set p ps }) h
  rw [hput, hset]

/-! ### A forward count within the form (R58) -/

/-- The guard runs on an advance that takes nothing up. -/
theorem State.advanceGuard_of_quiet {s : State} {p : Ply}
    (h : (s.ply p).head.guardCount ≠ 1 ∨ (s.ply p).head.deferred = []) :
    s.advanceGuard p = s.modHead p HeadController.advance := by
  unfold State.advanceGuard
  dsimp only
  split
  · have hnone : ((s.modHead p HeadController.advance).ply p).head.deferred = [] := by
      simpa [State.modHead, HeadController.advance] using h.resolve_left (not_not_intro ‹_›)
    rw [State.takeUpDeferred, hnone]
  · rfl

theorem HeadController.waitingIn_eq_nil {h : HeadController} {x : Nat}
    (hnone : ∀ i ∈ h.plan, i.state = .waiting → i.phase ≠ x) : h.waitingIn x x = [] := by
  simp only [HeadController.waitingIn, List.map_eq_nil_iff, List.filter_eq_nil_iff, Bool.and_eq_true,
    decide_eq_true_eq, not_and, not_le, and_imp]
  intro i hi hw hx
  have := hnone i hi hw
  omega

/-- A position that no impression has to reach brings none due. -/
theorem State.reachPhase_of_none {s : State} {p : Ply} {x : Nat}
    (h : ∀ i ∈ (s.ply p).head.plan, i.state = .waiting → i.phase ≠ x) : s.reachPhase p x = s := by
  rw [State.reachPhase, HeadController.waitingIn_eq_nil h]
  rfl

/-- An advance raises the errors of deferred impressions, and leaves phases and states. -/
theorem HeadController.mem_advance_plan {h : HeadController} {i : Impression} (hi : i ∈ h.advance.plan) :
    ∃ k ∈ h.plan, k.state = i.state ∧ k.phase = i.phase := by
  obtain ⟨k, hk, rfl⟩ := List.mem_map.mp hi
  refine ⟨k, hk, ?_⟩
  split <;> exact ⟨rfl, rfl⟩

/-! ### Faults (R158, R159, R161) -/

/-- A cause given sends its notices behind those queued. -/
theorem State.giveCause_notices_append (s : State) (c : HoldCause) :
    ∃ more, (s.giveCause c).notices = s.notices ++ more := by
  have hsent : ∀ (t : State) (n : Notice), ∃ more, (t.notify n).notices = t.notices ++ more := fun t n => by
    obtain ⟨-, he⟩ | ⟨-, he⟩ := t.queueNotice_cases n .owner
    · exact ⟨_, by rw [State.notify, he]⟩
    · exact ⟨[], by rw [State.notify, he, List.append_nil]⟩
  obtain ⟨-, he⟩ | ⟨-, -, he⟩ | ⟨-, he⟩ := s.giveCause_cases c
  · rw [he]; exact hsent _ _
  · rw [he]; exact hsent _ _
  · exact ⟨[], by rw [he, List.append_nil]⟩

/-- R158: the state after the capture and the notice of a fault, before its cause. -/
def State.faultNoted (s : State) (p : Ply) (r : FaultReport) : State :=
  (s.modPly p fun ps => { ps with
      capture := some (recordCapture ps.capture r)
      head := { ps.head with inhibit := ps.head.inhibit || (s.ply p).record.inhibitSet.has r.kind } }).notify
    (.plyFault p r (decide ((s.ply p).capture = none)) ((s.ply p).record.inhibitSet.has r.kind))

theorem State.raiseFault_eq (s : State) (p : Ply) (r : FaultReport) : s.raiseFault p r =
    if (s.ply p).record.inhibitSet.has r.kind && decide (s.params.map (·.faultAction) = some .hold) then
      (s.faultNoted p r).giveCause .fault else s.faultNoted p r := by
  have hparams : (s.faultNoted p r).params = s.params := by simp [State.faultNoted]
  rw [← hparams]
  rfl

theorem State.faultNoted_runState (s : State) (p : Ply) (r : FaultReport) :
    (s.faultNoted p r).runState = s.runState ∧ (s.faultNoted p r).causes = s.causes := by
  simp [State.faultNoted]

theorem State.faultNoted_notices {s : State} (h : s.notices.length < 48) (p : Ply) (r : FaultReport) :
    (s.faultNoted p r).notices = s.notices ++ [⟨.plyFault p r (decide ((s.ply p).capture = none))
      ((s.ply p).record.inhibitSet.has r.kind), .owner⟩] :=
  State.notify_notices (s := s.modPly p _) h _

theorem State.raiseFault_of_not_hold {s : State} {p : Ply} {r : FaultReport}
    (h : (s.ply p).record.inhibitSet.has r.kind = false ∨ s.params.map (·.faultAction) ≠ some .hold) :
    s.raiseFault p r = s.faultNoted p r := by
  rw [State.raiseFault_eq, if_neg]
  obtain h | h := h <;> simp [h]

theorem State.raiseFault_of_hold {s : State} {p : Ply} {r : FaultReport}
    (hi : (s.ply p).record.inhibitSet.has r.kind = true) (ha : s.params.map (·.faultAction) = some .hold) :
    s.raiseFault p r = (s.faultNoted p r).giveCause .fault := by
  rw [State.raiseFault_eq, if_pos (by simp [hi, ha])]

theorem State.alarm_iff (s : State) :
    s.alarm = true ↔ s.runState = .held ∨ ∃ p, (s.ply p).capture ≠ none := by
  have plies : ∀ q : Ply, q ∈ plyOrder := by intro q; cases q <;> decide
  simp [State.alarm, plies, Option.isSome_iff_ne_none]

/-! ### Currency (R4) and what may be loaded (R77, R78) -/

theorem State.current_iff (s : State) (j : Nat) (k : Byte) : s.current j k = true ↔
    ∃ slot, s.slotAt j = some slot ∧ (∃ b m, slot.disp = .bound b m) ∧ slot.stamp = k := by
  unfold State.current State.boundAt
  cases s.slotAt j with
  | none => simp
  | some slot => cases hd : slot.disp <;> simp [hd]

theorem PlyState.loadable_iff (ps : PlyState) (img : Image) : ps.loadable img = true ↔
    ps.unit.headSlot < img.slot
      ∨ (img.slot = ps.unit.headSlot ∧ ∀ i ∈ ps.head.plan, i.state = .waiting) := by
  simp [PlyState.loadable, HeadController.fallenDue]

theorem State.keepsImage_iff (s : State) (p : Ply) (img : Image) : s.keepsImage p img = true ↔
    s.current img.slot img.stamp = true ∧ (s.ply p).loadable img = true := by
  rw [State.keepsImage, Bool.and_eq_true]

/-! ### The fronts considered (R75, R77) -/

/-- Whether an entry is an image that waits to be loaded. -/
def Entry.waits : Entry → Bool
  | .image _ taken => !taken
  | .blank _ => false

theorem stagingFront_waits {q : List Entry} {img : Image} (h : stagingFront q = some img) :
    ∃ e ∈ q, e.waits = true ∧ e.slot = img.slot := by
  induction q with
  | nil => simp [stagingFront] at h
  | cons e q ih =>
    have htail : stagingFront q = some img → ∃ e' ∈ e :: q, e'.waits = true ∧ e'.slot = img.slot := fun h =>
      let ⟨e', he', hw⟩ := ih h
      ⟨e', List.mem_cons_of_mem _ he', hw⟩
    match e, h with
    | .blank _, h => exact htail h
    | .image _ true, h => exact htail h
    | .image i false, h =>
      obtain rfl : i = img := by simpa [stagingFront] using h
      exact ⟨_, List.mem_cons_self .., rfl, rfl⟩

theorem stagingFront_of_none_waits {q : List Entry} (h : q.countP Entry.waits = 0) :
    stagingFront q = none := by
  cases hf : stagingFront q with
  | none => rfl
  | some img =>
    obtain ⟨e, he, hw, -⟩ := stagingFront_waits hf
    exact absurd hw (by simpa using List.countP_eq_zero.mp h e he)

/-- The front replaced by an entry that does not wait leaves one entry fewer to wait. -/
theorem countP_replaceFront {q : List Entry} {img : Image} (h : stagingFront q = some img) {e : Entry}
    (he : e.waits = false) : (replaceFront e q).countP Entry.waits < q.countP Entry.waits := by
  induction q with
  | nil => simp [stagingFront] at h
  | cons x q ih =>
    match x, h with
    | .blank _, h => simpa [replaceFront, Entry.waits] using ih h
    | .image _ true, h => simpa [replaceFront, Entry.waits] using ih h
    | .image i false, _ =>
      rw [show replaceFront e (.image i false :: q) = e :: q from rfl,
        List.countP_cons_of_neg (by simp [he]), List.countP_cons_of_pos rfl]
      exact Nat.lt_succ_self _

/-- The front dropped with every entry above it leaves fewer to wait. -/
theorem countP_dropFrom {q : List Entry} {img : Image} (h : stagingFront q = some img) :
    (q.filter fun x => decide (x.slot < img.slot)).countP Entry.waits < q.countP Entry.waits := by
  obtain ⟨e, he, hw, hslot⟩ := stagingFront_waits h
  rw [List.countP_filter, List.countP_eq_length_filter, List.countP_eq_length_filter]
  have hsub : (q.filter fun x => x.waits && decide (x.slot < img.slot)).Sublist (q.filter Entry.waits) :=
    List.monotone_filter_right q fun x hx => (Bool.and_eq_true_iff.mp hx).1
  refine lt_of_le_of_ne hsub.length_le fun heq => ?_
  have hmem : e ∈ q.filter fun x => x.waits && decide (x.slot < img.slot) := by
    rw [hsub.eq_of_length heq]
    exact List.mem_filter.mpr ⟨he, hw⟩
  simp [hslot] at hmem

/-- R77: the queue with its front passed over, turned BLANK or dropped. -/
def FrontAction.queue (a : FrontAction) (img : Image) (q : List Entry) : List Entry :=
  match a with
  | .take => q
  | .passOver => replaceFront (.image img true) q
  | .turnBlank => replaceFront (.blank img.slot) q
  | .drop => q.filter fun x => decide (x.slot < img.slot)

/-- A front that is not taken leaves the queue to the next. -/
theorem State.considerLoad_succ {s : State} {p : Ply} {img : Image}
    (hfront : stagingFront (s.ply p).head.queue = some img) (ha : s.frontAction p img ≠ .take) (fuel : Nat) :
    State.considerLoad (fuel + 1) p s = State.considerLoad fuel p
      (s.modHead p fun h => { h with queue := (s.frontAction p img).queue img h.queue }) := by
  rw [State.considerLoad, hfront]
  cases h : s.frontAction p img with
  | take => exact absurd h ha
  | passOver => simp only [h]; rfl
  | turnBlank => simp only [h]; rfl
  | drop => simp only [h]; rfl

theorem FrontAction.countP_queue {q : List Entry} {img : Image} (h : stagingFront q = some img)
    {a : FrontAction} (ha : a ≠ .take) : (a.queue img q).countP Entry.waits < q.countP Entry.waits := by
  cases a with
  | take => exact absurd rfl ha
  | passOver => exact countP_replaceFront h rfl
  | turnBlank => exact countP_replaceFront h rfl
  | drop => exact countP_dropFrom h

/-- Fuel for each waiting image is enough. -/
theorem State.considerLoad_fuel (n m : Nat) (p : Ply) (s : State)
    (hn : (s.ply p).head.queue.countP Entry.waits ≤ n) (hm : (s.ply p).head.queue.countP Entry.waits ≤ m) :
    State.considerLoad n p s = State.considerLoad m p s := by
  have hzero : ∀ k, stagingFront (s.ply p).head.queue = none → State.considerLoad k p s = s := by
    intro k h
    cases k with
    | zero => rfl
    | succ k => rw [State.considerLoad, h]
  induction n generalizing s m with
  | zero =>
    have hnone := stagingFront_of_none_waits (Nat.le_zero.mp hn)
    rw [hzero 0 hnone, hzero m hnone]
  | succ n ih =>
    cases hfront : stagingFront (s.ply p).head.queue with
    | none => rw [hzero _ hfront, hzero _ hfront]
    | some img =>
      have hpos : 0 < (s.ply p).head.queue.countP Entry.waits := by
        obtain ⟨e, he, hw, -⟩ := stagingFront_waits hfront
        exact List.countP_pos_iff.mpr ⟨e, he, hw⟩
      obtain ⟨m, rfl⟩ := Nat.exists_eq_succ_of_ne_zero (by omega : m ≠ 0)
      by_cases ha : s.frontAction p img = .take
      · rw [State.considerLoad, hfront, State.considerLoad, hfront]
        simp only [ha]
      · have hless := FrontAction.countP_queue hfront ha
        have hqueue : ((s.modHead p fun h =>
            { h with queue := (s.frontAction p img).queue img h.queue }).ply p).head.queue
            = (s.frontAction p img).queue img (s.ply p).head.queue := by
          simp [State.modHead]
        rw [State.considerLoad_succ hfront ha, State.considerLoad_succ hfront ha]
        refine ih _ _ (by rw [hqueue]; omega) (by rw [hqueue]; omega) fun k h => ?_
        cases k with
        | zero => rfl
        | succ k => rw [State.considerLoad, h]

/-- A front that is not taken is followed by a load start on the queue it leaves. -/
theorem State.loadStart_of_not_take {s : State} {p : Ply} {img : Image} {a : FrontAction}
    (hfree : s.headFree p = true) (hfront : stagingFront (s.ply p).head.queue = some img)
    (ha : s.frontAction p img = a) (hnot : a ≠ .take) :
    s.loadStart p = (s.modHead p fun h => { h with queue := a.queue img h.queue }).loadStart p := by
  subst ha
  let t := s.modHead p fun h => { h with queue := (s.frontAction p img).queue img h.queue }
  have hfree' : t.headFree p = true := by
    have hactive : t.active p = s.active p := by simp [t, State.active, State.modHead]
    have hhead : (t.ply p).head.load = (s.ply p).head.load
        ∧ (t.ply p).head.inhibit = (s.ply p).head.inhibit := by simp [t, State.modHead]
    rw [State.headFree, hactive, hhead.1, hhead.2]
    exact hfree
  have hqueue : (t.ply p).head.queue = (s.frontAction p img).queue img (s.ply p).head.queue := by
    simp [t, State.modHead]
  have hless := FrontAction.countP_queue hfront hnot
  have hall := List.countP_le_length (p := Entry.waits) (l := (s.ply p).head.queue)
  have hall' := List.countP_le_length (p := Entry.waits) (l := (t.ply p).head.queue)
  rw [State.loadStart, if_pos hfree, State.considerLoad_succ hfront hnot, State.loadStart, if_pos hfree']
  exact State.considerLoad_fuel _ _ p t (by rw [hqueue]; omega) (Nat.le_succ_of_le hall')

theorem State.frontAction_of_current {s : State} {p : Ply} {img : Image}
    (h : s.current img.slot img.stamp = true) :
    s.frontAction p img = if (s.ply p).loadable img then .take else .passOver := by
  obtain ⟨slot, hslot, ⟨b, m, hd⟩, hstamp⟩ := (s.current_iff ..).mp h
  obtain ⟨hm, hs⟩ := State.slotAt_eq_some.mp hslot
  simp [State.frontAction, State.lookup, Nat.not_lt.mpr hm, hs, hd, hstamp]

theorem State.frontAction_of_retired {s : State} {p : Ply} {img : Image}
    (h : img.slot < s.marriageSlot ∨ ∃ slot, s.slotAt img.slot = some slot
      ∧ (slot.disp = .skip ∨ ∃ b r, slot.disp = .void b r)) : s.frontAction p img = .turnBlank := by
  obtain h | ⟨slot, hslot, hd⟩ := h
  · simp [State.frontAction, State.lookup, h]
  · obtain ⟨hm, hs⟩ := State.slotAt_eq_some.mp hslot
    obtain hd | ⟨b, r, hd⟩ := hd <;>
      simp [State.frontAction, State.lookup, Nat.not_lt.mpr hm, hs, hd]

theorem State.frontAction_of_stale {s : State} {p : Ply} {img : Image} {slot : Slot}
    (hslot : s.slotAt img.slot = some slot)
    (h : slot.disp = .opened ∨ ((∃ b m, slot.disp = .bound b m) ∧ slot.stamp ≠ img.stamp)) :
    s.frontAction p img = .drop := by
  obtain ⟨hm, hs⟩ := State.slotAt_eq_some.mp hslot
  obtain hd | ⟨⟨b, m, hd⟩, hstamp⟩ := h
  · simp [State.frontAction, State.lookup, Nat.not_lt.mpr hm, hs, hd]
  · simp [State.frontAction, State.lookup, Nat.not_lt.mpr hm, hs, hd, hstamp]

end Sys2Proof.Machine

namespace Sys2Proof.Proofs

open Sys2Proof.Machine

/-- Settles O4: the count pays off, or the advance takes nothing up and brings nothing due. -/
theorem forwardCountWithinTheForm : Obligations.ForwardCountWithinTheForm := by
  unfold Obligations.ForwardCountWithinTheForm
  intro e p s hcount
  rw [exec_forwardCount_single hcount]
  refine ⟨fun howed => ?_, fun howed hguard hform hnone => ?_⟩
  · rw [State.forwardCount, if_pos howed]
  · let s1 := s.modUnit p fun u => { u with position := u.position + 1 }
    have hhead : (s1.ply p).head = (s.ply p).head := by simp [s1, State.modUnit]
    have hends : decide (s.cutoff ≤ (s.ply p).unit.position + 1) = false := by
      rw [decide_eq_false_iff_not]; omega
    have hmove : (s.modUnit p fun u => { u with position := (s.ply p).unit.position + 1 }) = s1 :=
      State.modPly_congr rfl
    have hadvanced : s1.advanceGuard p = s1.modHead p HeadController.advance :=
      State.advanceGuard_of_quiet (by rwa [hhead])
    rw [State.forwardCount, if_neg (by omega), State.forwardAdvance]
    simp only [hends, Bool.false_eq_true, if_false, hmove, hadvanced]
    rw [State.reachPhase_of_none]
    · exact congrArg Host.Outcome.next (State.modPly_modPly ..)
    · intro i hi hw
      have hplan : ((s1.modHead p HeadController.advance).ply p).head = (s.ply p).head.advance := by
        simp [State.modHead, hhead]
      rw [hplan] at hi
      obtain ⟨k, hk, hstate, hphase⟩ := HeadController.mem_advance_plan hi
      rw [← hphase]
      exact hnone k hk (hstate.trans hw)

/-- Settles O26: a fault is captured and reported, and gives its cause where it inhibits under HOLD. -/
theorem faultIsCapturedAndInhibits : Obligations.FaultIsCapturedAndInhibits := by
  unfold Obligations.FaultIsCapturedAndInhibits
  refine ⟨fun p r s => ?_, State.alarm_iff⟩
  intro t inhibits
  have hself : t.ply p = _ := s.ply_raiseFault_self p r
  have hact := PressAct.raiseFault s p r
  have hcapture : (t.ply p).capture = some (recordCapture (s.ply p).capture r) := by rw [hself]
  refine ⟨fun hclear => ?_, fun k hk => ?_, by rw [hself], fun q hq => s.ply_raiseFault_ne r hq,
    fun hroom => ?_, fun hrun hi ha => ?_, fun hno => ?_, ?_, ?_, ?_, ?_, hact.setup, hact.links⟩
  · rw [hcapture, hclear]; rfl
  · rw [hcapture, hk]; rfl
  · have hnoted := State.faultNoted_notices hroom p r
    obtain ⟨more, hmore⟩ : ∃ more, t.notices = (s.faultNoted p r).notices ++ more := by
      dsimp only [t]
      rw [State.raiseFault_eq]
      split
      · exact State.giveCause_notices_append ..
      · exact ⟨[], (List.append_nil _).symm⟩
    exact ⟨more, by rw [hmore, hnoted, List.append_assoc]; rfl⟩
  · have hissuing : (s.faultNoted p r).issuing = true := by
      rw [State.issuing_iff, (s.faultNoted_runState p r).1]
      exact .inl hrun
    dsimp only [t]
    rw [State.raiseFault_of_hold hi ha, State.giveCause_runState_of_issuing hissuing,
      State.giveCause_causes_of_issuing hissuing, (s.faultNoted_runState p r).2]
    exact ⟨rfl, rfl⟩
  · dsimp only [t]
    rw [State.raiseFault_of_not_hold hno]
    exact s.faultNoted_runState p r
  · rw [State.alarm_iff]
    exact .inr ⟨p, by rw [hcapture]; exact Option.some_ne_none _⟩
  · simp [t]
  · simp [t]
  · simp [t]

/-- Settles O25: the load state and the stamp decide whether an answer ends a load. -/
theorem headAnswersEndTheLoad : Obligations.HeadAnswersEndTheLoad := by
  unfold Obligations.HeadAnswersEndTheLoad
  intro p stamp cause s
  refine ⟨fun hnone => ?_, fun img hload => ?_⟩
  · cases hl : (s.ply p).head.load with
    | loading img => exact absurd hl (hnone img)
    | loaded img => simp [exec, execAccept, execReject, execLoadTimerExpiry, State.acceptLoad,
        State.rejectLoad, State.expireLoad, hl]
    | empty => simp [exec, execAccept, execReject, execLoadTimerExpiry, State.acceptLoad,
        State.rejectLoad, State.expireLoad, hl]
  · intro empty fault usable
    have haccept : exec (.accept p stamp) s = .next (if img.stamp = stamp then
        s.modHead p fun h => { h with load := if s.keepsImage p img then .loaded img else .empty }
        else s) := by
      simp only [exec, execAccept, State.acceptLoad, hload]
    have hreject : exec (.reject p stamp cause) s = .next (if img.stamp = stamp then
        s.failLoad p img .headReject (some cause) else s) := by
      simp only [exec, execReject, State.rejectLoad, hload]
    have hkeeps : s.keepsImage p img = true ↔ s.current img.slot img.stamp = true ∧ usable := by
      rw [State.keepsImage_iff, PlyState.loadable_iff]
    refine ⟨fun hne => ⟨?_, ?_⟩, fun heq hcur huse => ?_, fun heq hnot => ?_, fun heq => ?_, ?_⟩
    · rw [haccept, if_neg (Ne.symm hne)]
    · rw [hreject, if_neg (Ne.symm hne)]
    · rw [haccept, if_pos heq.symm, hkeeps.mpr ⟨hcur, huse⟩]
      rfl
    · have hno : s.keepsImage p img = false := by
        rw [← Bool.not_eq_true, hkeeps]
        rintro ⟨hcur, huse⟩
        simp [hcur, huse] at hnot
      rw [haccept, if_pos heq.symm, hno]
      rfl
    · rw [hreject, if_pos heq.symm]
      rfl
    · simp only [exec, execLoadTimerExpiry, State.expireLoad, hload]
      rfl

/-- Settles O24: what a front's slot has become decides what a load start does with it; the fuel is
enough for the fronts that follow. -/
theorem loadStartTakesTheFront : Obligations.LoadStartTakesTheFront := by
  unfold Obligations.LoadStartTakesTheFront
  intro p s
  have hexec : ∀ t : State, exec (.loadStart p) t = .next (t.loadStart p) := fun _ => rfl
  refine ⟨fun img hrun hactive hempty hinhibit hfront => ?_, fun hnot => ?_⟩
  · intro loadable queued
    have hfree : s.headFree p = true := by simp [State.headFree, hrun, hactive, hempty, hinhibit]
    have hloadable := (s.ply p).loadable_iff img
    have hleaves : ∀ a : FrontAction, a ≠ .take → s.frontAction p img = a →
        exec (.loadStart p) s = exec (.loadStart p) (queued (a.queue img)) := fun a hne ha => by
      rw [hexec, hexec, State.loadStart_of_not_take hfree hfront ha hne]
    refine ⟨fun hcur hl => ?_, fun hcur hl => ?_, fun hstale => ?_, fun slot hslot hstale => ?_⟩
    · have htake : s.frontAction p img = .take := by
        rw [State.frontAction_of_current hcur, if_pos (hloadable.mpr hl)]
      rw [hexec, State.loadStart, if_pos hfree, State.considerLoad, hfront]
      simp only [htake]
      rfl
    · refine hleaves .passOver (by decide) ?_
      rw [State.frontAction_of_current hcur, if_neg (mt hloadable.mp hl)]
    · exact hleaves .turnBlank (by decide) (State.frontAction_of_retired hstale)
    · exact hleaves .drop (by decide) (State.frontAction_of_stale hslot hstale)
  · rw [hexec, State.loadStart]
    split
    · rename_i hfree
      simp only [State.headFree, Bool.and_eq_true, decide_eq_true_eq, Bool.not_eq_true'] at hfree
      have hnone : stagingFront (s.ply p).head.queue = none := by simpa [hfree] using hnot
      rw [State.considerLoad, hnone]
    · rfl

end Sys2Proof.Proofs


/-! ## Stray records, staging, the arbiter, grants and completions -/

namespace Sys2Proof.Machine

/-! ### Records (R97, R98, R107) -/

/-- A record that can be read is taken with its sequence number and result. -/
theorem readRecord_of_readable {r : ReaderRecord} {seq : Byte}
    (h : r = .noRead seq ∨ ∃ chars, r = .text seq chars ∧ 1 ≤ chars.length ∧ chars.length ≤ 16) :
    ∃ result, readRecord r = some (seq, result) := by
  obtain rfl | ⟨chars, rfl, hlen⟩ := h
  · exact ⟨_, rfl⟩
  · exact ⟨_, if_pos hlen⟩

theorem exec_readerRecord_of_read {p : Ply} {s : State} (h : s.takesRecords p = true)
    {r : ReaderRecord} {seq : Byte} {result : ReadResult} (hr : readRecord r = some (seq, result)) :
    exec (.readerRecord p r) s = .next (s.takeRecord p seq result) := by
  simp only [exec, execReaderRecord, h, if_true, hr]

theorem exec_readerRecord_of_unread {p : Ply} {s : State} (h : s.takesRecords p = true)
    {r : ReaderRecord} (hr : readRecord r = none) :
    exec (.readerRecord p r) s = .next (s.notify (.stray p .format (s.ply p).checker.expected)) := by
  simp only [exec, execReaderRecord, h, if_true, hr]
  rfl

/-- R98: how far a record is from the one expected. -/
def Checker.ahead (c : Checker) (seq : Byte) : Nat := if c.synced then (seq - c.expected).toNat else 0

theorem State.takeRecord_eq (s : State) (p : Ply) (seq : Byte) (r : ReadResult) : s.takeRecord p seq r =
    if 128 ≤ (s.ply p).checker.ahead seq then
      s.notify (.stray p (.old seq) (s.ply p).checker.expected)
    else ((s.gap p ((s.ply p).checker.ahead seq)).modChecker p fun _ => ⟨true, seq + 1⟩).associate
      p seq r (s.ply p).checker.expected := rfl

/-- A record in sequence, or the first one, is not ahead. -/
theorem Checker.ahead_of_expected {c : Checker} {seq : Byte} (h : c.synced = true → c.expected = seq) :
    c.ahead seq = 0 := by
  unfold Checker.ahead
  split
  · rw [h ‹_›, BitVec.sub_self]; rfl
  · rfl

theorem State.gap_zero (s : State) (p : Ply) : s.gap p 0 = s := by
  simp [State.gap]

theorem State.takeRecord_of_expected {s : State} {p : Ply} {seq : Byte}
    (h : (s.ply p).checker.synced = true → (s.ply p).checker.expected = seq) (r : ReadResult) :
    s.takeRecord p seq r = (s.modChecker p fun _ => ⟨true, seq + 1⟩).associate p seq r
      (s.ply p).checker.expected := by
  rw [State.takeRecord_eq, Checker.ahead_of_expected h, State.gap_zero, if_neg (by decide)]

theorem State.awaiting_modChecker (s : State) (p q : Ply) (f : Checker → Checker) :
    (s.modChecker p f).awaiting q = s.awaiting q := rfl

theorem State.associate_of_none {s : State} {p : Ply} (h : s.awaiting p = []) (seq : Byte)
    (r : ReadResult) (expected : Byte) :
    s.associate p seq r expected = s.notify (.stray p (.unmatched seq) expected) := by
  rw [State.associate, h]; rfl

/-! ### Staging (R17, R48) -/

/-- Table 1-8: a created slot has a sub-record for each active ply. -/
theorem State.freshSlot_sub (s : State) (q : Ply) : s.freshSlot.subs.get q =
    if s.active q = true then some (freshSub (s.ply q).record) else none := by
  rw [State.freshSlot, PerPly.get_map]
  rfl

theorem State.lookup_of_end_le {s : State} {j : Nat} (h : s.windowEnd ≤ j) (hm : s.marriageSlot ≤ j) :
    s.lookup j = .notCreated := by
  have hnone : s.slots[j - s.marriageSlot]? = none := by
    rw [List.getElem?_eq_none_iff]
    simp only [State.windowEnd] at h
    omega
  simp [State.lookup, Nat.not_lt.mpr hm, hnone]

theorem State.lookup_of_slotAt {s : State} {j : Nat} {slot : Slot} (h : s.slotAt j = some slot) :
    s.lookup j = .held slot := by
  obtain ⟨hm, hs⟩ := State.slotAt_eq_some.mp h
  simp [State.lookup, Nat.not_lt.mpr hm, hs]

theorem State.stage_of_held {s : State} {p : Ply} {slot : Slot}
    (h : s.slotAt (s.ply p).nextNeeded = some slot) :
    s.stage p = if slot.stagesBlank p then s.appendBlank p (s.ply p).nextNeeded else s := by
  simp only [State.stage, State.lookup_of_slotAt h]

theorem State.stage_of_end_le {s : State} {p : Ply} (h : s.windowEnd ≤ (s.ply p).nextNeeded)
    (hm : s.marriageSlot ≤ (s.ply p).nextNeeded) : s.stage p = s.create (s.ply p).nextNeeded := by
  simp only [State.stage, State.lookup_of_end_le h hm]

theorem Slot.stagesBlank_of_bound {slot : Slot} {b : Binding} {m : Option SpoilMark}
    (h : slot.disp = .bound b m) (p : Ply) :
    slot.stagesBlank p = true ↔ (slot.subs.get p).map (·.print) = some .none := by
  rw [Slot.stagesBlank, h]
  exact decide_eq_true_iff

/-! ### The arbiter (R44, R48, R49) -/

theorem State.gateOpen_iff (s : State) : s.gateOpen = true ↔ s.GateIsOpen := by
  have plies : ∀ q : Ply, q ∈ plyOrder := by intro q; cases q <;> decide
  have htrusted : ∀ r : Registration, r.trusted = true ↔ r = .locked ∨ r = .coast := by
    intro r; cases r <;> decide
  have hcursor : s.cursor.map (·.state) = some .active
      ↔ ∃ c, s.cursor = some c ∧ c.state = .active := by
    cases s.cursor <;> simp
  simp only [State.gateOpen, State.GateIsOpen, Bool.and_eq_true, Bool.or_eq_true, decide_eq_true_eq,
    hcursor, List.all_eq_true, State.activePlies, List.mem_filter, plies, true_and, htrusted,
    Bool.not_eq_true', List.isEmpty_eq_false_iff, and_assoc]
  constructor
  · rintro ⟨hrun, hfrom, hreg, hin⟩
    exact ⟨hrun, hfrom, fun p hp => ⟨hreg p hp, hin p hp⟩⟩
  · rintro ⟨hrun, hfrom, hall⟩
    exact ⟨hrun, hfrom, fun p hp => (hall p hp).1, fun p hp => (hall p hp).2⟩

theorem State.aboveHeads_iff (s : State) (j : Nat) :
    s.aboveHeads j = true ↔ ∀ q, s.active q = true → (s.ply q).unit.headSlot < j := by
  have plies : ∀ q : Ply, q ∈ plyOrder := by intro q; cases q <;> decide
  simp only [State.aboveHeads, State.activePlies, List.all_eq_true, List.mem_filter, plies, true_and,
    decide_eq_true_eq]

theorem State.requests_iff (s : State) (p : Ply) (j : Nat) (slot : Slot) : s.requests p j slot = true ↔
    (∃ b m, slot.disp = .bound b m ∧ (slot.subs.get p).map (·.print) ≠ some .none)
    ∨ (slot.disp = .opened ∧ (∀ q, s.active q = true → (s.ply q).unit.headSlot < j) ∧ s.GateIsOpen) := by
  unfold State.requests
  cases hd : slot.disp with
  | bound b m =>
    have hblank := Slot.stagesBlank_of_bound hd p
    simp only [Bool.not_eq_true', ← Bool.not_eq_true, hblank]
    simp
  | opened => simp [State.aboveHeads_iff, State.gateOpen_iff]
  | skip => simp
  | void b r => simp

theorem State.isRequester_iff (s : State) (p : Ply) : s.isRequester p = true ↔
    s.stages p = true ∧ ∃ slot, s.slotAt (s.ply p).nextNeeded = some slot
      ∧ s.requests p (s.ply p).nextNeeded slot = true := by
  rw [State.isRequester, Bool.and_eq_true]
  cases s.slotAt (s.ply p).nextNeeded <;> simp

/-- The first ply of a list in an order, whose queue is shortest. -/
theorem State.shortestFirst_least {s : State} {rank : Ply → Nat} {ps : List Ply}
    (hrank : ps.Pairwise (rank · < rank ·)) {p : Ply} (h : s.shortestFirst ps = some p) :
    ∀ q ∈ ps, (s.ply p).head.queue.length < (s.ply q).head.queue.length
      ∨ ((s.ply p).head.queue.length = (s.ply q).head.queue.length ∧ rank p ≤ rank q) := by
  induction ps generalizing p with
  | nil => simp
  | cons x ps ih =>
    obtain ⟨hx, hps⟩ := List.pairwise_cons.mp hrank
    rw [State.shortestFirst] at h
    intro q hq
    cases hrest : s.shortestFirst ps with
    | none =>
      rw [hrest] at h
      obtain rfl : x = p := by simpa using h
      cases ps with
      | nil => simp_all
      | cons y ps =>
        rw [State.shortestFirst] at hrest
        split at hrest
        · cases hrest
        · split at hrest <;> cases hrest
    | some r =>
      have hr := ih hps hrest
      have hxr := hx r (State.shortestFirst_mem hrest)
      simp only [hrest] at h
      split at h
      · obtain rfl : x = p := by simpa using h
        obtain rfl | hq := List.mem_cons.mp hq
        · exact .inr ⟨rfl, le_rfl⟩
        · have hxq := hx q hq
          have := hr q hq
          omega
      · obtain rfl : r = p := by simpa using h
        obtain rfl | hq := List.mem_cons.mp hq
        · omega
        · exact hr q hq

theorem State.shortestFirst_eq_none {s : State} {ps : List Ply} (h : s.shortestFirst ps = none) :
    ps = [] := by
  cases ps with
  | nil => rfl
  | cons y ps =>
    rw [State.shortestFirst] at h
    split at h
    · cases h
    · split at h <;> cases h

theorem pliesAfter_pairwise (p : Ply) :
    (pliesAfter p).Pairwise fun x y => (pliesAfter p).idxOf x < (pliesAfter p).idxOf y := by
  cases p <;> decide

theorem mem_pliesAfter (p q : Ply) : q ∈ pliesAfter p := by cases p <;> cases q <;> decide

/-! ### Grants (R45 to R49) -/

theorem exec_renderGrant_of_chosen {s : State} {p : Ply} (hr : s.render = none) (hp : s.chosen = some p) :
    exec .renderGrant s = .next (s.grant p) := by
  simp only [exec, execRenderGrant, hr, hp]

/-- A change to a held slot is what it makes of that slot. -/
theorem State.modSlot_congr {s : State} {j : Nat} {slot : Slot} (h : s.slotAt j = some slot)
    {f g : Slot → Slot} (hfg : f slot = g slot) : s.modSlot j f = s.modSlot j g := by
  obtain ⟨hm, hs⟩ := State.slotAt_eq_some.mp h
  have hmodify : s.slots.modify (j - s.marriageSlot) f = s.slots.modify (j - s.marriageSlot) g := by
    apply List.ext_getElem?
    intro i
    rw [List.getElem?_modify, List.getElem?_modify]
    by_cases hi : j - s.marriageSlot = i
    · subst hi; simp [hs, hfg]
    · simp [hi]
  rw [State.modSlot, State.modSlot, if_neg (Nat.not_lt.mpr hm), if_neg (Nat.not_lt.mpr hm), hmodify]

theorem State.beginRender_of_held {s : State} {p : Ply} {j : Nat} {slot : Slot}
    (h : s.slotAt j = some slot) : s.beginRender p j = { s with
      render := if slot.stagesBlank p then none else some ⟨p, j, slot.stamp⟩
      lastGranted := p } := by
  rw [State.beginRender, h]

theorem State.slotAt_of_slots {s t : State} (hs : t.slots = s.slots) (hm : t.marriageSlot = s.marriageSlot)
    (j : Nat) : t.slotAt j = s.slotAt j := by
  simp only [State.slotAt, State.lookup, hs, hm]

theorem State.slotAt_beginRender (s : State) (p : Ply) (j k : Nat) :
    (s.beginRender p j).slotAt k = s.slotAt k := by
  unfold State.beginRender
  split <;> rfl

theorem State.settleCursor_slots (s : State) (c : Cursor) (n : Normalised) :
    (s.settleCursor c n).slots = s.slots ∧ (s.settleCursor c n).marriageSlot = s.marriageSlot := by
  cases n <;> simp [State.settleCursor, State.reportExhausted]

theorem State.chainStep_slots (s : State) (c : Cursor) (g : Segment) :
    (s.chainStep c g).slots = s.slots ∧ (s.chainStep c g).marriageSlot = s.marriageSlot := by
  unfold State.chainStep State.pauseChain State.endChain State.enterSegment
  split
  · simp
  · split <;> simp [State.settleCursor_slots]

theorem State.advanceCursor_slots (s : State) (c : Cursor) :
    (s.advanceCursor c).slots = s.slots ∧ (s.advanceCursor c).marriageSlot = s.marriageSlot := by
  unfold State.advanceCursor
  dsimp only
  split
  · exact ⟨rfl, rfl⟩
  · split
    · exact s.settleCursor_slots _ _
    · exact State.chainStep_slots _ _ _

/-- A binding changes the slot that it binds alone. -/
theorem State.slotAt_bindSlot_ne (s : State) {j k : Nat} (h : k ≠ j) :
    (s.bindSlot j).slotAt k = s.slotAt k := by
  obtain he | ⟨e, rest, lay, serial, -, -, he⟩ | ⟨c, lay, serial, -, -, -, he⟩ := s.bindSlot_cases j
  · rw [he]
  · rw [he, ← s.slotAt_modSlot_ne h fun slot => slot.bind
      { value := e.value, serial := serial, segment := e.segment, pass := e.pass, before := none } lay]
    exact State.slotAt_of_slots rfl rfl k
  · rw [he, ← s.slotAt_modSlot_ne h fun slot => slot.bind
      { value := c.next, serial := serial, segment := c.segment, pass := c.pass
        before := some ⟨c.segment, c.pass, c.next, c.issued⟩ } lay]
    exact State.slotAt_of_slots (State.advanceCursor_slots _ c).1 (State.advanceCursor_slots _ c).2 k

/-- A grant changes at most the slot that the ply needs next, where that slot is OPEN. -/
theorem State.slotAt_grant {s : State} {p : Ply} {k : Nat}
    (h : ∀ slot, s.slotAt k = some slot → slot.disp = .opened → k ≠ (s.ply p).nextNeeded) {slot : Slot}
    (hk : s.slotAt k = some slot) (hopen : slot.disp = .opened) : (s.grant p).slotAt k = some slot := by
  have hne := h slot hk hopen
  unfold State.grant
  dsimp only
  split
  · exact hk
  · split
    · rw [State.slotAt_beginRender, State.slotAt_bindSlot_ne _ hne, hk]
    · rw [State.slotAt_beginRender, hk]
    · exact hk
    · exact hk

theorem State.grant_of_opened {s : State} {p : Ply} {slot : Slot}
    (h : s.slotAt (s.ply p).nextNeeded = some slot) (hd : slot.disp = .opened) :
    s.grant p = (s.bindSlot (s.ply p).nextNeeded).beginRender p (s.ply p).nextNeeded := by
  simp only [State.grant, h, hd]

theorem State.grant_of_bound {s : State} {p : Ply} {slot : Slot} {b : Binding} {m : Option SpoilMark}
    (h : s.slotAt (s.ply p).nextNeeded = some slot) (hd : slot.disp = .bound b m) :
    s.grant p = s.beginRender p (s.ply p).nextNeeded := by
  simp only [State.grant, h, hd]

theorem State.bindSlot_of_batch {s : State} {e : MakeupEntry} {rest : List MakeupEntry} {lay : Layout}
    {serial : Nat} (hb : s.batch = true) (hm : s.makeups = e :: rest)
    (hlay : s.segmentLayout e.segment = some lay) (hserial : serialUnder s.blocks lay e.value = some serial)
    (j : Nat) : s.bindSlot j = s.bindMakeup j e rest lay serial := by
  have hin : s.serialIn e.segment e.value = some serial := by rw [State.serialIn, hlay]; exact hserial
  simp only [State.bindSlot, hb, hm, hlay, hin]

/-- A bound slot is staged BLANK for the plies that its layout gives no field, as it stands. -/
theorem Slot.stagesBlank_eq {slot : Slot} {b : Binding} {m : Option SpoilMark} (h : slot.disp = .bound b m)
    {α : Type} (p : Ply) (x y : α) : (if slot.stagesBlank p = true then x else y)
      = if (slot.subs.get p).map (·.print) = some .none then x else y := by
  rw [Slot.stagesBlank, h]
  exact if_congr decide_eq_true_iff rfl rfl

/-! ### Completions (R36 to R38, R50) -/

theorem State.boundAt_of_bound {s : State} {j : Nat} {slot : Slot} {b : Binding} {m : Option SpoilMark}
    (h : s.slotAt j = some slot) (hd : slot.disp = .bound b m) : s.boundAt j = some (slot, b) := by
  simp only [State.boundAt, h, hd]

theorem Layout.numberText_length (lay : Layout) (n : Nat) : (lay.numberText n).length = lay.width := by
  rw [Layout.numberText_eq_map_range, List.length_map, List.length_range]

theorem Layout.checkText_length (lay : Layout) (n : Nat) :
    lay.prefixText.length + lay.width + (lay.checkText n).length = lay.lengthA := by
  unfold Layout.checkText Layout.checkValue Layout.lengthA
  cases lay.check <;> simp

theorem Layout.textA_length (lay : Layout) (n : Nat) : (lay.textA n).length = lay.lengthA := by
  rw [← lay.checkText_length n, Layout.textA, List.length_append, List.length_append,
    Layout.numberText_length]

theorem Layout.lengthA_bounds {lay : Layout} (h : lay.InRange) : 1 ≤ lay.lengthA ∧ lay.lengthA ≤ 16 := by
  obtain ⟨hprefix, -, hwidth, -⟩ := h
  have hsep : lay.separator.toList.length ≤ 1 := by cases lay.separator <;> simp
  unfold Layout.lengthA
  cases lay.check <;> simp only [] <;> omega

theorem splitOn_iff (c : HeadClass) (n : Nat) : splitOn c n = true ↔ c = .narrow ∧ 8 < n := by
  cases c <;> simp [splitOn]

/-- R36: the digits of a number, a leading zero of fill SPACE but the rightmost a space. -/
theorem Layout.numberText_eq_leading (lay : Layout) (n : Nat) :
    lay.numberText n = (List.range lay.width).map fun i =>
      if lay.fill = .space ∧ i + 1 < lay.width ∧ n % 10 ^ lay.width < 10 ^ (lay.width - 1 - i) then 0x20
      else BitVec.ofNat 8 (48 + n / 10 ^ (lay.width - 1 - i) % 10) := by
  rw [Layout.numberText_eq_map_range]
  refine List.map_congr_left fun i hi => ?_
  have hplace : 0 < lay.width - 1 - i ↔ i + 1 < lay.width := by omega
  have hzero : n % 10 ^ lay.width / 10 ^ (lay.width - 1 - i) = 0
      ↔ n % 10 ^ lay.width < 10 ^ (lay.width - 1 - i) := Nat.div_eq_zero_iff_lt (by positivity)
  simp only [hplace, hzero]
  rfl

/-- R38: the impressions of an image, field A before field B, each in its parts. -/
theorem composeImage_impressions (lay : Layout) (p : Ply) (c : HeadClass) (slot : Nat) (stamp : Byte)
    (n : Nat) : (composeImage lay p c slot stamp n).impressions =
      (if lay.maskA.get p = true then
        (if splitOn c lay.lengthA = true then
          [(.a1, (lay.textA n).take 8), (.a2, (lay.textA n).drop 8)] else [(.a1, lay.textA n)]) else [])
      ++ if lay.maskB.get p = true then
        (if splitOn c lay.width = true then
          [(.b1, (lay.textB n).take 8), (.b2, (lay.textB n).drop 8)] else [(.b1, lay.textB n)]) else [] := by
  rw [composeImage, Layout.selects]
  dsimp only
  rw [List.map_append]
  congr 1
  · cases lay.maskA.get p <;> cases splitOn c lay.lengthA <;> simp [fieldPart]
  · cases lay.maskB.get p <;> cases splitOn c lay.width <;> simp [fieldPart]

end Sys2Proof.Machine

namespace Sys2Proof.Proofs

open Sys2Proof.Machine

/-- Settles O18: what a record is, and its distance from the one expected, decide. -/
theorem strayRecordsAreReported : Obligations.StrayRecordsAreReported := by
  unfold Obligations.StrayRecordsAreReported
  intro p seq s htakes
  refine ⟨fun r hr hsynced hold => ?_, fun chars hlen => ?_, ?_, fun r hr hexpected hnone => ?_⟩
  · obtain ⟨result, hread⟩ := readRecord_of_readable hr
    have hahead : (s.ply p).checker.ahead seq = (seq - (s.ply p).checker.expected).toNat := if_pos hsynced
    rw [exec_readerRecord_of_read htakes hread, State.takeRecord_eq, hahead, if_pos hold]
  · exact exec_readerRecord_of_unread htakes (if_neg (by omega))
  · exact exec_readerRecord_of_unread htakes rfl
  · obtain ⟨result, hread⟩ := readRecord_of_readable hr
    rw [exec_readerRecord_of_read htakes hread, State.takeRecord_of_expected hexpected,
      State.associate_of_none (by rw [State.awaiting_modChecker, hnone])]

/-- Settles O19: what the Schedule answers for the next needed slot decides. -/
theorem stagingActsOnTheNextNeededSlot : Obligations.StagingActsOnTheNextNeededSlot := by
  unfold Obligations.StagingActsOnTheNextNeededSlot
  refine ⟨fun s => ⟨rfl, rfl, s.freshSlot_sub⟩, fun p s hrun hactive hroom hrender => ?_⟩
  intro j blank
  have hstages : exec (.stageNextSlot p) s = .next (s.stage p) :=
    congrArg Host.Outcome.next (if_pos ((s.stages_iff p).mpr ⟨hrun, hactive, hroom, hrender⟩))
  rw [hstages]
  refine ⟨fun hend hm hr => ?_, fun hend hm hr => ?_, fun slot hslot hd => ?_,
    fun slot b m hslot hd => ⟨fun hnone => ?_, fun hsome => ?_⟩, fun slot hslot hd => ?_⟩
  · rw [State.stage_of_end_le hend hm, State.create, if_pos hr]
  · rw [State.stage_of_end_le hend hm, State.create, if_neg (by simp [j] at hr; simp [hr])]
  · rw [State.stage_of_held hslot, if_pos]
    · rfl
    · obtain hd | ⟨b, r, hd⟩ := hd <;> simp [Slot.stagesBlank, hd]
  · rw [State.stage_of_held hslot, if_pos ((Slot.stagesBlank_of_bound hd p).mpr hnone)]
    rfl
  · rw [State.stage_of_held hslot, if_neg (mt (Slot.stagesBlank_of_bound hd p).mp hsome)]
  · rw [State.stage_of_held hslot, if_neg (by simp [Slot.stagesBlank, hd])]

/-- Settles O20: the chooser takes the least of the requesters in the order after the last grant; a
requester of an OPEN slot has the gate open and the slot above every head. -/
theorem arbiterChoosesTheShortestQueue : Obligations.ArbiterChoosesTheShortestQueue := by
  unfold Obligations.ArbiterChoosesTheShortestQueue
  intro s
  have hmem : ∀ p, p ∈ (pliesAfter s.lastGranted).filter s.isRequester ↔ s.isRequester p = true := by
    simp [mem_pliesAfter]
  refine ⟨⟨fun hnone p => ?_, fun hall => ?_⟩, fun p hp => ⟨State.chosen_isRequester hp, fun q hq => ?_⟩,
    fun p => ?_, ?_⟩
  · rw [← Bool.not_eq_true, ← hmem, State.shortestFirst_eq_none hnone]
    exact List.not_mem_nil
  · rw [State.chosen, List.filter_eq_nil_iff.mpr fun p _ => by simp [hall p]]
    rfl
  · exact State.shortestFirst_least ((pliesAfter_pairwise s.lastGranted).filter _) hp q ((hmem q).mpr hq)
  · rw [State.isRequester_iff, State.stages_iff]
    simp only [State.requests_iff, and_assoc, State.inRun, decide_eq_true_eq]
    rfl
  · refine ⟨_, rfl, fun j slot hslot hopen hshut => ?_⟩
    split
    · rename_i p hr hp
      refine State.slotAt_grant (fun slot' hslot' hopen' hj => ?_) hslot hopen
      obtain ⟨-, held, hheld, hrequests⟩ := (s.isRequester_iff p).mp (State.chosen_isRequester hp)
      rw [← hj, hslot'] at hheld
      obtain rfl : slot' = held := by simpa using hheld
      obtain ⟨b, m, hd, -⟩ | ⟨-, habove, hgate⟩ := (s.requests_iff p _ slot').mp hrequests
      · rw [hopen'] at hd; cases hd
      · obtain hshut | ⟨q, hq, hle⟩ := hshut
        · exact hshut hgate
        · have := habove q hq
          omega
    · exact hslot

/-- Settles O22: the batch flag has the lowest entry bound; a BOUND slot is rendered as it stands. -/
theorem grantBindsTheLowestMakeup : Obligations.GrantBindsTheLowestMakeup := by
  unfold Obligations.GrantBindsTheLowestMakeup
  intro p slot s hrender hchosen hslot j
  rw [exec_renderGrant_of_chosen hrender hchosen]
  refine ⟨fun e rest lay serial hopen hbatch hm hlay hserial => ?_, fun b m hd => ?_⟩
  · intro made
    have hmade : s.modSlot j (fun x => x.bind
        { value := e.value, serial := serial, segment := e.segment, pass := e.pass, before := none } lay)
        = s.modSlot j fun _ => made :=
      State.modSlot_congr hslot rfl
    have hheld : (s.bindMakeup j e rest lay serial).slotAt j = some made := by
      rw [State.bindMakeup, hmade, ← State.slotAt_modSlot_self hslot fun _ => made]
      exact State.slotAt_of_slots rfl rfl j
    rw [State.grant_of_opened hslot hopen, State.bindSlot_of_batch hbatch hm hlay hserial,
      State.beginRender_of_held hheld, Slot.stagesBlank_eq (slot := made) rfl, State.bindMakeup]
    simp only [hmade, hbatch, Bool.true_and]
    rfl
  · have hrequests : slot.stagesBlank p = false := by
      obtain ⟨-, held, hheld, hreq⟩ := (s.isRequester_iff p).mp (State.chosen_isRequester hchosen)
      rw [hslot] at hheld
      obtain rfl : slot = held := by simpa using hheld
      rw [State.requests, hd] at hreq
      simpa using hreq
    rw [State.grant_of_bound hslot hd, State.beginRender_of_held hslot, hrequests]
    rfl

/-- Settles O23: the currency of the slot decides whether the image joins the queue; its fields are
composed as section 2.5 says. -/
theorem completionAppendsACurrentImage : Obligations.CompletionAppendsACurrentImage := by
  unfold Obligations.CompletionAppendsACurrentImage
  refine ⟨fun r s hr => ?_, fun lay p c slot stamp n => ?_⟩
  · have hexec : exec .renderCompletion s = .next (s.completeRender r) := by
      simp only [exec, execRenderCompletion, hr]
    rw [hexec]
    refine ⟨fun slot b m lay hslot hd hstamp hneeded hlay => ?_, fun hstale => ?_⟩
    · have hcurrent : s.current r.slot r.stamp = true :=
        (s.current_iff ..).mpr ⟨slot, hslot, ⟨b, m, hd⟩, hstamp⟩
      have himage : s.renderImage r = some
          (composeImage lay r.ply (s.ply r.ply).record.headClass r.slot r.stamp b.serial) := by
        rw [State.renderImage, State.boundAt_of_bound hslot hd, Option.bind_some, hlay, Option.map_some]
      simp only [State.completeRender, hcurrent, hneeded, himage, decide_true, Bool.and_self, if_true]
    · have hno : ¬ (s.current r.slot r.stamp && decide ((s.ply r.ply).nextNeeded = r.slot)) = true := by
        rw [Bool.and_eq_true, State.current_iff, decide_eq_true_eq]
        rintro ⟨⟨slot, hslot, ⟨b, m, hd⟩, hstamp⟩, hneeded⟩
        obtain h | h := hstale
        · exact h hneeded
        · exact h slot b m hslot hd hstamp
      rw [State.completeRender]
      exact congrArg Host.Outcome.next (if_neg hno)
  · intro img leading number check a split parts inA inB
    have hnumber : lay.numberText n = number := lay.numberText_eq_leading n
    have hcheck : lay.checkText n = check := by
      dsimp only [check]
      rw [Layout.checkText]
      cases lay.checkValue n <;> rfl
    have ha : lay.textA n = a := by rw [Layout.textA, hnumber, hcheck]
    have hb : lay.textB n = number := hnumber
    have hsplitA : splitOn c lay.lengthA = true ↔ split a := by
      rw [splitOn_iff, ← lay.textA_length n, ha]
    have hsplitB : splitOn c lay.width = true ↔ split number := by
      rw [splitOn_iff, ← lay.numberText_length n, hnumber]
    refine ⟨rfl, rfl, ?_, ?_, ?_, ?_, ?_, fun h => ?_⟩
    · rw [← ha]; rfl
    · rw [← hb]; rfl
    · rw [← hsplitA]; exact Bool.and_eq_true_iff
    · rw [← hsplitB]; exact Bool.and_eq_true_iff
    · have himg := composeImage_impressions lay p c slot stamp n
      rw [ha, hb] at himg
      refine himg.trans ?_
      simp only [hsplitA, hsplitB]
      rfl
    · rw [← ha, Layout.textA_length]
      exact Layout.lengthA_bounds h

end Sys2Proof.Proofs


/-! ## A spoil under DEFER (sections 7.2 and 7.3) -/

namespace Sys2Proof.Machine

/-- What a press-side act leaves as it was. -/
theorem PressAct.frame {s t : State} (h : PressAct s t) : s.PressFrame t := ⟨h.setup, h.links⟩

theorem State.modSlot_only (s : State) (j : Nat) (f : Slot → Slot) :
    s.modSlot j f = { s with slots := (s.modSlot j f).slots } := by
  unfold State.modSlot
  split <;> rfl

theorem State.listed_iff (s : State) (v : Nat) : s.listed v = true ↔ ∃ e ∈ s.makeups, e.value = v := by
  simp [State.listed]

/-- How a join turned out, as SPOIL reports it (R125). -/
theorem State.joinMakeup_action (s : State) (e : MakeupEntry) : (s.joinMakeup e).1.action =
    if ∃ x ∈ s.makeups, x.value = e.value then .duplicate
    else if 256 ≤ s.makeups.length then .listFull else .listed := by
  simp only [← State.listed_iff]
  obtain ⟨hl, he⟩ | ⟨hl, hc, he⟩ | ⟨hl, hc, he⟩ := s.joinMakeup_cases e
  · rw [he, if_pos hl]; rfl
  · rw [he, if_neg (by simp [hl]), if_pos (show 256 ≤ s.makeups.length from hc)]; rfl
  · rw [he, if_neg (by simp [hl]), if_neg (show ¬ 256 ≤ s.makeups.length from Nat.not_le.mpr hc)]; rfl

theorem State.joinMakeup_makeups_of_room {s : State} {e : MakeupEntry}
    (h : s.listed e.value = false ∧ s.makeups.length < 256) :
    (s.joinMakeup e).2.makeups = insertEntry e s.makeups := by
  rw [State.joinMakeup_of_room h.1 h.2]
  simp

/-- A spoil of a BOUND slot that is not spoil-pending, under ROLLBACK and of no make-up. -/
theorem State.takeSpoil_of_rollback {s : State} {j : Nat} {slot : Slot} {b : Binding}
    (hslot : s.slotAt j = some slot) (hd : slot.disp = .bound b none) (hm : b.makeup = false)
    (hp : s.policy = some .rollback) (mark : SpoilMark) :
    s.takeSpoil j mark = s.rollbackSpoil j mark b := by
  simp [State.takeSpoil, hslot, hd, hm, hp]

/-- A spoil of a BOUND slot that is not spoil-pending, under DEFER or of a make-up. -/
theorem State.takeSpoil_of_defer {s : State} {j : Nat} {slot : Slot} {b : Binding}
    (hslot : s.slotAt j = some slot) (hd : slot.disp = .bound b none)
    (h : b.makeup = true ∨ s.policy ≠ some .rollback) (mark : SpoilMark) :
    s.takeSpoil j mark = s.deferSpoil j mark b := by
  have hno : ¬ ((!b.makeup && decide (s.policy = some .rollback)) = true) := by
    obtain h | h := h <;> simp [h]
  simp only [State.takeSpoil, hslot, hd, if_neg hno]

/-- The entry a spoil that is not rolled back lists (R127, R128). -/
def Binding.spoilEntry (b : Binding) (j : Nat) : MakeupEntry :=
  ⟨b.value, b.segment, b.pass, if b.makeup then none else some j⟩

theorem State.deferSpoil_eq (s : State) (j : Nat) (mark : SpoilMark) (b : Binding) :
    s.deferSpoil j mark b =
      ((s.modSlot j fun slot => slot.setSpoilPending mark).joinMakeup (b.spoilEntry j)).2.notify
        (.spoil j mark b ((s.modSlot j fun slot => slot.setSpoilPending mark).joinMakeup
          (b.spoilEntry j)).1.action) := rfl

theorem Slot.setSpoilPending_of_bound {slot : Slot} {b : Binding} {m : Option SpoilMark}
    (h : slot.disp = .bound b m) (mark : SpoilMark) :
    slot.setSpoilPending mark = { slot with disp := .bound b (some mark) } := by
  rw [Slot.setSpoilPending, h]

namespace State.Joined

variable {s t : State}

/-- The causes and run state where the joins hold a run that issues. -/
theorem held_of_high (h : s.Joined t) (hlt : s.makeups.length < t.makeups.length)
    (hhigh : 128 ≤ t.makeups.length) (hflag : s.flagAtHigh s.batch s.makeups.length = false)
    (hrun : s.runState = .running ∨ s.runState = .held) :
    t.runState = .held ∧ t.causes = { s.causes with makeups := true } :=
  h.holds ((joinsHold_iff ..).mpr ⟨hlt, hhigh, hflag, (State.issuing_iff s).mpr hrun⟩)

theorem marriageSlot (h : s.Joined t) : t.marriageSlot = s.marriageSlot := by rw [h.rest]
theorem endMakeups (h : s.Joined t) : t.endMakeups = s.endMakeups := by rw [h.rest]
theorem policy (h : s.Joined t) : t.policy = s.policy := by rw [h.rest]

end State.Joined

/-- Settles O30: the act is one join and one notice; what the join does is `Joined`. -/
theorem deferSpoilListsTheValue : Obligations.DeferSpoilListsTheValue := by
  unfold Obligations.DeferSpoilListsTheValue
  intro j mark slot b s hslot hd hpolicy t joins high
  have hframe : s.PressFrame t := (PressAct.takeSpoil s j mark).frame
  have htake : t = s.deferSpoil j mark b := State.takeSpoil_of_defer hslot hd hpolicy mark
  rw [State.deferSpoil_eq] at htake
  have hself := State.slotAt_modSlot_self hslot fun slot => slot.setSpoilPending mark
  have hother : ∀ i, i ≠ j → (s.modSlot j fun slot => slot.setSpoilPending mark).slotAt i = s.slotAt i :=
    fun i hi => s.slotAt_modSlot_ne hi _
  rw [Slot.setSpoilPending_of_bound hd] at hself
  have hpending := s.modSlot_only j fun slot => slot.setSpoilPending mark
  generalize s.modSlot j (fun slot => slot.setSpoilPending mark) = s1 at htake hself hother hpending
  have hjoined := s1.joinMakeup_joined (b.spoilEntry j)
  have haction := s1.joinMakeup_action (b.spoilEntry j)
  have hroom := s1.joinMakeup_makeups_of_room (e := b.spoilEntry j)
  have hnot := State.joinMakeup_of_not (s := s1) (e := b.spoilEntry j)
  rw [haction] at htake
  generalize (s1.joinMakeup (b.spoilEntry j)).2 = s2 at *
  have hmakeups1 : s1.makeups = s.makeups := by rw [hpending]
  have hlisted1 : ∀ v, s1.listed v = s.listed v := fun v => by rw [hpending]; rfl
  have hbatch1 : s1.batch = s.batch := by rw [hpending]
  have hsets1 : s1.joinSetsFlag = s.joinSetsFlag := by rw [hpending]; rfl
  have hrun1 : s1.runState = s.runState := by rw [hpending]
  have hcauses1 : s1.causes = s.causes := by rw [hpending]
  have hnotices1 : s1.notices = s.notices := by rw [hpending]
  have hsent1 : s1.joinNotices s1.batch s1.makeups.length = s.joinNotices s.batch s.makeups.length := by
    rw [hpending]; rfl
  have hflag1 : s1.flagAtHigh = s.flagAtHigh := by rw [hpending]; rfl
  have hrun : t.runState = s2.runState := by rw [htake, State.notify_runState]
  have hcauses : t.causes = s2.causes := by rw [htake, State.notify_causes]
  have hmakeups : t.makeups = s2.makeups := by rw [htake, State.notify_makeups]
  have hslots : ∀ i, t.slotAt i = s1.slotAt i := fun i => State.slotAt_of_slots
    (by rw [htake, State.notify_slots, hjoined.slots])
    (by rw [htake, State.notify_marriageSlot, hjoined.marriageSlot]) i
  have hadded : joins → s2.makeups = insertEntry (b.spoilEntry j) s.makeups := by
    intro h
    rw [← hmakeups1]
    exact hroom ⟨(hlisted1 _).trans h.1, by rw [hmakeups1]; exact h.2⟩
  have hkept : ¬ joins → s2 = s1 := fun h => hnot fun k =>
    h ⟨(hlisted1 _).symm.trans k.1, by rw [← hmakeups1]; exact k.2⟩
  have hgrown : s1.makeups.length < s2.makeups.length ↔ joins := by
    by_cases h : joins
    · simp [hadded h, h, hmakeups1]
    · simp [hkept h, h]
  have hnotices : s.notices.length ≤ 45 → s2.notices = s.notices
      ++ s.joinNotices s.batch s.makeups.length t.makeups.length := by
    intro hfew
    have hle := s1.joinNotices_length_le s1.batch s1.makeups.length s2.makeups.length
    rw [hjoined.notices (by rw [hnotices1]; omega), hnotices1, hsent1, hmakeups]
  have hqueue : s.notices.length ≤ 45 → t.notices = s.notices
      ++ s.joinNotices s.batch s.makeups.length t.makeups.length
      ++ [⟨.spoil j mark b (if ∃ e ∈ s.makeups, e.value = b.value then .duplicate
          else if 256 ≤ s.makeups.length then .listFull else .listed), .owner⟩] := by
    intro hfew
    have hle := s.joinNotices_length_le s.batch s.makeups.length t.makeups.length
    have hs2 := hnotices hfew
    rw [htake, State.notify_notices (by rw [hs2, List.length_append]; omega), ← htake, hs2, hmakeups1]
    rfl
  refine ⟨?_, ?_, ?_, ?_, ?_, ?_, ?_, hqueue, ?_, ?_, ?_, ?_, hframe⟩
  · rw [hslots, hself]
  · intro i hi
    rw [hslots, hother i hi]
  · intro h
    exact hmakeups.trans (hadded h)
  · intro h
    rw [hmakeups, hkept h, hmakeups1]
  · rintro ⟨hjoins, hhigh, hflag⟩ hissuing
    rw [hrun, hcauses, ← hcauses1]
    have hlen : s2.makeups.length = s.makeups.length + 1 := by rw [hadded hjoins, insertEntry_length]
    refine hjoined.held_of_high (hgrown.mpr hjoins) (by omega) ?_ (by rwa [hrun1])
    rw [State.flagAtHigh_eq, hbatch1, hflag, hmakeups1, decide_eq_false (by omega)]
    rfl
  · intro h
    rw [hrun, hcauses, ← hrun1, ← hcauses1]
    refine hjoined.same (Bool.eq_false_iff.mpr fun hyes => ?_)
    obtain ⟨hlt, hhigh, hflag, hissuing⟩ := (State.Joined.joinsHold_iff ..).mp hyes
    have hjoins := hgrown.mp hlt
    rw [hadded hjoins, insertEntry_length] at hhigh
    rw [State.flagAtHigh_eq, hbatch1, Bool.or_eq_false_iff] at hflag
    rw [State.issuing_iff, hrun1] at hissuing
    obtain h | h | h := h
    · exact h ⟨hjoins, hhigh, hflag.1⟩
    · simp [h] at hissuing
    · simp [h] at hissuing
  · intro hjoins hlen hfew
    rw [hqueue hfew, hmakeups, hadded hjoins, insertEntry_length, hlen]
    simp [State.joinNotices, State.flagAtHigh_eq]
  · rw [htake, State.notify_batch, hjoined.batch, hbatch1, hsets1, State.joinSetsFlag,
      decide_eq_decide.mpr hgrown, Bool.and_assoc]
  · rw [htake, State.notify_cursor, hjoined.cursor, hpending]
  · rw [htake, State.notify_plies, hjoined.plies, hpending]
  · rw [htake, State.notify_tallies, hjoined.tallies, hpending]

end Sys2Proof.Machine


/-! ## The bookkeeping of a rewind and of an abort (R130, R131, R141) -/

namespace Sys2Proof.Machine

/-- A binding undone as the bookkeeping reads it. -/
def undoneOf (u : Binding × Option SpoilMark) : Undone := ⟨u.1, u.2.isSome⟩

/-- The list with an entry joined, where it may join (R135). -/
def joinEntry (l : List MakeupEntry) (e : MakeupEntry) : List MakeupEntry :=
  if l.any (fun x => decide (x.value = e.value)) || decide (256 ≤ l.length) then l else insertEntry e l

theorem correctedList_eq (undone : List (Binding × Option SpoilMark)) (l : List MakeupEntry) :
    correctedList undone l = (entriesBack undone).foldl joinEntry (entriesKept undone l) := rfl

theorem State.joinMakeup_makeups (s : State) (e : MakeupEntry) :
    (s.joinMakeup e).2.makeups = joinEntry s.makeups e := by
  by_cases h : s.listed e.value = false ∧ s.makeups.length < 256
  · have hno : ¬ (s.listed e.value || decide (256 ≤ s.makeups.length)) = true := by simp [h.1]; omega
    rw [State.joinMakeup_makeups_of_room h]
    exact (if_neg hno).symm
  · have hyes : (s.listed e.value || decide (256 ≤ s.makeups.length)) = true := by
      rw [Bool.or_eq_true, decide_eq_true_eq]
      by_contra hno
      exact h ⟨by simpa using fun hl => hno (.inl hl), by omega⟩
    rw [State.joinMakeup_of_not h]
    exact (if_pos hyes).symm

/-- Whether a value joined, read from the length of the list. -/
theorem State.joinMakeup_counts (s : State) (e : MakeupEntry) :
    ((s.joinMakeup e).1 = .joined ∧ (s.joinMakeup e).2.makeups.length = s.makeups.length + 1)
    ∨ ((s.joinMakeup e).1 ≠ .joined ∧ (s.joinMakeup e).2.makeups.length = s.makeups.length) := by
  obtain ⟨-, he⟩ | ⟨-, -, he⟩ | ⟨-, -, he⟩ := s.joinMakeup_cases e <;> simp [he]

theorem State.joinAll_cons (e : MakeupEntry) (es : List MakeupEntry) (s : State) :
    (State.joinAll (e :: es) s).2.2 = (State.joinAll es (s.joinMakeup e).2).2.2
    ∧ ((s.joinMakeup e).1 = .joined →
      (State.joinAll (e :: es) s).1 = (State.joinAll es (s.joinMakeup e).2).1 + 1
      ∧ (State.joinAll (e :: es) s).2.1 = (State.joinAll es (s.joinMakeup e).2).2.1)
    ∧ ((s.joinMakeup e).1 ≠ .joined →
      (State.joinAll (e :: es) s).1 = (State.joinAll es (s.joinMakeup e).2).1
      ∧ (State.joinAll (e :: es) s).2.1 = (State.joinAll es (s.joinMakeup e).2).2.1 + 1) := by
  rw [State.joinAll]
  obtain ⟨result, s1⟩ := s.joinMakeup e
  cases result <;> simp

theorem State.joinAll_joined (es : List MakeupEntry) (s : State) :
    s.Joined (State.joinAll es s).2.2 := by
  induction es generalizing s with
  | nil => exact .refl s
  | cons e es ih =>
    rw [(State.joinAll_cons e es s).1]
    exact (s.joinMakeup_joined e).trans (ih _)

theorem State.joinAll_makeups (es : List MakeupEntry) (s : State) :
    (State.joinAll es s).2.2.makeups = es.foldl joinEntry s.makeups := by
  induction es generalizing s with
  | nil => rfl
  | cons e es ih => rw [(State.joinAll_cons e es s).1, ih, State.joinMakeup_makeups, List.foldl_cons]

/-- The numbers returned and not added, read from the lengths of the lists. -/
theorem State.joinAll_counts (es : List MakeupEntry) (s : State) :
    (State.joinAll es s).2.2.makeups.length = s.makeups.length + (State.joinAll es s).1
    ∧ es.length = (State.joinAll es s).1 + (State.joinAll es s).2.1 := by
  induction es generalizing s with
  | nil => exact ⟨rfl, rfl⟩
  | cons e es ih =>
    obtain ⟨hstate, hin, hout⟩ := State.joinAll_cons e es s
    obtain ⟨hlen, hsum⟩ := ih (s.joinMakeup e).2
    obtain ⟨hj, hone⟩ | ⟨hj, hone⟩ := s.joinMakeup_counts e
    · obtain ⟨h1, h2⟩ := hin hj
      rw [hstate, h1, h2, List.length_cons]
      omega
    · obtain ⟨h1, h2⟩ := hout hj
      rw [hstate, h1, h2, List.length_cons]
      omega

/-- What the bookkeeping of a rewind or an abort leaves: the list, flag and cursor corrected, with the
cause and notices that the joins give; everything else is as it was. -/
structure State.Booked (s t : State) (undone : List (Binding × Option SpoilMark)) : Prop where
  rest : t = { s with
    makeups := t.makeups, batch := t.batch, runState := t.runState, causes := t.causes
    notices := t.notices, withheld := t.withheld, cursor := t.cursor }
  list : s.ListCorrected t undone
  cursor : t.cursor = s.cursor.map (restored undone)
  held : s.HeldByJoins t (s.batch && !(entriesKept undone s.makeups).isEmpty)
    (entriesKept undone s.makeups).length t.makeups.length
  notices : s.notices.length + 2 ≤ 48 → t.notices = s.notices
    ++ s.joinNotices (s.batch && !(entriesKept undone s.makeups).isEmpty)
      (entriesKept undone s.makeups).length t.makeups.length

namespace State.Booked

variable {s t : State} {undone : List (Binding × Option SpoilMark)}

theorem makeups (h : s.Booked t undone) : t.makeups = correctedList undone s.makeups := h.list.1
theorem slots (h : s.Booked t undone) : t.slots = s.slots := by rw [h.rest]
theorem plies (h : s.Booked t undone) : t.plies = s.plies := by rw [h.rest]
theorem marriageSlot (h : s.Booked t undone) : t.marriageSlot = s.marriageSlot := by rw [h.rest]
theorem tallies (h : s.Booked t undone) : t.tallies = s.tallies := by rw [h.rest]

/-- Where no value is given back, the run stands as it was. -/
theorem same (h : s.Booked t undone) (hnone : entriesBack undone = []) :
    t.runState = s.runState ∧ t.causes = s.causes := by
  have hlen : t.makeups = entriesKept undone s.makeups := by
    rw [h.makeups, correctedList_eq, hnone, List.foldl_nil]
  have hheld := h.held
  rwa [State.HeldByJoins, hlen, State.joinsHold_self, if_neg (by decide)] at hheld

/-- The setting of the list, the flag and the cursor does not read the slots or the plies. -/
theorem of_window {s₀ : State} {l : List Slot} {ps : PerPly PlyState}
    (h0 : s₀ = { s with slots := l, plies := ps }) (h : s₀.Booked t undone) :
    s.ListCorrected t undone ∧ t.cursor = s.cursor.map (restored undone)
    ∧ s.HeldByJoins t (s.batch && !(entriesKept undone s.makeups).isEmpty)
      (entriesKept undone s.makeups).length t.makeups.length
    ∧ (s.notices.length + 2 ≤ 48 → t.notices = s.notices
      ++ s.joinNotices (s.batch && !(entriesKept undone s.makeups).isEmpty)
        (entriesKept undone s.makeups).length t.makeups.length) := by
  subst h0
  exact ⟨h.list, h.cursor, h.held, h.notices⟩

end State.Booked

theorem State.removeRecalled_eq (s : State) (undone : List (Binding × Option SpoilMark)) :
    s.removeRecalled (undone.map undoneOf) = { s with
      makeups := entriesKept undone s.makeups
      batch := s.batch && !(entriesKept undone s.makeups).isEmpty } := by
  have h := s.removeRecalled_makeups undone
  unfold State.removeRecalled at h ⊢
  exact congrArg (fun l : List MakeupEntry => { s with makeups := l, batch := s.batch && !l.isEmpty }) h

/-- The cursor put back where there is a restore point. -/
def State.restoreTo (s : State) : Option CursorBefore → State
  | some cb => s.restoreCursor cb
  | none => s

theorem State.bookkeeping_state (s : State) (us : List Undone) : (s.bookkeeping us).1
    = (State.joinAll (givenBack us) (s.removeRecalled us)).2.2.restoreTo (restorePoint us) := by
  unfold State.bookkeeping
  dsimp only
  cases restorePoint us <;> rfl

theorem State.bookkeeping_counts (s : State) (us : List Undone) : (s.bookkeeping us).2
    = ((State.joinAll (givenBack us) (s.removeRecalled us)).1,
      (State.joinAll (givenBack us) (s.removeRecalled us)).2.1,
      s.makeups.length - (s.removeRecalled us).makeups.length) := by
  rfl

theorem State.restoreTo_eq (s : State) (undone : List (Binding × Option SpoilMark)) :
    s.restoreTo (undone.findSome? (·.1.before)) = { s with cursor := s.cursor.map (restored undone) } := by
  cases h : undone.findSome? (·.1.before) with
  | none =>
    have hid : restored undone = id := by funext c; simp [restored, h]
    rw [hid, Option.map_id, id]
    rfl
  | some cb =>
    have hto : restored undone = fun c =>
        { state := if c.state = .closed then .closed else .active
          segment := cb.segment, pass := cb.pass, next := cb.next, issued := cb.issued } := by
      funext c; simp [restored, h]
    rw [hto]
    rfl

/-- R130, R131: the bookkeeping, as the statements say it. -/
theorem State.bookkeeping_booked (s : State) (undone : List (Binding × Option SpoilMark)) :
    s.Booked (s.bookkeeping (undone.map undoneOf)).1 undone := by
  have hback : givenBack (undone.map undoneOf) = entriesBack undone := givenBack_eq undone
  have hpoint : restorePoint (undone.map undoneOf) = undone.findSome? (·.1.before) :=
    restorePoint_eq undone
  rw [State.bookkeeping_state, hback, hpoint, State.restoreTo_eq, State.removeRecalled_eq]
  have hjoined := State.joinAll_joined (entriesBack undone) { s with
      makeups := entriesKept undone s.makeups
      batch := s.batch && !(entriesKept undone s.makeups).isEmpty }
  have hmakeups := State.joinAll_makeups (entriesBack undone) { s with
      makeups := entriesKept undone s.makeups
      batch := s.batch && !(entriesKept undone s.makeups).isEmpty }
  generalize (State.joinAll (entriesBack undone) _).2.2 = t at hjoined hmakeups
  have hcursor : t.cursor = s.cursor := hjoined.cursor
  constructor
  case rest =>
    exact congrArg (fun v : State => { v with cursor := t.cursor.map (restored undone) }) hjoined.rest
  case list =>
    refine ⟨hmakeups, hjoined.batch.trans ?_⟩
    dsimp only
    rw [State.joinSetsFlag, Bool.and_assoc]
  case cursor => dsimp only; rw [hcursor]
  case held => exact hjoined.held
  case notices =>
    intro hroom
    refine hjoined.notices ?_
    have hle := s.joinNotices_length_le (s.batch && !(entriesKept undone s.makeups).isEmpty)
      (entriesKept undone s.makeups).length t.makeups.length
    exact (Nat.add_le_add_left hle _).trans hroom

/-- The numbers of the bookkeeping, as ROLLBACK and SKIP-INSERT report them. -/
theorem State.bookkeeping_numbers (s : State) (undone : List (Binding × Option SpoilMark)) :
    let t := (s.bookkeeping (undone.map undoneOf)).1
    (s.bookkeeping (undone.map undoneOf)).2 =
      (t.makeups.length - (entriesKept undone s.makeups).length,
        (entriesBack undone).length - (t.makeups.length - (entriesKept undone s.makeups).length),
        s.makeups.length - (entriesKept undone s.makeups).length) := by
  intro t
  have hback : givenBack (undone.map undoneOf) = entriesBack undone := givenBack_eq undone
  have hpoint : restorePoint (undone.map undoneOf) = undone.findSome? (·.1.before) :=
    restorePoint_eq undone
  have ht : t.makeups = (State.joinAll (entriesBack undone)
      (s.removeRecalled (undone.map undoneOf))).2.2.makeups := by
    dsimp only [t]
    rw [State.bookkeeping_state, hback, hpoint, State.restoreTo_eq]
  have hkept : (s.removeRecalled (undone.map undoneOf)).makeups = entriesKept undone s.makeups := by
    rw [State.removeRecalled_eq]
  obtain ⟨hlen, hsum⟩ := State.joinAll_counts (entriesBack undone)
    (s.removeRecalled (undone.map undoneOf))
  rw [State.bookkeeping_counts, hback, ht, hlen, hkept, hsum]
  simp

end Sys2Proof.Machine


/-! ## The rewind (section 7.4) -/

namespace Sys2Proof.Machine

/-! ### What it makes of a slot (R129, R10) -/

theorem PrintState.atVoid_eq : PrintState.atVoid = fun k => if k = .pending then .notPrinted else k := by
  funext k; cases k <;> rfl

theorem PrintState.atSkip_eq :
    PrintState.atSkip = fun k => if k = .pending ∨ k = .none then .notPrinted else k := by
  funext k; cases k <;> rfl

theorem PrintState.atOpen_eq : PrintState.atOpen = fun k => if k = .none then .pending else k := by
  funext k; cases k <;> rfl

theorem Slot.makeVoid_of_bound {x : Slot} {b : Binding} {m : Option SpoilMark} (h : x.disp = .bound b m)
    (r : VoidReason) : x.makeVoid r =
      { x.mapPrint (fun k => if k = .pending then .notPrinted else k) with disp := .void b r } := by
  rw [Slot.makeVoid, h, PrintState.atVoid_eq]

theorem Slot.makeSkip_eq (x : Slot) : x.makeSkip =
    { x.mapPrint (fun k => if k = .pending ∨ k = .none then .notPrinted else k) with disp := .skip } := by
  rw [Slot.makeSkip, PrintState.atSkip_eq]

theorem Slot.makeOpen_eq (x : Slot) : x.makeOpen =
    { x.mapPrint (fun k => if k = .none then .pending else k) with disp := .opened } := by
  rw [Slot.makeOpen, PrintState.atOpen_eq]

theorem Slot.isBound_of_disp {x : Slot} {b : Binding} {m : Option SpoilMark} (h : x.disp = .bound b m) :
    x.isBound = true := by rw [Slot.isBound, h]

theorem Slot.isBound_iff (x : Slot) : x.isBound = true ↔ ∃ b m, x.disp = .bound b m := by
  unfold Slot.isBound
  cases x.disp <;> simp

theorem Slot.makeVoid_of_not_bound {x : Slot} (h : x.isBound = false) (r : VoidReason) :
    x.makeVoid r = x := by
  unfold Slot.makeVoid
  unfold Slot.isBound at h
  cases hd : x.disp <;> simp [hd] at h ⊢

section Rewound

variable {x : Slot} {above : Bool}

theorem Slot.rewound_of_not_bound (h : x.isBound = false) : x.rewound above = x := by
  simp [Slot.rewound, h]

theorem Slot.rewound_of_touched (h : x.isBound = true) (ht : x.touched = true) :
    x.rewound above = x.makeVoid .collateral := by simp [Slot.rewound, h, ht]

theorem Slot.rewound_of_above (h : x.isBound = true) (ht : x.touched = false) :
    x.rewound true = x.makeOpen := by simp [Slot.rewound, h, ht]

theorem Slot.rewound_of_reached (h : x.isBound = true) (ht : x.touched = false) :
    x.rewound false = x.makeSkip := by simp [Slot.rewound, h, ht]

theorem Slot.rewound_cases (x : Slot) (above : Bool) :
    (x.isBound = false ∧ x.rewound above = x)
    ∨ (x.isBound = true ∧ x.touched = true ∧ x.rewound above = x.makeVoid .collateral)
    ∨ (x.isBound = true ∧ x.touched = false ∧ above = true ∧ x.rewound above = x.makeOpen)
    ∨ (x.isBound = true ∧ x.touched = false ∧ above = false ∧ x.rewound above = x.makeSkip) := by
  cases hb : x.isBound <;> cases ht : x.touched <;> cases above <;> simp [Slot.rewound, hb, ht]

theorem Slot.makeVoid_disp {b : Binding} {m : Option SpoilMark} (h : x.disp = .bound b m)
    (r : VoidReason) : (x.makeVoid r).disp = .void b r := by rw [Slot.makeVoid_of_bound h]

/-- Nothing stays BOUND that a rewind has gone over. -/
theorem Slot.rewound_not_bound (x : Slot) (above : Bool) : (x.rewound above).isBound = false := by
  obtain ⟨hb, he⟩ | ⟨hb, -, he⟩ | ⟨-, -, -, he⟩ | ⟨-, -, -, he⟩ := x.rewound_cases above
  · rw [he, hb]
  · obtain ⟨b, m, hd⟩ := x.isBound_iff.mp hb
    rw [he, Slot.isBound, Slot.makeVoid_disp hd]
  · rw [he]; rfl
  · rw [he]; rfl

theorem Slot.makeVoid_stamp (x : Slot) (r : VoidReason) : (x.makeVoid r).stamp = x.stamp := by
  unfold Slot.makeVoid
  split <;> rfl

/-- R4: the stamp stays. -/
theorem Slot.rewound_stamp (x : Slot) (above : Bool) : (x.rewound above).stamp = x.stamp := by
  obtain ⟨-, he⟩ | ⟨-, -, he⟩ | ⟨-, -, -, he⟩ | ⟨-, -, -, he⟩ := x.rewound_cases above <;> rw [he]
  · exact x.makeVoid_stamp _
  · rfl
  · rfl

end Rewound

/-! ### What it makes of the window -/

theorem State.slotAt_add (s : State) (n : Nat) : s.slotAt (s.marriageSlot + n) = s.slots[n]? := by
  simp only [State.slotAt, State.lookup, Nat.not_lt.mpr (Nat.le_add_right _ n), if_false,
    Nat.add_sub_cancel_left]
  cases s.slots[n]? <;> rfl

theorem State.slotAt_of_lt {s : State} {i : Nat} (h : i < s.marriageSlot) : s.slotAt i = none := by
  simp [State.slotAt, State.lookup, h]

theorem State.rewind_slots (s : State) (u : Nat) (init : Option Undone) :
    (s.rewind u init).1.slots = (s.rewindSlots u).slots
    ∧ (s.rewind u init).1.marriageSlot = s.marriageSlot := by
  obtain ⟨us, hus⟩ : ∃ us, (s.rewind u init).1 = ((s.rewindSlots u).bookkeeping us).1.flush u := ⟨_, rfl⟩
  have hjoined := State.joinAll_joined (givenBack us) ((s.rewindSlots u).removeRecalled us)
  rw [hus, State.bookkeeping_state]
  generalize (State.joinAll (givenBack us) ((s.rewindSlots u).removeRecalled us)).2.2 = t at hjoined
  have hslots : t.slots = (s.rewindSlots u).slots := hjoined.slots
  have hmarriage : t.marriageSlot = s.marriageSlot := hjoined.marriageSlot
  cases restorePoint us <;> exact ⟨hslots, hmarriage⟩

theorem State.slotAt_rewind (s : State) (u : Nat) (init : Option Undone) (i : Nat) :
    (s.rewind u init).1.slotAt i
      = (s.slotAt i).map fun x => if u ≤ i then x.rewound (s.aboveHeads i) else x := by
  obtain ⟨hslots, hmarriage⟩ := s.rewind_slots u init
  rw [State.slotAt_of_slots (s := s.rewindSlots u) hslots hmarriage]
  obtain hlow | hm := Nat.lt_or_ge i s.marriageSlot
  · rw [State.slotAt_of_lt hlow, State.slotAt_of_lt (s := s.rewindSlots u) hlow]
    rfl
  · obtain ⟨n, rfl⟩ := Nat.exists_eq_add_of_le hm
    rw [State.slotAt_add, show s.marriageSlot = (s.rewindSlots u).marriageSlot from rfl,
      State.slotAt_add, State.rewindSlots, List.getElem?_mapIdx]

/-- A state that differs in its window and plies alone, and there not in the slots from `u` on, nor in
what a rewind from `u` reads of the plies. -/
structure State.SameFrom (s s₀ : State) (u : Nat) : Prop where
  rest : s₀ = { s with slots := s₀.slots, plies := s₀.plies }
  length : s₀.slots.length = s.slots.length
  above : ∀ i, u ≤ i → s₀.slotAt i = s.slotAt i
  active : ∀ q, s₀.active q = s.active q
  headSlot : ∀ q, (s₀.ply q).unit.headSlot = (s.ply q).unit.headSlot

namespace State.SameFrom

variable {s s₀ : State} {u : Nat}

theorem marriageSlot (h : s.SameFrom s₀ u) : s₀.marriageSlot = s.marriageSlot := by rw [h.rest]

theorem drop_slots (h : s.SameFrom s₀ u) :
    s₀.slots.drop (u - s.marriageSlot) = s.slots.drop (u - s.marriageSlot) := by
  apply List.ext_getElem?
  intro k
  have habove := h.above (s.marriageSlot + (u - s.marriageSlot + k)) (by omega)
  rwa [State.slotAt_add, ← h.marriageSlot, State.slotAt_add, h.marriageSlot, ← List.getElem?_drop,
    ← List.getElem?_drop] at habove

theorem aboveHeads_iff (h : s.SameFrom s₀ u) (i : Nat) :
    s₀.aboveHeads i = true ↔ ∀ q, s.active q = true → (s.ply q).unit.headSlot < i := by
  rw [State.aboveHeads_iff]
  simp only [h.active, h.headSlot]

/-- R129: what the rewind makes of the slots from `u` on. -/
theorem slotsRewound (h : s.SameFrom s₀ u) {t : State} (init : Option Undone)
    (ht : ∀ i, t.slotAt i = (s₀.rewind u init).1.slotAt i) : s.SlotsRewound t u := by
  intro i x hi hx becomes
  have hslot : t.slotAt i = some (x.rewound (s₀.aboveHeads i)) := by
    rw [ht, State.slotAt_rewind, h.above i hi, hx, Option.map_some, if_pos hi]
  refine ⟨fun hno => ?_, fun b m hd => ⟨fun ht => ?_, fun ht hreached => ?_, fun ht habove => ?_⟩⟩
  · have hb : x.isBound = false := by
      rw [← Bool.not_eq_true, Slot.isBound_iff]
      rintro ⟨b, m, hd⟩
      exact hno b m hd
    rw [hslot, Slot.rewound_of_not_bound hb]
  · dsimp only [becomes]
    rw [hslot, Slot.rewound_of_touched (Slot.isBound_of_disp hd) (x.touched_iff.mpr ht),
      Slot.makeVoid_of_bound hd]
  · have hnot : s₀.aboveHeads i = false := by
      rw [← Bool.not_eq_true, h.aboveHeads_iff]
      obtain ⟨q, hq, hle⟩ := hreached
      exact fun hall => absurd (hall q hq) (Nat.not_lt.mpr hle)
    dsimp only [becomes]
    rw [hslot, hnot, Slot.rewound_of_reached (Slot.isBound_of_disp hd)
      (by rw [← Bool.not_eq_true, Slot.touched_iff]; exact ht), Slot.makeSkip_eq]
  · dsimp only [becomes]
    rw [hslot, (h.aboveHeads_iff i).mpr habove, Slot.rewound_of_above (Slot.isBound_of_disp hd)
      (by rw [← Bool.not_eq_true, Slot.touched_iff]; exact ht), Slot.makeOpen_eq]

end State.SameFrom

/-- Nothing from `u` on stays BOUND. -/
theorem State.rewind_unbound {s : State} {u i : Nat} (hi : u ≤ i) {init : Option Undone} {x : Slot}
    (hx : (s.rewind u init).1.slotAt i = some x) : x.isBound = false := by
  rw [State.slotAt_rewind] at hx
  obtain ⟨y, -, rfl⟩ := Option.map_eq_some_iff.mp hx
  rw [if_pos hi]
  exact y.rewound_not_bound _

theorem State.rewind_stamp (s : State) (u i : Nat) (init : Option Undone) :
    ((s.rewind u init).1.slotAt i).map (·.stamp) = (s.slotAt i).map (·.stamp) := by
  rw [State.slotAt_rewind, Option.map_map]
  congr 1
  funext x
  simp only [Function.comp]
  split
  · exact x.rewound_stamp _
  · rfl

/-! ### What it reports: the slots it changed -/

/-- The slots from `u` on among slots from set index `m` on. -/
theorem filterMap_boundFrom (u : Nat) (slots : List Slot) (m : Nat) :
    ((slots.zipIdx m).filter fun x => decide (u ≤ x.2) && x.1.isBound).filterMap (fun x => x.1.undone)
      = (slots.drop (u - m)).filterMap Slot.undone := by
  have hskip : ∀ x : Slot, x.isBound = false → x.undone = none := by
    intro x hx
    unfold Slot.isBound at hx
    unfold Slot.undone
    cases hd : x.disp <;> simp [hd] at hx ⊢
  induction slots generalizing m with
  | nil => simp
  | cons a l ih =>
    rw [List.zipIdx_cons, List.filter_cons]
    obtain hu | hu := (Nat.lt_or_ge m u).symm
    · have hd : u - m = 0 := by omega
      have hd' : u - (m + 1) = 0 := by omega
      have ihm := ih (m + 1)
      rw [hd', List.drop_zero] at ihm
      rw [hd, List.drop_zero, List.filterMap_cons]
      cases hb : a.isBound with
      | true => simp [hu, List.filterMap_cons, ihm]
      | false => simp [hskip a hb, ihm]
    · have hd : u - m = (u - (m + 1)) + 1 := by omega
      simp only [decide_eq_false (Nat.not_le.mpr hu), Bool.false_and, Bool.false_eq_true, if_false, hd,
        List.drop_succ_cons, ih]

/-- The slots from `u` on that are BOUND and of a kind as a change leaves them. -/
theorem countP_changed (u : Nat) (kind : Disposition → Bool) (change : Nat → Slot → Slot)
    (slots : List Slot) (m : Nat) :
    ((slots.zip (slots.mapIdx fun i x => if u ≤ m + i then change (m + i) x else x)).drop (u - m)).countP
        (fun x => x.1.isBound && kind x.2.disp)
      = (((slots.zipIdx m).filter fun x => decide (u ≤ x.2) && x.1.isBound).filter
        fun x => kind (change x.2 x.1).disp).length := by
  induction slots generalizing m with
  | nil => simp
  | cons a l ih =>
    have hindex : (fun i x => if u ≤ m + (i + 1) then change (m + (i + 1)) x else x)
        = fun i x => if u ≤ m + 1 + i then change (m + 1 + i) x else x := by
      funext i x
      rw [Nat.add_comm i 1, ← Nat.add_assoc]
    rw [List.zipIdx_cons, List.filter_cons, List.mapIdx_cons, List.zip_cons_cons, hindex, Nat.add_zero]
    obtain hu | hu := (Nat.lt_or_ge m u).symm
    · have hd : u - m = 0 := by omega
      have hd' : u - (m + 1) = 0 := by omega
      have ihm := ih (m + 1)
      rw [hd', List.drop_zero] at ihm
      rw [hd, List.drop_zero, List.countP_cons, ihm]
      cases hb : a.isBound <;> cases hk : kind (change m a).disp <;> simp [hu, hk]
    · have hd : u - m = (u - (m + 1)) + 1 := by omega
      simp only [decide_eq_false (Nat.not_le.mpr hu), Bool.false_and, Bool.false_eq_true, if_false, hd,
        List.drop_succ_cons, ih]

/-- Whether a disposition is VOID, as `madeAbove` tests it. -/
def Disposition.isVoid (d : Disposition) : Bool := match d with
  | .void _ _ => true
  | .bound _ _ => false
  | .opened => false
  | .skip => false

/-- The kinds that ROLLBACK counts, of a slot a rewind has gone over. -/
theorem Slot.rewound_kinds {x : Slot} (hb : x.isBound = true) (above : Bool) :
    (x.rewound above).disp.isVoid = x.touched
    ∧ decide ((x.rewound above).disp = .skip) = (!x.touched && !above)
    ∧ decide ((x.rewound above).disp = .opened) = (!x.touched && above) := by
  obtain ⟨b, m, hd⟩ := x.isBound_iff.mp hb
  obtain ⟨hb', -⟩ | ⟨-, ht, he⟩ | ⟨-, ht, ha, he⟩ | ⟨-, ht, ha, he⟩ := x.rewound_cases above
  · rw [hb] at hb'; exact absurd hb' (by decide)
  · rw [he, Slot.makeVoid_disp hd]; simp [ht, Disposition.isVoid]
  · rw [he, ht, ha]; simp [Slot.makeOpen, Disposition.isVoid]
  · rw [he, ht, ha]; simp [Slot.makeSkip, Disposition.isVoid]

end Sys2Proof.Machine


namespace Sys2Proof.Machine

/-! ### What a rewind makes of the heads (R132) -/

theorem State.current_congr {s t : State} (hs : t.slots = s.slots) (hm : t.marriageSlot = s.marriageSlot) :
    t.current = s.current := by
  funext j k
  simp only [State.current, State.boundAt, State.slotAt_of_slots hs hm]

/-- R74, R80: a load as its test leaves it: a loaded image is kept while it is current. -/
def State.loadTested (s : State) (l : Load) : Load :=
  match l with
  | .loaded img => if s.current img.slot img.stamp then .loaded img else .empty
  | .loading img => .loading img
  | .empty => .empty

theorem State.testLoaded_load (s : State) (h : HeadController) :
    s.testLoaded h = { h with load := s.loadTested h.load } := by
  obtain ⟨queue, load, plan, deferred, guard, trim, inhibit⟩ := h
  cases load with
  | empty => rfl
  | loading img => rfl
  | loaded img => cases hc : s.current img.slot img.stamp <;> simp [State.testLoaded, State.loadTested, hc]

theorem State.HeadsTested.of_plies {s w t u : State} {keeps : Entry → Bool} (hw : w.plies = s.plies)
    (hp : u.plies = t.plies) (hs : u.slots = t.slots) (hm : u.marriageSlot = t.marriageSlot)
    (h : s.HeadsTested t keeps) : w.HeadsTested u keeps := by
  have hcurrent := State.current_congr hs hm
  simp only [State.HeadsTested, State.active, State.ply, hw, hp, hcurrent] at h ⊢
  exact h

theorem State.flush_tested (s : State) (u : Nat) :
    s.HeadsTested (s.flush u) fun e => decide (e.slot < u) := by
  have hcurrent : (s.flush u).current = s.current := State.current_congr rfl rfl
  intro p
  have hply : (s.flush u).ply p = if s.active p then
      { s.ply p with head := s.testLoaded ((s.ply p).head.dropFrom u) } else s.ply p := by
    simp only [State.flush, State.ply, PerPly.get_map]
    rfl
  rw [hply]
  refine ⟨fun hp => ?_, fun hp => by rw [if_neg (by simp [hp])]⟩
  rw [if_pos hp, State.testLoaded_load, hcurrent]
  rfl

theorem State.testAllLoaded_tested (s : State) : s.HeadsTested s.testAllLoaded fun _ => true := by
  have hcurrent : s.testAllLoaded.current = s.current := State.current_congr rfl rfl
  intro p
  have hply : s.testAllLoaded.ply p = if s.active p then
      { s.ply p with head := s.testLoaded (s.ply p).head } else s.ply p := by
    simp only [State.testAllLoaded, State.ply, PerPly.get_map]
    rfl
  rw [hply]
  refine ⟨fun hp => ?_, fun hp => by rw [if_neg (by simp [hp])]⟩
  rw [if_pos hp, State.testLoaded_load, hcurrent, List.filter_true]
  rfl

/-! ### The rewind as a whole -/

/-- The bookkeeping of a rewind, the queues not yet flushed. -/
def State.rebooked (s : State) (u : Nat) (undone : List (Binding × Option SpoilMark)) : State :=
  ((s.rewindSlots u).bookkeeping (undone.map undoneOf)).1

theorem State.rebooked_booked (s : State) (u : Nat) (undone : List (Binding × Option SpoilMark)) :
    (s.rewindSlots u).Booked (s.rebooked u undone) undone := (s.rewindSlots u).bookkeeping_booked undone

namespace State.SameFrom

variable {s s₀ : State} {u : Nat}

theorem undone_eq (h : s.SameFrom s₀ u) (init : Binding × Option SpoilMark) :
    (some (undoneOf init)).toList ++ (s₀.boundFrom u).filterMap (fun x => x.1.undone)
      = (init :: bindingsOf (s.slots.drop (u - s.marriageSlot))).map undoneOf := by
  rw [State.boundFrom, State.indexed, filterMap_boundFrom, h.marriageSlot, h.drop_slots,
    undone_eq_bindingsOf]
  rfl

/-- A rewind is its bookkeeping, and then the flush. -/
theorem rewind_state (h : s.SameFrom s₀ u) (init : Binding × Option SpoilMark) :
    (s₀.rewind u (some (undoneOf init))).1
      = (s₀.rebooked u (init :: bindingsOf (s.slots.drop (u - s.marriageSlot)))).flush u := by
  rw [State.rebooked, ← h.undone_eq init]
  rfl

theorem zip_drop (h : s.SameFrom s₀ u) (l : List Slot) :
    (s.slots.zip l).drop (u - s.marriageSlot) = (s₀.slots.zip l).drop (u - s.marriageSlot) := by
  rw [List.zip_eq_zipWith, List.zip_eq_zipWith, List.drop_zipWith, List.drop_zipWith, h.drop_slots]

/-- How many slots a rewind makes of a kind, as ROLLBACK and SKIP-INSERT report it. -/
theorem madeAbove_eq {j : Nat} (h : s.SameFrom s₀ (j + 1)) {t : State}
    (ht : t.slots = (s₀.rewindSlots (j + 1)).slots) (kind : Disposition → Bool) :
    s.madeAbove t j kind = ((s₀.boundFrom (j + 1)).filter
      fun x => kind (x.1.rewound (s₀.aboveHeads x.2)).disp).length := by
  rw [State.madeAbove, ht, h.zip_drop, ← h.marriageSlot]
  exact countP_changed (j + 1) kind (fun i x => x.rewound (s₀.aboveHeads i)) s₀.slots s₀.marriageSlot

theorem rewindCounts_eq {j : Nat} (h : s.SameFrom s₀ (j + 1)) (init : Binding × Option SpoilMark)
    {t : State} (hslots : t.slots = (s₀.rewind (j + 1) (some (undoneOf init))).1.slots)
    (hmakeups : t.makeups = (s₀.rewind (j + 1) (some (undoneOf init))).1.makeups) :
    (s₀.rewind (j + 1) (some (undoneOf init))).2
      = s.rewindCounts t (init :: bindingsOf (s.slots.drop (j + 1 - s.marriageSlot))) j := by
  have hmade := h.madeAbove_eq (hslots.trans (s₀.rewind_slots _ _).1)
  have hbound : ∀ x ∈ s₀.boundFrom (j + 1), x.1.isBound = true := by
    intro x hx
    have := (List.mem_filter.mp hx).2
    simp only [Bool.and_eq_true] at this
    exact this.2
  have hvoided : s.madeAbove t j Disposition.isVoid
      = ((s₀.boundFrom (j + 1)).filter fun x => x.1.touched).length := by
    rw [hmade]
    exact congrArg List.length (List.filter_congr fun x hx => (Slot.rewound_kinds (hbound x hx) _).1)
  have hskipped : s.madeAbove t j (fun d => decide (d = .skip)) = ((s₀.boundFrom (j + 1)).filter
      fun x => !x.1.touched && !s₀.aboveHeads x.2).length := by
    rw [hmade]
    exact congrArg List.length (List.filter_congr fun x hx => (Slot.rewound_kinds (hbound x hx) _).2.1)
  have hopened : s.madeAbove t j (fun d => decide (d = .opened)) = ((s₀.boundFrom (j + 1)).filter
      fun x => !x.1.touched && s₀.aboveHeads x.2).length := by
    rw [hmade]
    exact congrArg List.length (List.filter_congr fun x hx => (Slot.rewound_kinds (hbound x hx) _).2.2)
  have hnumbers := (s₀.rewindSlots (j + 1)).bookkeeping_numbers
    (init :: bindingsOf (s.slots.drop (j + 1 - s.marriageSlot)))
  have hlist : (s₀.rewindSlots (j + 1)).makeups = s.makeups := by
    have hrest := h.rest
    rw [State.rewindSlots]
    dsimp only
    rw [hrest]
  rw [h.rewind_state init] at hmakeups
  have hbooked : t.makeups = ((s₀.rewindSlots (j + 1)).bookkeeping
      ((init :: bindingsOf (s.slots.drop (j + 1 - s.marriageSlot))).map undoneOf)).1.makeups := hmakeups
  dsimp only at hnumbers
  rw [← hbooked, hlist] at hnumbers
  have hreport : s.rewindCounts t (init :: bindingsOf (s.slots.drop (j + 1 - s.marriageSlot))) j =
      { voided := s.madeAbove t j Disposition.isVoid
        skipped := s.madeAbove t j fun d => decide (d = .skip)
        opened := s.madeAbove t j fun d => decide (d = .opened)
        returned := t.makeups.length
          - (entriesKept (init :: bindingsOf (s.slots.drop (j + 1 - s.marriageSlot))) s.makeups).length
        notAdded := (entriesBack (init :: bindingsOf (s.slots.drop (j + 1 - s.marriageSlot)))).length
          - (t.makeups.length
            - (entriesKept (init :: bindingsOf (s.slots.drop (j + 1 - s.marriageSlot))) s.makeups).length)
        removed := s.makeups.length
          - (entriesKept (init :: bindingsOf (s.slots.drop (j + 1 - s.marriageSlot))) s.makeups).length } :=
    rfl
  rw [hreport, hvoided, hskipped, hopened, State.rewind]
  dsimp only
  rw [Prod.ext_iff, Prod.ext_iff] at hnumbers
  obtain ⟨hreturned, hnotAdded, hremoved⟩ := hnumbers
  rw [h.undone_eq init, hreturned, hnotAdded, hremoved]

/-- R130, R131, R136: what the rewind makes of the list, the flag, the cursor and the run. -/
theorem corrected (h : s.SameFrom s₀ u) (init : Binding × Option SpoilMark) :
    let undone := init :: bindingsOf (s.slots.drop (u - s.marriageSlot))
    let t := (s₀.rewind u (some (undoneOf init))).1
    s.ListCorrected t undone ∧ t.cursor = s.cursor.map (restored undone)
    ∧ s.HeldByJoins t (s.batch && !(entriesKept undone s.makeups).isEmpty)
      (entriesKept undone s.makeups).length t.makeups.length
    ∧ (s.notices.length + 2 ≤ 48 → t.notices = s.notices
      ++ s.joinNotices (s.batch && !(entriesKept undone s.makeups).isEmpty)
        (entriesKept undone s.makeups).length t.makeups.length)
    ∧ (entriesBack undone = [] → t.runState = s.runState ∧ t.causes = s.causes)
    ∧ t.tallies = s.tallies := by
  intro undone t
  have ht : t = (s₀.rebooked u undone).flush u := h.rewind_state init
  have hbooked := s₀.rebooked_booked u undone
  have hrest : s₀.rewindSlots u = { s with slots := (s₀.rewindSlots u).slots, plies := s₀.plies } := by
    have h0 := h.rest
    rw [State.rewindSlots]
    exact congrArg (fun v : State => { v with slots := (s₀.rewindSlots u).slots }) h0
  have hrun : (s₀.rewindSlots u).runState = s.runState := by rw [hrest]
  have hcauses : (s₀.rewindSlots u).causes = s.causes := by rw [hrest]
  have htallies : (s₀.rewindSlots u).tallies = s.tallies := by rw [hrest]
  obtain ⟨hlist, hcursor, hheld, hnotices⟩ := hbooked.of_window hrest
  rw [ht]
  exact ⟨hlist, hcursor, hheld, hnotices,
    fun hnone => ⟨(hbooked.same hnone).1.trans hrun, (hbooked.same hnone).2.trans hcauses⟩,
    hbooked.tallies.trans htallies⟩

theorem headsTested (h : s.SameFrom s₀ u) (init : Binding × Option SpoilMark) :
    s₀.HeadsTested (s₀.rewind u (some (undoneOf init))).1 fun e => decide (e.slot < u) := by
  rw [h.rewind_state init]
  have hplies : (s₀.rebooked u (init :: bindingsOf (s.slots.drop (u - s.marriageSlot)))).plies = s₀.plies :=
    (s₀.rebooked_booked u _).plies
  exact (State.flush_tested _ u).of_plies hplies.symm rfl rfl rfl

end State.SameFrom

theorem Entry.slot_lt_succ (j : Nat) : (fun e : Entry => decide (e.slot < j + 1)) =
    fun e => decide (e.slot ≤ j) := by
  funext e
  exact decide_eq_decide.mpr Nat.lt_succ_iff

/-- A change of one slot leaves the rest of the window as it was. -/
theorem State.sameFrom_modSlot (s : State) (j : Nat) (f : Slot → Slot) : s.SameFrom (s.modSlot j f) (j + 1) where
  rest := by
    have h := s.modSlot_only j f
    have hplies : (s.modSlot j f).plies = s.plies := State.modSlot_plies ..
    rw [hplies]
    exact h
  length := State.slots_modSlot_length ..
  above i hi := s.slotAt_modSlot_ne (by omega) f
  active q := by simp [State.active, State.ply]
  headSlot q := by simp [State.ply]

theorem State.notify_notices_two {s : State} (h : s.notices.length ≤ 46) (n m : Notice) :
    ((s.notify n).notify m).notices = s.notices ++ [⟨n, .owner⟩, ⟨m, .owner⟩] := by
  have hfirst := State.notify_notices (s := s) (by omega) n
  rw [State.notify_notices (by rw [hfirst, List.length_append, List.length_singleton]; omega), hfirst,
    List.append_assoc]
  rfl

/-- Settles O29: the slot is voided, and the rewind from above it is `State.SameFrom` the state it
began in. -/
theorem rollbackSpoilUndoesBindings : Obligations.RollbackSpoilUndoesBindings := by
  unfold Obligations.RollbackSpoilUndoesBindings
  intro j mark slot b cb c s hslot hd hbefore hpolicy hcursor t undone
  have hmakeup : b.makeup = false := by rw [Binding.makeup, hbefore]; rfl
  have hframe : s.PressFrame t := (PressAct.takeSpoil s j mark).frame
  have htake : t = s.rollbackSpoil j mark b := State.takeSpoil_of_rollback hslot hd hmakeup hpolicy mark
  have hsame := s.sameFrom_modSlot j fun slot => slot.makeVoid (.spoil mark)
  have hself := State.slotAt_modSlot_self hslot fun slot => slot.makeVoid (.spoil mark)
  have hother : ∀ i, i ≠ j → (s.modSlot j fun slot => slot.makeVoid (.spoil mark)).slotAt i = s.slotAt i :=
    fun i hi => s.slotAt_modSlot_ne hi _
  have hplies0 : (s.modSlot j fun slot => slot.makeVoid (.spoil mark)).plies = s.plies :=
    State.modSlot_plies ..
  rw [Slot.makeVoid_of_bound hd] at hself
  rw [State.rollbackSpoil] at htake
  generalize s.modSlot j (fun slot => slot.makeVoid (.spoil mark)) = s₀ at *
  obtain ⟨hlist, hcur, hheld, hnotices, hquiet, htallies⟩ := hsame.corrected (b, none)
  have hheads := hsame.headsTested (b, none)
  have hcounts := fun t => hsame.rewindCounts_eq (b, none) (t := t)
  have hslotAt := s₀.slotAt_rewind (j + 1) (some (undoneOf (b, none)))
  have hstamp := s₀.rewind_stamp (j + 1)
  have hunbound := fun i x hi => State.rewind_unbound (s := s₀) (u := j + 1) (i := i) hi
    (init := some (undoneOf (b, none))) (x := x)
  have hrewound := fun t => hsame.slotsRewound (t := t) (some (undoneOf (b, none)))
  have hstamps := fun i => hstamp i (some (undoneOf (b, none)))
  have hmarriage := (s₀.rewind_slots (j + 1) (some (undoneOf (b, none)))).2.trans hsame.marriageSlot
  have hpair : s₀.rewind (j + 1) (some (undoneOf (b, none))) = s₀.rewind (j + 1) (some ⟨b, false⟩) := rfl
  rw [← hpair] at htake
  generalize s₀.rewind (j + 1) (some (undoneOf (b, none))) = r at *
  obtain ⟨s2, counts⟩ := r
  dsimp only at htake hlist hcur hheld hnotices hquiet htallies hheads hcounts hslotAt hunbound hrewound
  dsimp only at hstamps hmarriage
  have hslots : ∀ i, t.slotAt i = s2.slotAt i := fun i => State.slotAt_of_slots
    (by rw [htake]; simp) (by rw [htake]; simp) i
  have hmakeups : t.makeups = s2.makeups := by rw [htake]; simp
  have hbatch : t.batch = s2.batch := by rw [htake]; simp
  have hrun : t.runState = s2.runState := by rw [htake]; simp
  have hcauses : t.causes = s2.causes := by rw [htake]; simp
  have hcursorT : t.cursor = s2.cursor := by rw [htake]; simp
  refine ⟨?_, ?_, ?_, ?_, ?_, ?_, ?_, ?_, ?reports, ?_, ?_, ?_, hframe⟩
  case reports =>
    intro kept flag
    refine ⟨?_, fun hroom => ?_⟩
    · rw [State.HeldByJoins, hrun, hcauses, hmakeups]
      exact hheld
    · have hle := s.joinNotices_length_le flag kept.length s2.makeups.length
      have hqueue : s2.notices = s.notices ++ s.joinNotices flag kept.length s2.makeups.length :=
        hnotices (by omega)
      have hreported : counts = s.rewindCounts t undone j := hcounts t (by rw [htake]; simp) hmakeups
      have hlen : s2.notices.length ≤ 46 := by rw [hqueue, List.length_append]; omega
      rw [← hreported, hcursorT, hmakeups, ← hqueue, htake]
      exact State.notify_notices_two (by exact hlen) _ _
  · rw [hslots, hslotAt, hself, Option.map_some, if_neg (by omega)]
  · intro i x hi hx
    exact hunbound i x hi (by rw [← hslots]; exact hx)
  · exact hrewound t hslots
  · intro i hi
    have hbelow : ¬ j + 1 ≤ i := by omega
    simp only [hslots, hslotAt, hother i (Nat.ne_of_lt hi), if_neg hbelow, Option.map_id']
  · intro i
    rw [hslots, hstamps]
    by_cases hi : i = j
    · subst hi; rw [hself, hslot]; rfl
    · rw [hother i hi]
  · rw [hcursorT, hcur, hcursor]
    simp [restored, hbefore]
  · exact ⟨hmakeups.trans hlist.1, by rw [hbatch, hmakeups]; exact hlist.2⟩
  · intro hnone
    rw [hrun, hcauses]
    exact hquiet hnone
  · rw [← Entry.slot_lt_succ]
    exact hheads.of_plies hplies0.symm (by rw [htake]; simp) (by rw [htake]; simp) (by rw [htake]; simp)
  · rw [htake, State.notify_tallies, State.notify_tallies, ← htallies]
    rfl
  · rw [htake, State.notify_marriageSlot, State.notify_marriageSlot]
    exact hmarriage

end Sys2Proof.Machine


/-! ## Splices (sections 3.8 and 7.5) -/

namespace Sys2Proof.Machine

theorem State.modSlot_modSlot (s : State) (j : Nat) (f g : Slot → Slot) :
    (s.modSlot j f).modSlot j g = s.modSlot j fun x => g (f x) := by
  unfold State.modSlot
  by_cases hj : j < s.marriageSlot
  · simp [hj]
  · simp only [hj, if_false, List.modify_modify_eq]
    rfl

theorem State.lt_windowEnd_of_slotAt {s : State} {j : Nat} {x : Slot} (h : s.slotAt j = some x) :
    j < s.windowEnd := by
  obtain ⟨hm, hs⟩ := State.slotAt_eq_some.mp h
  have hlt := (List.getElem?_eq_some_iff.mp hs).1
  simp only [State.windowEnd]
  omega

theorem State.slotAt_of_windowEnd_le {s : State} {j : Nat} (h : s.windowEnd ≤ j) : s.slotAt j = none := by
  cases hx : s.slotAt j with
  | none => rfl
  | some x => exact absurd (State.lt_windowEnd_of_slotAt hx) (Nat.not_lt.mpr h)

/-- R16: an index within or below the window has nothing created for it. -/
theorem State.create_of_lt {s : State} {j : Nat} (h : j < s.windowEnd) : s.create j = s := by
  obtain ⟨-, he⟩ | ⟨-, he⟩ := s.create_cases j
  · have hzero : j + 1 - s.windowEnd = 0 := by omega
    rw [he, hzero, List.replicate_zero, List.append_nil]
  · exact he

theorem State.create_of_no_room {s : State} {j : Nat} (h : s.hasRoom j = false) : s.create j = s := by
  rw [State.create, if_neg (by simp [h])]

theorem State.create_of_room {s : State} {j : Nat} (h : s.hasRoom j = true) : s.create j =
    { s with slots := s.slots ++ List.replicate (j + 1 - s.windowEnd) s.freshSlot } := by
  rw [State.create, if_pos h]

theorem State.windowEnd_create {s : State} {j : Nat} (h : s.hasRoom j = true) (hj : s.windowEnd ≤ j) :
    (s.create j).windowEnd = j + 1 := by
  rw [State.create_of_room h]
  simp only [State.windowEnd, List.length_append, List.length_replicate] at hj ⊢
  omega

/-- R16: a slot above the top is held as created once there was room for it. -/
theorem State.slotAt_create_self {s : State} {j : Nat} (h : s.hasRoom j = true) (hj : s.windowEnd ≤ j) :
    (s.create j).slotAt j = some s.freshSlot := by
  rw [State.create_of_room h, State.slotAt_eq_some]
  simp only [State.windowEnd] at hj
  refine ⟨Nat.le_trans (Nat.le_add_right _ _) hj, ?_⟩
  dsimp only
  rw [List.getElem?_append_right (by omega), List.getElem?_replicate, if_pos]
  simp only [State.windowEnd]
  omega

theorem State.hasRoom_eq_false {s : State} {j : Nat} (h : 4294967295 < j ∨ s.marriageSlot + 128 ≤ j) :
    s.hasRoom j = false := by
  rw [← Bool.not_eq_true, State.hasRoom, Bool.and_eq_true, Bool.and_eq_true, decide_eq_true_eq,
    decide_eq_true_eq]
  rintro ⟨⟨-, hmax⟩, hcap⟩
  have hmax' : j ≤ 4294967295 := hmax
  have hcap' : j + 1 ≤ s.marriageSlot + 128 := hcap
  omega

/-! ### A splice by what its target is (R133) -/

/-- The splice flag of a ply's form set (R133). -/
def Slot.spliced (slot : Slot) (p : Ply) : Slot := slot.modSub p fun r => { r with splice := true }

theorem State.setSplice_eq (s : State) (j : Nat) (p : Ply) :
    s.setSplice j p = s.modSlot j fun slot => slot.spliced p := rfl

section TakeSplice

variable {s : State} {j : Nat} {slot : Slot}

theorem State.takeSplice_of_none (h : s.slotAt j = none) (p : Ply) : s.takeSplice p j = s := by
  rw [State.takeSplice, h]

theorem State.takeSplice_of_opened (h : s.slotAt j = some slot) (hd : slot.disp = .opened) (p : Ply) :
    s.takeSplice p j = (s.modSlot j fun x => (x.spliced p).makeSkip).notify (.skipInsert p j none) := by
  simp only [State.takeSplice, h, hd, State.setSplice_eq, State.modSlot_modSlot]

theorem State.takeSplice_of_unnumbered (h : s.slotAt j = some slot)
    (hd : slot.disp = .skip ∨ ∃ b r, slot.disp = .void b r) (p : Ply) :
    s.takeSplice p j = s.modSlot j fun x => x.spliced p := by
  obtain hd | ⟨b, r, hd⟩ := hd <;> simp only [State.takeSplice, h, hd, State.setSplice_eq]

theorem State.takeSplice_of_touched {b : Binding} {m : Option SpoilMark} (h : s.slotAt j = some slot)
    (hd : slot.disp = .bound b m) (ht : slot.touched = true) (p : Ply) :
    s.takeSplice p j = (s.modSlot j fun x => x.spliced p).takeSpoil j ⟨.splice, p⟩ := by
  simp only [State.takeSplice, h, hd, ht, if_true, State.setSplice_eq]

theorem State.takeSplice_of_untouched {b : Binding} {m : Option SpoilMark} (h : s.slotAt j = some slot)
    (hd : slot.disp = .bound b m) (ht : slot.touched = false) (p : Ply) :
    s.takeSplice p j = (s.modSlot j fun x => x.spliced p).spliceSkip p j slot b := by
  simp only [State.takeSplice, h, hd, ht, Bool.false_eq_true, if_false, State.setSplice_eq]

end TakeSplice

/-- The ply's splice watch set (R68). -/
def State.watched (s : State) (p : Ply) (j : Nat) : State :=
  s.modUnit p fun u => { u with spliceWatch := some j }

theorem State.slotAt_watched (s : State) (p : Ply) (j i : Nat) : (s.watched p j).slotAt i = s.slotAt i :=
  State.slotAt_of_slots rfl rfl i

/-- A splice pulse that does not repeat its target. -/
theorem exec_spliceEvent {s : State} {p : Ply} {k : Nat} (hrun : s.inRun = true) (hp : s.active p = true)
    (hk : (s.ply p).record.splice = some k)
    (hw : (s.ply p).unit.spliceWatch ≠ some ((s.ply p).unit.headSlot + k)) :
    exec (.spliceEvent p) s = .next (((s.create ((s.ply p).unit.headSlot + k)).watched p
      ((s.ply p).unit.headSlot + k)).takeSplice p ((s.ply p).unit.headSlot + k)) := by
  simp only [exec, execSpliceEvent, hrun, hp, Bool.and_self, if_true, hk, State.splicePulse, hw, if_false]
  rfl

/-- One that finds nothing to create. -/
theorem exec_spliceEvent_of_uncreated {s : State} {p : Ply} {k : Nat} (hrun : s.inRun = true)
    (hp : s.active p = true) (hk : (s.ply p).record.splice = some k)
    (hw : (s.ply p).unit.spliceWatch ≠ some ((s.ply p).unit.headSlot + k))
    (hc : s.create ((s.ply p).unit.headSlot + k) = s) :
    exec (.spliceEvent p) s = .next ((s.watched p ((s.ply p).unit.headSlot + k)).takeSplice p
      ((s.ply p).unit.headSlot + k)) := by
  rw [exec_spliceEvent hrun hp hk hw, hc]

theorem State.watched_create (s : State) (p : Ply) (i j : Nat) :
    ((s.create i).watched p j).plies = (s.watched p j).plies := by
  unfold State.watched State.modUnit State.modPly
  rw [State.create_plies]

/-- Settles O13: the case split of R133 on what the target is. -/
theorem splicePulseActsOnItsTarget : Obligations.SplicePulseActsOnItsTarget := by
  unfold Obligations.SplicePulseActsOnItsTarget
  intro p k s hrun hp hk j w flag
  refine ⟨fun hw => ?_, fun hw => ⟨fun slot hs hd => ?_, fun slot hs hd => ?_, fun slot b m hs hd ht => ?_,
    fun hj hr => ?_, fun hj => ?_, fun hj hr => ?_⟩⟩
  · have hsame : s.splicePulse p k = s := if_pos hw
    simp only [exec, execSpliceEvent, hrun, hp, Bool.and_self, if_true, hk, hsame]
  · have hheld := State.create_of_lt (State.lt_windowEnd_of_slotAt hs)
    rw [exec_spliceEvent_of_uncreated hrun hp hk hw hheld,
      State.takeSplice_of_opened ((s.slotAt_watched p j j).trans hs) hd]
    rfl
  · have hheld := State.create_of_lt (State.lt_windowEnd_of_slotAt hs)
    rw [exec_spliceEvent_of_uncreated hrun hp hk hw hheld,
      State.takeSplice_of_unnumbered ((s.slotAt_watched p j j).trans hs) hd]
    rfl
  · have hheld := State.create_of_lt (State.lt_windowEnd_of_slotAt hs)
    rw [exec_spliceEvent_of_uncreated hrun hp hk hw hheld,
      State.takeSplice_of_touched ((s.slotAt_watched p j j).trans hs) hd ht]
    rfl
  · have hfresh : ((s.create j).watched p j).slotAt j = some s.freshSlot :=
      (State.slotAt_watched _ p j j).trans (State.slotAt_create_self hr hj)
    have hexec := exec_spliceEvent hrun hp hk hw
    rw [State.takeSplice_of_opened hfresh rfl] at hexec
    have hslotAt : ∀ i n, ((((s.create j).watched p j).modSlot j fun x => (x.spliced p).makeSkip).notify
        n).slotAt i = (((s.create j).watched p j).modSlot j fun x => (x.spliced p).makeSkip).slotAt i :=
      fun i n => State.slotAt_of_slots (by simp) (by simp) i
    refine ⟨_, hexec, ?_, ?_, fun i hi => ?_, ?_, ?_, ?_, ?_⟩
    · rw [State.windowEnd, State.notify_marriageSlot, State.notify_slots, State.modSlot_marriageSlot,
        State.slots_modSlot_length]
      exact State.windowEnd_create hr hj
    · rw [hslotAt, State.slotAt_modSlot_self hfresh]
      rfl
    · rw [hslotAt, State.slotAt_modSlot_ne _ (by omega), State.slotAt_watched, State.slotAt_create j hi]
    · rw [State.notify_plies, State.modSlot_plies]
      exact s.watched_create p j j
    · rw [State.notify_cursor, State.modSlot_cursor]
      exact State.create_cursor ..
    · rw [State.notify_makeups, State.modSlot_makeups]
      exact State.create_makeups ..
    · have hact := (PressAct.splicePulse s p k).frame
      have hpulse : s.splicePulse p k = ((s.create j).watched p j).takeSplice p j := if_neg hw
      rw [hpulse, State.takeSplice_of_opened hfresh rfl] at hact
      exact hact
  · have hbelow : j < s.windowEnd := Nat.lt_of_lt_of_le hj (Nat.le_add_right _ _)
    rw [exec_spliceEvent_of_uncreated hrun hp hk hw (State.create_of_lt hbelow),
      State.takeSplice_of_none ((s.slotAt_watched p j j).trans (State.slotAt_of_lt hj))]
    rfl
  · rw [exec_spliceEvent_of_uncreated hrun hp hk hw (State.create_of_no_room (State.hasRoom_eq_false hr)),
      State.takeSplice_of_none ((s.slotAt_watched p j j).trans (State.slotAt_of_windowEnd_le hj))]
    rfl

/-! ### The splice skip (R134) -/

theorem State.sameFrom_spliceSkip (s : State) (p : Ply) (j : Nat) :
    s.SameFrom ((s.watched p j).modSlot j fun x => (x.spliced p).makeSkip) (j + 1) where
  rest := by
    have h := (s.watched p j).modSlot_only j fun x => (x.spliced p).makeSkip
    have hplies : ((s.watched p j).modSlot j fun x => (x.spliced p).makeSkip).plies = (s.watched p j).plies :=
      State.modSlot_plies ..
    rw [hplies]
    exact h
  length := State.slots_modSlot_length ..
  above i hi := (State.slotAt_modSlot_ne _ (by omega) _).trans (s.slotAt_watched p j i)
  active q := by
    simp only [State.active, State.ply, State.modSlot_plies]
    exact congrArg PlyRecord.active (by
      change ((s.watched p j).ply q).record = (s.ply q).record
      rw [State.watched, State.modUnit, State.ply_modPly]
      split <;> simp_all [State.ply])
  headSlot q := by
    simp only [State.ply, State.modSlot_plies]
    change ((s.watched p j).ply q).unit.headSlot = (s.ply q).unit.headSlot
    rw [State.watched, State.modUnit, State.ply_modPly]
    split <;> simp_all [State.ply]

theorem Slot.undone_of_bound {x : Slot} {b : Binding} {m : Option SpoilMark} (h : x.disp = .bound b m) :
    x.undone = some (undoneOf (b, m)) := by
  rw [Slot.undone, h]
  rfl

/-- Settles O14: the target becomes SKIP, and the rewind from above it begins in a state that is
`State.SameFrom` the one before the pulse. -/
theorem spliceSkipUndoesTheBinding : Obligations.SpliceSkipUndoesTheBinding := by
  unfold Obligations.SpliceSkipUndoesTheBinding
  intro p k slot b m s hrun hp hk hw hslot hd huntouched j w undone
  have hheld := State.create_of_lt (State.lt_windowEnd_of_slotAt hslot)
  have ht : slot.touched = false := by rw [← Bool.not_eq_true, Slot.touched_iff]; exact huntouched
  have hexec := exec_spliceEvent_of_uncreated hrun hp hk hw hheld
  have hframe : s.PressFrame ((s.watched p j).takeSplice p j) := by
    have hact := (PressAct.splicePulse s p k).frame
    have hpulse : s.splicePulse p k = ((s.create j).watched p j).takeSplice p j := if_neg hw
    rwa [hpulse, show s.create j = s from hheld] at hact
  have hwatched : (s.watched p j).slotAt j = some slot := (s.slotAt_watched p j j).trans hslot
  have hsplice := State.takeSplice_of_untouched hwatched hd ht p
  rw [State.spliceSkip, State.modSlot_modSlot, Slot.undone_of_bound hd] at hsplice
  have hsame := s.sameFrom_spliceSkip p j
  have hself := State.slotAt_modSlot_self hwatched fun x => (x.spliced p).makeSkip
  have hother : ∀ i, i ≠ j →
      ((s.watched p j).modSlot j fun x => (x.spliced p).makeSkip).slotAt i = s.slotAt i :=
    fun i hi => (State.slotAt_modSlot_ne _ hi _).trans (s.slotAt_watched p j i)
  have hplies0 : ((s.watched p j).modSlot j fun x => (x.spliced p).makeSkip).plies = w.plies :=
    State.modSlot_plies ..
  rw [Slot.makeSkip_eq] at hself
  generalize (s.watched p j).modSlot j (fun x => (x.spliced p).makeSkip) = s₀ at *
  obtain ⟨hlist, hcur, hheldBy, hnotices, hquiet, htallies⟩ := hsame.corrected (b, m)
  have hheads := hsame.headsTested (b, m)
  have hcounts := fun t => hsame.rewindCounts_eq (b, m) (t := t)
  have hslotAt := s₀.slotAt_rewind (j + 1) (some (undoneOf (b, m)))
  have hunbound := fun i x hi => State.rewind_unbound (s := s₀) (u := j + 1) (i := i) hi
    (init := some (undoneOf (b, m))) (x := x)
  have hrewound := fun t => hsame.slotsRewound (t := t) (some (undoneOf (b, m)))
  have hmarriage := (s₀.rewind_slots (j + 1) (some (undoneOf (b, m)))).2.trans hsame.marriageSlot
  have hlength : (s₀.rewind (j + 1) (some (undoneOf (b, m)))).1.slots.length = s.slots.length :=
    (s₀.rewind_frame (j + 1) _).length.trans hsame.length
  generalize s₀.rewind (j + 1) (some (undoneOf (b, m))) = r at *
  obtain ⟨s2, counts⟩ := r
  dsimp only at hsplice hlist hcur hheldBy hnotices hquiet htallies hheads hcounts hslotAt hunbound hrewound
  dsimp only at hmarriage hlength
  generalize (s.watched p j).takeSplice p j = t at *
  have hslots : ∀ i, t.slotAt i = s2.slotAt i := fun i => State.slotAt_of_slots
    (by rw [hsplice]; simp) (by rw [hsplice]; simp) i
  have hmakeups : t.makeups = s2.makeups := by rw [hsplice]; simp
  have hbatch : t.batch = s2.batch := by rw [hsplice]; simp
  have hrunT : t.runState = s2.runState := by rw [hsplice]; simp
  have hcauses : t.causes = s2.causes := by rw [hsplice]; simp
  have hcursorT : t.cursor = s2.cursor := by rw [hsplice]; simp
  refine ⟨t, hexec, ?_, ?_, ?_, ?_, ?_, ?_, ?_, ?_, ?_, ?reports, ?_, ?_, ?_, hframe⟩
  case reports =>
    intro kept flag
    refine ⟨?_, fun hroom => ?_⟩
    · rw [State.HeldByJoins, hrunT, hcauses, hmakeups]
      exact hheldBy
    · have hle := s.joinNotices_length_le flag kept.length s2.makeups.length
      have hqueue : s2.notices = s.notices ++ s.joinNotices flag kept.length s2.makeups.length :=
        hnotices (by omega)
      have hreported : counts = s.rewindCounts t undone j := hcounts t (by rw [hsplice]; simp) hmakeups
      rw [← hreported, hcursorT, hmakeups, ← hqueue, hsplice]
      exact State.notify_notices (by rw [hqueue, List.length_append]; omega) _
  · rw [hslots, hslotAt, hself, Option.map_some, if_neg (by omega)]
    rfl
  · intro i x hi hx
    exact hunbound i x hi (by rw [← hslots]; exact hx)
  · exact hrewound t hslots
  · intro i hi
    have hbelow : ¬ j + 1 ≤ i := by omega
    simp only [hslots, hslotAt, hother i (Nat.ne_of_lt hi), if_neg hbelow, Option.map_id']
  · rw [hsplice, State.notify_slots, hlength]
  · intro cb c hbefore hcursor
    rw [hcursorT, hcur, hcursor]
    simp [restored, hbefore]
  · rw [hcursorT, hcur]
  · exact ⟨hmakeups.trans hlist.1, by rw [hbatch, hmakeups]; exact hlist.2⟩
  · intro hnone
    rw [hrunT, hcauses]
    exact hquiet hnone
  · rw [← Entry.slot_lt_succ]
    exact hheads.of_plies hplies0.symm (by rw [hsplice]; simp) (by rw [hsplice]; simp)
      (by rw [hsplice]; simp)
  · rw [hsplice, State.notify_tallies, htallies]
  · rw [hsplice, State.notify_marriageSlot, hmarriage]

end Sys2Proof.Machine


/-! ## ABORT-RUN (sections 7.7 and 8.6) -/

namespace Sys2Proof.Machine

/-! ### The first (R141) -/

theorem Slot.makeVoid_isNumbered (x : Slot) (r : VoidReason) : (x.makeVoid r).isNumbered = x.isNumbered := by
  unfold Slot.makeVoid Slot.isNumbered Slot.binding
  cases hd : x.disp <;> simp [hd]

theorem Slot.isBound_of_not_numbered {x : Slot} (h : x.isNumbered = false) : x.isBound = false := by
  unfold Slot.isNumbered Slot.binding at h
  unfold Slot.isBound
  cases hd : x.disp <;> simp [hd] at h ⊢

theorem bindingsOf_length (slots : List Slot) :
    (slots.filterMap Slot.undone).length = (slots.filter Slot.isBound).length := by
  induction slots with
  | nil => rfl
  | cons x xs ih =>
    cases hb : x.isBound with
    | true =>
      obtain ⟨b, m, hd⟩ := x.isBound_iff.mp hb
      rw [List.filterMap_cons_some (Slot.undone_of_bound hd), List.filter_cons_of_pos hb, List.length_cons,
        List.length_cons, ih]
    | false =>
      have hnone : x.undone = none := by
        unfold Slot.isBound at hb
        unfold Slot.undone
        cases hd : x.disp <;> simp [hd] at hb ⊢
      rw [List.filterMap_cons_none hnone, List.filter_cons_of_neg (by simp [hb]), ih]

theorem bindingsOf_of_not_bound {slots : List Slot} (h : ∀ x ∈ slots, x.isBound = false) :
    bindingsOf slots = [] := by
  refine List.filterMap_eq_nil_iff.mpr fun x hx => ?_
  have hb := h x hx
  unfold Slot.isBound at hb
  cases hd : x.disp <;> simp [hd] at hb ⊢

/-- A state with every BOUND slot VOID, the bookkeeping not yet made. -/
def State.slotsVoided (s : State) : State := { s with slots := s.slots.map fun x : Slot => x.makeVoid .abort }

theorem State.voidAll_state (s : State) : s.voidAll.1
    = (s.slotsVoided.bookkeeping ((bindingsOf s.slots).map undoneOf)).1.testAllLoaded := by
  have h : s.slots.filterMap Slot.undone = (bindingsOf s.slots).map undoneOf := undone_eq_bindingsOf s.slots
  rw [← h]
  rfl

theorem State.voidAll_count (s : State) : s.voidAll.2 = (s.slots.filter Slot.isBound).length :=
  bindingsOf_length s.slots

/-- What the voiding of the window leaves. -/
theorem State.voidAll_spec (s : State) :
    s.voidAll.1.slots = s.slots.map (fun x => x.makeVoid .abort)
    ∧ s.voidAll.1.marriageSlot = s.marriageSlot ∧ s.voidAll.1.tallies = s.tallies
    ∧ s.voidAll.1.lastMarriage = s.lastMarriage
    ∧ s.voidAll.1.cursor = s.cursor.map (restored (bindingsOf s.slots))
    ∧ s.ListCorrected s.voidAll.1 (bindingsOf s.slots)
    ∧ s.HeadsTested s.voidAll.1 (fun _ => true)
    ∧ (s.notices.length + 2 ≤ 48 → s.voidAll.1.notices = s.notices
      ++ s.joinNotices (s.batch && !(entriesKept (bindingsOf s.slots) s.makeups).isEmpty)
        (entriesKept (bindingsOf s.slots) s.makeups).length s.voidAll.1.makeups.length) := by
  have hbooked := s.slotsVoided.bookkeeping_booked (bindingsOf s.slots)
  rw [State.voidAll_state]
  generalize (s.slotsVoided.bookkeeping ((bindingsOf s.slots).map undoneOf)).1 = t at hbooked
  obtain ⟨hlist, hcursor, -, hnotices⟩ := hbooked.of_window (s := s) rfl
  have hheads := t.testAllLoaded_tested
  exact ⟨hbooked.slots, hbooked.marriageSlot, hbooked.tallies, (congrArg State.lastMarriage hbooked.rest :),
    hcursor, hlist, hheads.of_plies hbooked.plies.symm rfl rfl rfl, hnotices⟩

/-- Heads tested keep what the teardown to IDLE reads of a ply (R157). -/
theorem State.HeadsTested.teardown {s t : State} {keeps : Entry → Bool} (h : s.HeadsTested t keeps)
    (p : Ply) : (t.ply p).teardown = (s.ply p).teardown := by
  obtain ⟨htested, hsame⟩ := h p
  cases hp : s.active p with
  | true => rw [htested hp]; rfl
  | false => rw [hsame hp]

/-- R157: the teardown reads of a state its cursor and list, and what a teardown keeps of its plies. -/
theorem State.TornDown.of_kept {s v t : State} (h : v.TornDown t) (hcursor : v.cursor = s.cursor)
    (hmakeups : v.makeups = s.makeups) (hplies : ∀ p, (v.ply p).teardown = (s.ply p).teardown) :
    s.TornDown t := by
  obtain ⟨h1, h2, h3, h4, h5, h6, h7, h8, h9, h10, h11⟩ := h
  exact ⟨h1, h2, h3, h4, h5, h6, h7, h8, h9.trans hcursor, h10.trans hmakeups,
    fun p => (h11 p).trans (hplies p)⟩

/-- A run that drains with nothing numbered in its window is over: it is torn down, and RUN-STATE, RUN-END
and RUN-STATE are sent. -/
theorem State.enterDraining_over {v : State} (hnone : ∀ x ∈ v.slots, x.isNumbered = false) (k : DrainKind) :
    v.TornDown (v.enterDraining k) ∧ (v.enterDraining k).lastMarriage = v.lastMarriage
    ∧ (v.notices.length ≤ 45 → (v.enterDraining k).notices = v.notices
      ++ [⟨.runState .draining HoldCauses.empty (some k), .owner⟩,
        ⟨.runEnd .drained v.tallies v.cursor v.batch v.makeups.length, .owner⟩,
        ⟨.runState .idle HoldCauses.empty none, .owner⟩]) := by
  obtain ⟨-, he⟩ | ⟨⟨x, hx, hnumbered⟩, -⟩ := v.enterDraining_cases k
  · have hleft := v.draining_only k
    have hdown := (v.draining k).finishRun_tornDown .drained
    have hlast := State.finishRun_lastMarriage (v.draining k) .drained
    have hqueue : v.notices.length ≤ 45 → (v.draining k).notices
        = v.notices ++ [⟨.runState .draining HoldCauses.empty (some k), .owner⟩] := fun hroom =>
      State.notify_notices (s := { v with
        causes := HoldCauses.empty, drain := some k, runState := .draining })
        (Nat.lt_of_le_of_lt hroom (by decide)) _
    rw [← he] at hdown hlast
    refine ⟨hdown.of_kept (congrArg State.cursor hleft :) (congrArg State.makeups hleft :) fun p => ?_,
      hlast.trans (congrArg State.lastMarriage hleft :), fun hroom => ?_⟩
    · exact congrArg PlyState.teardown (congrArg (fun u : State => u.ply p) hleft :)
    · have hqueue := hqueue hroom
      have hroom' : (v.draining k).notices.length + 2 ≤ 48 := by
        rw [hqueue, List.length_append, List.length_singleton]; omega
      have htallies : (v.draining k).tallies = v.tallies := (congrArg State.tallies hleft :)
      have hcursor : (v.draining k).cursor = v.cursor := (congrArg State.cursor hleft :)
      have hbatch : (v.draining k).batch = v.batch := (congrArg State.batch hleft :)
      have hmakeups : (v.draining k).makeups = v.makeups := (congrArg State.makeups hleft :)
      rw [he, State.finishRun_notices hroom', hqueue, htallies, hcursor, hbatch, hmakeups, List.append_assoc]
      rfl
  · exact absurd hnumbered (by simp [hnone x hx])

theorem restored_closed (undone : List (Binding × Option SpoilMark)) {c : Cursor} (h : c.state = .closed) :
    (restored undone c).state = .closed := by
  unfold restored
  split
  · exact h
  · simp [h]

/-- A CLOSED cursor lets no join set the batch flag (log 51). -/
theorem State.ListCorrected.batch_of_closed {s t : State} {undone : List (Binding × Option SpoilMark)}
    (h : s.closeCursor.ListCorrected t undone) :
    t.batch = (s.batch && !(entriesKept undone s.makeups).isEmpty) := by
  have hend : decide (s.closeCursor.cursor.map (·.state) = some .chainEnd) = false := by
    unfold State.closeCursor
    cases s.cursor <;> simp
  rw [h.2, hend, Bool.and_false, Bool.or_false]
  rfl

/-! ### The second (R156) -/

theorem Tallies.foldl_retireVoid_eq (slots : List Slot) (t : Tallies)
    (hretired : t.retired + slots.length ≤ 4294967295) (hvoid : t.void + slots.length ≤ 4294967295) :
    slots.foldl (fun t _ => t.retireVoid) t =
      { t with retired := t.retired + slots.length, void := t.void + slots.length } := by
  induction slots generalizing t with
  | nil => rfl
  | cons x xs ih =>
    rw [List.length_cons] at hretired hvoid
    have hone : t.retireVoid = { t with retired := t.retired + 1, void := t.void + 1 } := by
      have hr : t.retired < Config.maxTally := by simp only [Config.maxTally]; omega
      have hv : t.void < Config.maxTally := by simp only [Config.maxTally]; omega
      rw [Tallies.retireVoid, raiseTally, raiseTally, if_pos hr, if_pos hv]
    rw [List.foldl_cons, hone, ih _ (by dsimp only; omega) (by dsimp only; omega), List.length_cons]
    dsimp only
    rw [Nat.add_assoc, Nat.add_assoc, Nat.add_comm 1]

theorem State.requestAbort_eq_first {s : State} (h : s.runState = .running ∨ s.runState = .held
    ∨ (s.runState = .draining ∧ s.drain = some .ended)) : s.requestAbort = s.abortFirst := by
  obtain h | h | ⟨h, hd⟩ := h
  · rw [State.requestAbort, h]
  · rw [State.requestAbort, h]
  · rw [State.requestAbort, h, hd]

/-- Settles O49: the run state and the drain kind decide which ABORT-RUN it is; the first is the voiding of
the window and the entry into DRAINING. -/
theorem abortRunVoidsThenRetires : Obligations.AbortRunVoidsThenRetires := by
  unfold Obligations.AbortRunVoidsThenRetires
  intro l tag s hadmits
  have hexec : ∀ {a : Answer} {t : State}, s.requestAbort = (a, t) →
      exec (.abortRun l tag []) s = .next (t.replied l tag .abortRun a) := fun h =>
    exec_of_handle (r := .abortRun) hadmits rfl tag h
  refine ⟨fun hidle => hexec ?_, ?first, fun hdraining hkind => ?_⟩
  case first =>
    intro hrun undone
    obtain ⟨hslots, hmarriage, htallies, hlast, hcursor, hlist, hheads, hnotices⟩ :=
      s.closeCursor.voidAll_spec
    have hkept := (PressAct.voidAll s.closeCursor).frame
    have hcount := s.closeCursor.voidAll_count
    have hfirst : s.requestAbort = (.done (be 1 s.closeCursor.voidAll.2),
        s.closeCursor.voidAll.1.enterDraining .abort) := State.requestAbort_eq_first hrun
    rw [hcount] at hfirst
    generalize s.closeCursor.voidAll.1 = v at *
    obtain ⟨hcur, hcauses, hmakeups, htal, hlinks⟩ := v.enterDraining_kept .abort
    refine ⟨_, hexec hfirst, hcauses, ?_, State.replied_links (hlinks.trans hkept.2) ..,
      State.SetupKept.replied (hkept.1.trans (.enterDraining v .abort)) .., fun hsome => ?_, ?none⟩
    case none =>
      intro hnone closed batch
      have hunbound : ∀ x ∈ s.slots, x.isBound = false := fun x hx =>
        Slot.isBound_of_not_numbered (hnone x hx)
      have hundone : bindingsOf s.closeCursor.slots = [] := bindingsOf_of_not_bound hunbound
      rw [hundone] at hcursor hlist hnotices
      have hall : entriesKept [] s.closeCursor.makeups = s.makeups := List.filter_true s.makeups
      have hlistV : v.makeups = s.makeups := by
        rw [hlist.1, correctedList_eq, hall]; rfl
      have hcursorV : v.cursor = closed.cursor := by
        have hid : restored [] = id := by funext c; rfl
        rw [hcursor, hid, Option.map_id, id]
        rfl
      have hbatchV : v.batch = batch := by
        rw [hlist.batch_of_closed, show entriesKept [] s.makeups = s.makeups from hall]
      have hnoneV : ∀ x ∈ v.slots, x.isNumbered = false := by
        intro x hx
        rw [hslots, List.mem_map] at hx
        obtain ⟨y, hy, rfl⟩ := hx
        exact (Slot.makeVoid_isNumbered ..).trans (hnone y hy)
      have hqueueV : s.notices.length ≤ 45 → v.notices = s.notices := by
        intro hroom
        rw [hnotices (Nat.add_le_add_right (Nat.le_succ_of_le hroom) 2), hall, hlistV, State.joinNotices_self,
          List.append_nil]
        rfl
      obtain ⟨hdown, hlastV, hsent⟩ := State.enterDraining_over hnoneV .abort
      refine ⟨hdown.of_kept hcursorV hlistV hheads.teardown, htal.trans htallies, hlastV.trans hlast,
        fun hroom => ?_⟩
      have hends := hsent (by rw [hqueueV hroom]; exact hroom)
      rw [hqueueV hroom, htallies, hcursorV, hbatchV, hlistV] at hends
      exact hends
    · have hclosed : v.cursor.map (·.state) = s.cursor.map fun _ => .closed := by
        rw [hcursor, State.closeCursor]
        cases s.cursor with
        | none => rfl
        | some c => exact congrArg some (restored_closed _ rfl)
      exact (congrArg (Option.map Cursor.state) hcur).trans hclosed
    · obtain ⟨x, hx, hnumbered⟩ := hsome
      obtain ⟨hnone, -⟩ | ⟨-, he⟩ := v.enterDraining_cases .abort
      · have hv := hnone (x.makeVoid .abort) (by rw [hslots]; exact List.mem_map_of_mem hx)
        rw [Slot.makeVoid_isNumbered, hnumbered] at hv
        exact absurd hv (by decide)
      · have hleft := he.trans (v.draining_only .abort)
        have hwindow : (v.enterDraining .abort).slots = s.slots.map fun x => x.makeVoid .abort :=
          (congrArg State.slots hleft :).trans hslots
        have hindex : (v.enterDraining .abort).marriageSlot = s.marriageSlot :=
          (congrArg State.marriageSlot hleft :).trans hmarriage
        refine ⟨(congrArg State.runState hleft :), (congrArg State.drain hleft :), hwindow,
          fun i x b m hi hd => ?_, hindex, htal.trans htallies, ?_, hmakeups.trans hlist.1,
          (congrArg State.batch hleft :).trans hlist.batch_of_closed, ?_⟩
        · obtain ⟨hm, hxs⟩ := State.slotAt_eq_some.mp hi
          refine State.slotAt_eq_some.mpr ⟨hindex.trans_le hm, ?_⟩
          have hget : (s.slots.map fun x : Slot => x.makeVoid .abort)[i - s.marriageSlot]?
              = some (x.makeVoid .abort) := by rw [List.getElem?_map, hxs]; rfl
          rw [← Slot.makeVoid_of_bound hd, ← hget, ← hwindow, ← hindex]
          rfl
        · refine hcur.trans (hcursor.trans ?_)
          unfold State.closeCursor
          rw [Option.map_map]
          rfl
        · exact hheads.of_plies rfl (congrArg State.plies hleft :) (congrArg State.slots hleft :)
            (congrArg State.marriageSlot hleft :)
  · rw [State.requestAbort, hidle]
    rfl
  · have hsecond : s.requestAbort = (.done (be 1 s.slots.length), s.retireAll.finishRun .abandoned) := by
      rw [State.requestAbort, hdraining, hkind]
      rfl
    obtain ⟨hidle, -, hdrain, hmarriage, hslots, -⟩ := s.retireAll.finishRun_tornDown .abandoned
    have hsetup : s.SetupKept s.retireAll := .refl s
    refine ⟨_, hexec hsecond, hidle, hslots, hmarriage, hdrain, State.finishRun_cursor ..,
      State.finishRun_makeups .., State.replied_links (State.finishRun_links ..) ..,
      State.SetupKept.replied (hsetup.trans (.finishRun ..)) .., fun hr hv => ?_⟩
    exact (State.finishRun_tallies ..).trans (Tallies.foldl_retireVoid_eq s.slots s.tallies hr hv)

end Sys2Proof.Machine


/-! ## Records in sequence and after a gap (sections 5.2 to 5.4) -/

namespace Sys2Proof.Machine

/-! ### The awaiting forms, by set index -/

/-- The places of the slots that pass a test, by index. -/
theorem filterMap_zipIdx (test : Slot → Bool) (slots : List Slot) (m : Nat) :
    (slots.zipIdx m).filterMap (fun x => if test x.1 then some x.2 else none)
      = (List.range' m slots.length).filter fun j => (slots[j - m]?).any test := by
  induction slots generalizing m with
  | nil => rfl
  | cons a l ih =>
    have hrest : (List.range' (m + 1) l.length).filter (fun j => ((a :: l)[j - m]?).any test)
        = (List.range' (m + 1) l.length).filter fun j => (l[j - (m + 1)]?).any test := by
      refine List.filter_congr fun j hj => ?_
      have hj := (List.mem_range'_1.mp hj).1
      have hone : j - m = (j - (m + 1)) + 1 := by omega
      rw [hone, List.getElem?_cons_succ]
    rw [List.zipIdx_cons, List.length_cons, List.range'_succ, List.filterMap_cons, List.filter_cons,
      Nat.sub_self, List.getElem?_cons_zero, hrest, ← ih (m + 1)]
    cases h : test a <;> simp [h]

/-- The verify state of a ply's form in a slot. -/
def Slot.verifyOf (x : Slot) (p : Ply) : Option VerifyState := (x.subs.get p).map (·.verify)

/-- Whether the form of a ply at an index awaits its record. -/
def State.awaits (s : State) (p : Ply) (j : Nat) : Bool :=
  (s.slotAt j).any fun x => decide (x.verifyOf p = some .await)

theorem State.awaiting_eq (s : State) (p : Ply) :
    s.awaiting p = (List.range' s.marriageSlot s.slots.length).filter (s.awaits p) := by
  have h := filterMap_zipIdx (fun x => decide (x.verifyOf p = some .await)) s.slots s.marriageSlot
  simp only [decide_eq_true_eq] at h
  refine Eq.trans h (List.filter_congr fun j hj => ?_)
  obtain ⟨n, rfl⟩ := Nat.exists_eq_add_of_le (List.mem_range'_1.mp hj).1
  rw [State.awaits, State.slotAt_add, Nat.add_sub_cancel_left]

theorem State.awaiting_nodup (s : State) (p : Ply) : (s.awaiting p).Nodup := by
  rw [State.awaiting_eq]
  exact (List.nodup_range' ..).filter _

/-! ### What spoils leave of the verify states -/

/-- Two states whose windows agree in their places and in every verify state. -/
structure State.SameVerify (s t : State) : Prop where
  marriageSlot : t.marriageSlot = s.marriageSlot
  length : t.slots.length = s.slots.length
  verify : ∀ j p, (t.slotAt j).map (·.verifyOf p) = (s.slotAt j).map (·.verifyOf p)

namespace State.SameVerify

variable {s t u : State}

theorem trans (h : s.SameVerify t) (k : t.SameVerify u) : s.SameVerify u :=
  ⟨k.marriageSlot.trans h.marriageSlot, k.length.trans h.length,
    fun j p => (k.verify j p).trans (h.verify j p)⟩

theorem of_slots (hs : t.slots = s.slots) (hm : t.marriageSlot = s.marriageSlot) : s.SameVerify t :=
  ⟨hm, congrArg List.length hs, fun j p => by rw [State.slotAt_of_slots hs hm]⟩

theorem refl (s : State) : s.SameVerify s := of_slots rfl rfl

/-- A change of one slot that leaves its verify states. -/
theorem modSlot (s : State) (j : Nat) {f : Slot → Slot} (hf : ∀ x p, (f x).verifyOf p = x.verifyOf p) :
    s.SameVerify (s.modSlot j f) where
  marriageSlot := State.modSlot_marriageSlot ..
  length := State.slots_modSlot_length ..
  verify i p := by
    by_cases hi : i = j
    · subst hi
      cases hx : s.slotAt i with
      | none => rw [State.modSlot_of_not_held hx, hx]
      | some x => rw [State.slotAt_modSlot_self hx, Option.map_some, Option.map_some, hf]
    · rw [s.slotAt_modSlot_ne hi]

theorem awaiting (h : s.SameVerify t) (p : Ply) : t.awaiting p = s.awaiting p := by
  have hawaits : t.awaits p = s.awaits p := by
    funext j
    have hj := h.verify j p
    unfold State.awaits
    cases hs : s.slotAt j <;> cases ht : t.slotAt j <;> simp_all
  rw [State.awaiting_eq, State.awaiting_eq, h.marriageSlot, h.length, hawaits]

end State.SameVerify

theorem Slot.verifyOf_mapPrint (x : Slot) (f : PrintState → PrintState) (p : Ply) :
    (x.mapPrint f).verifyOf p = x.verifyOf p := by
  rw [Slot.verifyOf, Slot.verifyOf, Slot.mapPrint, PerPly.get_map, Option.map_map]
  rfl

theorem Slot.verifyOf_makeVoid (x : Slot) (r : VoidReason) (p : Ply) :
    (x.makeVoid r).verifyOf p = x.verifyOf p := by
  unfold Slot.makeVoid
  split
  · exact x.verifyOf_mapPrint _ p
  all_goals rfl

theorem Slot.verifyOf_setSpoilPending (x : Slot) (mark : SpoilMark) (p : Ply) :
    (x.setSpoilPending mark).verifyOf p = x.verifyOf p := by
  unfold Slot.setSpoilPending
  split <;> rfl

theorem Slot.verifyOf_rewound (x : Slot) (above : Bool) (p : Ply) :
    (x.rewound above).verifyOf p = x.verifyOf p := by
  obtain ⟨-, he⟩ | ⟨-, -, he⟩ | ⟨-, -, -, he⟩ | ⟨-, -, -, he⟩ := x.rewound_cases above <;> rw [he]
  · exact x.verifyOf_makeVoid _ p
  · exact x.verifyOf_mapPrint _ p
  · exact x.verifyOf_mapPrint _ p

theorem Slot.subs_modSub (x : Slot) (p q : Ply) (f : SubRecord → SubRecord) :
    (x.modSub p f).subs.get q = if q = p then (x.subs.get p).map f else x.subs.get q := by
  by_cases h : q = p
  · subst h; rw [if_pos rfl]; exact PerPly.get_set_self ..
  · rw [if_neg h]; exact PerPly.get_set_ne _ _ h

theorem Slot.verifyOf_second (x : Slot) (q : Ply) (r : Reason) (p : Ply) :
    (x.modSub q fun k => { k with second := some r }).verifyOf p = x.verifyOf p := by
  rw [Slot.verifyOf, Slot.verifyOf, Slot.subs_modSub]
  split
  · subst_vars; rw [Option.map_map]; rfl
  · rfl

theorem State.SameVerify.rewind (s : State) (u : Nat) (init : Option Undone) :
    s.SameVerify (s.rewind u init).1 where
  marriageSlot := (s.rewind_slots u init).2
  length := (s.rewind_frame u init).length
  verify j p := by
    rw [State.slotAt_rewind, Option.map_map]
    congr 1
    funext x
    simp only [Function.comp]
    split
    · exact x.verifyOf_rewound _ p
    · rfl

/-- A spoil changes dispositions, print states and reasons, and no verify state. -/
theorem State.SameVerify.takeSpoil (s : State) (j : Nat) (mark : SpoilMark) :
    s.SameVerify (s.takeSpoil j mark) := by
  obtain ⟨-, he⟩ | ⟨_, -, -, he⟩ | ⟨_, b, -, -, ⟨-, -, he⟩ | ⟨-, he⟩⟩ := s.takeSpoil_cases j mark <;>
    rw [he]
  · exact .refl s
  · exact .modSlot s j fun x p => x.verifyOf_second mark.ply mark.reason p
  · rw [State.rollbackSpoil]
    have hrewind := (State.SameVerify.modSlot s j fun x p => x.verifyOf_makeVoid (.spoil mark) p).trans
      (.rewind _ (j + 1) (some ⟨b, false⟩))
    exact hrewind.trans (.of_slots (by simp) (by simp))
  · rw [State.deferSpoil_eq]
    have hjoined := State.joinMakeup_joined (s.modSlot j fun slot => slot.setSpoilPending mark) (b.spoilEntry j)
    refine (State.SameVerify.modSlot s j fun x p => x.verifyOf_setSpoilPending mark p).trans ?_
    exact .of_slots (by rw [State.notify_slots, hjoined.slots]) (by
      rw [State.notify_marriageSlot, hjoined.marriageSlot])

theorem State.SameVerify.spoilNoResult (p : Ply) (s : State) (j : Nat) :
    s.SameVerify (s.spoilNoResult p j) := by
  unfold State.spoilNoResult
  split
  · exact .takeSpoil s j _
  · exact .refl s

theorem State.SameVerify.spoils (p : Ply) (js : List Nat) (s : State) :
    s.SameVerify (js.foldl (State.spoilNoResult p) s) := by
  induction js generalizing s with
  | nil => exact .refl s
  | cons j js ih => exact (State.SameVerify.spoilNoResult p s j).trans (ih _)

/-! ### The gap (R100) -/

/-- A form marked NORESULT is awaiting no longer, and the others are as they were. -/
theorem State.awaits_markNoResult (s : State) (p : Ply) (i j : Nat) :
    (s.markNoResult p j).awaits p i = (s.awaits p i && decide (i ≠ j)) := by
  have hmark : s.markNoResult p j
      = s.modSlot j fun x => x.modSub p fun r => { r with verify := .noresult } := rfl
  unfold State.awaits
  rw [hmark]
  by_cases hi : i = j
  · subst hi
    cases hx : s.slotAt i with
    | none => rw [State.modSlot_of_not_held hx, hx]; simp
    | some x =>
      rw [State.slotAt_modSlot_self hx]
      cases hr : x.subs.get p <;> simp [Slot.verifyOf, Slot.subs_modSub, hr]
  · rw [s.slotAt_modSlot_ne hi]
    simp [hi]

theorem State.awaiting_markNoResult (s : State) (p : Ply) (j : Nat) :
    (s.markNoResult p j).awaiting p = (s.awaiting p).filter fun i => decide (i ≠ j) := by
  have hframe := s.modSub_frame j p fun r => { r with verify := .noresult }
  have hmark : (s.markNoResult p j).marriageSlot = s.marriageSlot
      ∧ (s.markNoResult p j).slots.length = s.slots.length := ⟨hframe.marriageSlot, hframe.length⟩
  rw [State.awaiting_eq, State.awaiting_eq, hmark.1, hmark.2, List.filter_filter]
  refine List.filter_congr fun i _ => ?_
  rw [State.awaits_markNoResult, Bool.and_comm]

theorem State.awaiting_marks (p : Ply) (js : List Nat) (s : State) :
    (js.foldl (State.markNoResult p) s).awaiting p = (s.awaiting p).filter fun i => decide (i ∉ js) := by
  induction js generalizing s with
  | nil => simp
  | cons j js ih =>
    rw [List.foldl_cons, ih, State.awaiting_markNoResult, List.filter_filter]
    refine List.filter_congr fun i _ => ?_
    rw [← Bool.decide_and]
    exact decide_eq_decide.mpr (by rw [List.mem_cons, not_or, and_comm])

theorem filter_not_mem_take {l : List Nat} (h : l.Nodup) (k : Nat) :
    l.filter (fun i => decide (i ∉ l.take k)) = l.drop k := by
  have hdisjoint : ∀ i ∈ l.drop k, i ∉ l.take k := fun i hd ht =>
    List.disjoint_take_drop h le_rfl ht hd
  have hsplit : l.filter (fun i => decide (i ∉ l.take k))
      = (l.take k ++ l.drop k).filter fun i => decide (i ∉ l.take k) := by rw [List.take_append_drop]
  rw [hsplit, List.filter_append, List.filter_eq_nil_iff.mpr (by simp),
    List.filter_eq_self.mpr (fun i hi => decide_eq_true (hdisjoint i hi)), List.nil_append]

/-- R100: the forms passed over are those taken from the front; the others still await. -/
theorem State.awaiting_gap (s : State) (p : Ply) (k : Nat) :
    (s.gap p k).awaiting p = (s.awaiting p).drop k := by
  rw [State.gap, (State.SameVerify.spoils p _ _).awaiting p, State.awaiting_marks,
    filter_not_mem_take (s.awaiting_nodup p)]

/-! ### Association (R102 to R105) -/

theorem State.associate_of_awaiting {s : State} {p : Ply} {j : Nat} {more : List Nat} {slot : Slot}
    (h : s.awaiting p = j :: more) (hslot : s.slotAt j = some slot) (seq : Byte) (r : ReadResult)
    (expected : Byte) : s.associate p seq r expected = s.verify j p (s.verifyOutcome p slot r) := by
  simp only [State.associate, h, hslot]

/-- The number expected is read of an unmatched record alone. -/
theorem State.associate_expected {s : State} {p : Ply} (h : s.awaiting p ≠ []) (seq : Byte)
    (r : ReadResult) (e f : Byte) : s.associate p seq r e = s.associate p seq r f := by
  unfold State.associate
  cases hw : s.awaiting p with
  | nil => exact absurd hw h
  | cons j more => rfl

theorem State.verifyOutcome_of_printed {s : State} {p : Ply} {slot : Slot} {r : SubRecord}
    (hr : slot.subs.get p = some r) (hp : r.print = .printed) (result : ReadResult) :
    s.verifyOutcome p slot result = verifyPrinted (s.verifyField p slot) result := by
  rw [State.verifyOutcome, hr, Option.map_some, hp, if_pos rfl]

theorem State.verifyOutcome_of_not_printed {s : State} {p : Ply} {slot : Slot} {r : SubRecord}
    (hr : slot.subs.get p = some r) (hp : r.print ≠ .printed) (result : ReadResult) :
    s.verifyOutcome p slot result = .seen := by
  rw [State.verifyOutcome, hr, Option.map_some, if_neg (by simpa using hp)]

theorem State.ply_modChecker_self (s : State) (p : Ply) (f : Checker → Checker) :
    ((s.modChecker p f).ply p).checker = f (s.ply p).checker := by
  rw [State.modChecker, State.ply_modPly, if_pos rfl]

theorem State.modChecker_modChecker (s : State) (p : Ply) (f g : Checker → Checker) :
    (s.modChecker p f).modChecker p g = s.modChecker p fun c => g (f c) := by
  rw [State.modChecker, State.modChecker, State.modPly_modPly]
  rfl

theorem State.takesRecords_of_act {s t : State} (h : PressAct s t) (p : Ply) :
    t.takesRecords p = s.takesRecords p := by
  rw [State.takesRecords, State.takesRecords, h.inRun, h.setup.active p, h.setup.record p]

/-- Settles O17: a record in sequence is one association; one after a gap is a gap, which leaves the forms
beyond those passed over, and then an association. -/
theorem recordInSequenceIsAssociated : Obligations.RecordInSequenceIsAssociated := by
  unfold Obligations.RecordInSequenceIsAssociated
  refine ⟨fun p seq chars j more slot r s htakes hseq hawaiting hslot hr hlow hhigh => ?sequence,
    fun p seq r s htakes hr hsynced => ?gap⟩
  case sequence =>
    intro synced
    have htext : readRecord (.text seq chars) = some (seq, .text chars) := if_pos ⟨hlow, hhigh⟩
    have hexec : ∀ {record result}, readRecord record = some (seq, result) →
        exec (.readerRecord p record) s = .next (synced.verify j p (synced.verifyOutcome p slot result)) :=
      fun hread => by
        rw [exec_readerRecord_of_read htakes hread, State.takeRecord_of_expected hseq,
          State.associate_of_awaiting (s := synced) hawaiting hslot]
    refine ⟨?printed, fun hprinted => ?_, fun hnot => ⟨?_, ?_⟩⟩
    case printed =>
      intro b g lay hprinted hcarries hg hlay field
      have hbinding : slot.binding = some b := Slot.carries_iff.mp hcarries
      have hfield : synced.verifyField p slot = some field := by
        have hlayout : synced.segmentLayout b.segment = some lay := by
          have hg' : synced.segment b.segment = some g := hg
          rw [State.segmentLayout, hg']
          exact hlay
        rw [State.verifyField, hbinding, Option.bind_some, hlayout, Option.map_some]
        rfl
      have hout := State.verifyOutcome_of_printed (s := synced) hr hprinted (.text chars)
      rw [hfield] at hout
      refine ⟨fun hmatch => ?_, fun hno => ?_⟩
      · have hverify : verifyPrinted (some field) (.text chars) = .isMatch := if_pos (by rw [hmatch])
        rw [hexec htext, hout, hverify]
        rfl
      · have hverify : verifyPrinted (some field) (.text chars) = .mismatch :=
          if_neg (by simpa using fun h : field = chars => hno h.symm)
        rw [hexec htext, hout, hverify]
        rfl
    · rw [hexec (record := .noRead seq) rfl, State.verifyOutcome_of_printed hr hprinted]
      rfl
    · rw [hexec htext, State.verifyOutcome_of_not_printed hr hnot]
      rfl
    · rw [hexec (record := .noRead seq) rfl, State.verifyOutcome_of_not_printed hr hnot]
      rfl
  case gap =>
    intro expected k hk hk' passed marked spoiled atRecord
    obtain ⟨result, hread⟩ := readRecord_of_readable hr
    have hspoiled : spoiled = s.gap p k := rfl
    have hatRecord : atRecord = (s.gap p k).modChecker p fun _ => ⟨true, seq⟩ := rfl
    have hawaiting : atRecord.awaiting p = (s.awaiting p).drop k := by
      rw [hatRecord, State.awaiting_modChecker, State.awaiting_gap]
    have hahead : (s.ply p).checker.ahead seq = k := if_pos hsynced
    have hexec : exec (.readerRecord p r) s = .next
        ((spoiled.modChecker p fun _ => ⟨true, seq + 1⟩).associate p seq result expected) := by
      rw [exec_readerRecord_of_read htakes hread, State.takeRecord_eq, hahead,
        if_neg (Nat.not_le.mpr hk'), hspoiled]
    have hmoved : (spoiled.modChecker p fun _ => ⟨true, seq + 1⟩).awaiting p = atRecord.awaiting p := rfl
    refine ⟨hawaiting, fun hsome => ?_, fun hnone => ?_⟩
    · have hact : PressAct s atRecord := (PressAct.gap s p k).trans (.modChecker _ p _)
      have htakes' : atRecord.takesRecords p = true := (State.takesRecords_of_act hact p).trans htakes
      have hchecker : (atRecord.ply p).checker = ⟨true, seq⟩ := State.ply_modChecker_self ..
      have hmod : atRecord.modChecker p (fun _ => ⟨true, seq + 1⟩)
          = spoiled.modChecker p fun _ => ⟨true, seq + 1⟩ := State.modChecker_modChecker ..
      rw [hexec, exec_readerRecord_of_read htakes' hread,
        State.takeRecord_of_expected (fun _ => by rw [hchecker]), hmod]
      exact congrArg Host.Outcome.next (State.associate_expected (hmoved.trans_ne hsome) ..)
    · rw [hexec, State.associate_of_none (hmoved.trans hnone)]

end Sys2Proof.Machine


/-! ## Marriages (Chapter 6) -/

namespace Sys2Proof.Machine

/-! ### A spoil of a slot that has none (R124) -/

/-- R126 to R128: a spoil of a BOUND slot that is not spoil-pending is decided of it. -/
theorem State.takeSpoil_decides {s : State} {j : Nat} {slot : Slot} {b : Binding}
    (hslot : s.slotAt j = some slot) (hd : slot.disp = .bound b none) (mark : SpoilMark) :
    ∃ x, (s.takeSpoil j mark).slotAt j = some x ∧ x.disp = s.spoiled b mark ∧ ∀ p, x.verifyOf p = slot.verifyOf p := by
  have hbefore : b.makeup = false ↔ b.before.isSome = true := by
    rw [Binding.makeup]; cases b.before <;> simp
  have hverify := (State.SameVerify.takeSpoil s j mark).verify j
  by_cases hroll : b.makeup = false ∧ s.policy = some .rollback
  · have hmark : s.spoiled b mark = .void b (.spoil mark) := if_pos ⟨hbefore.mp hroll.1, hroll.2⟩
    rw [State.takeSpoil_of_rollback hslot hd hroll.1 hroll.2] at hverify ⊢
    have hself := State.slotAt_modSlot_self hslot fun slot => slot.makeVoid (.spoil mark)
    have hrewind := State.slotAt_rewind (s.modSlot j fun slot => slot.makeVoid (.spoil mark)) (j + 1)
      (some ⟨b, false⟩) j
    rw [hself, Option.map_some, if_neg (by omega)] at hrewind
    have hslotAt : (s.rollbackSpoil j mark b).slotAt j = some (slot.makeVoid (.spoil mark)) := by
      rw [← hrewind]
      exact State.slotAt_of_slots (by simp [State.rollbackSpoil]) (by simp [State.rollbackSpoil]) j
    refine ⟨_, hslotAt, (Slot.makeVoid_disp hd _).trans hmark.symm, fun p => slot.verifyOf_makeVoid _ p⟩
  · have hmark : s.spoiled b mark = .bound b (some mark) :=
      if_neg fun h => hroll ⟨hbefore.mpr h.1, h.2⟩
    have hdefer : b.makeup = true ∨ s.policy ≠ some .rollback := by
      by_contra h
      rw [not_or, not_not, Bool.not_eq_true] at h
      exact hroll h
    rw [State.takeSpoil_of_defer hslot hd hdefer, State.deferSpoil_eq]
    have hself := State.slotAt_modSlot_self hslot fun slot => slot.setSpoilPending mark
    have hjoined := State.joinMakeup_joined (s.modSlot j fun slot => slot.setSpoilPending mark) (b.spoilEntry j)
    refine ⟨slot.setSpoilPending mark, ?_, ?_, fun p => slot.verifyOf_setSpoilPending mark p⟩
    · rw [← hself]
      exact State.slotAt_of_slots (by rw [State.notify_slots, hjoined.slots])
        (by rw [State.notify_marriageSlot, hjoined.marriageSlot]) j
    · rw [Slot.setSpoilPending_of_bound hd, hmark]

/-- Whether a spoil of a slot has been decided. -/
def Disposition.decided : Disposition → Bool
  | .void _ _ => true
  | .bound _ (some _) => true
  | .bound _ none => false
  | .opened => false
  | .skip => false

/-- R9: of a slot whose spoil is decided, a later spoil leaves the disposition. -/
theorem State.takeSpoil_decided {s : State} {j : Nat} {x : Slot} (hx : s.slotAt j = some x)
    (hd : x.disp.decided = true) (mark : SpoilMark) :
    ∃ y, (s.takeSpoil j mark).slotAt j = some y ∧ y.disp = x.disp := by
  have hsecond : s.takeSpoil j mark = s.secondReason j mark := by
    rw [State.takeSpoil, hx]
    dsimp only
    cases h : x.disp with
    | void b r => rfl
    | bound b m => cases m with
      | some m => rfl
      | none => simp [h, Disposition.decided] at hd
    | opened => rw [h] at hd; exact absurd hd (by decide)
    | skip => rw [h] at hd; exact absurd hd (by decide)
  rw [hsecond]
  exact ⟨_, State.slotAt_modSlot_self hx _, rfl⟩

theorem State.takeSpoils_decided (marks : List SpoilMark) {s : State} {j : Nat} {x : Slot}
    (hx : s.slotAt j = some x) (hd : x.disp.decided = true) :
    ∃ y, (s.takeSpoils j marks).slotAt j = some y ∧ y.disp = x.disp := by
  induction marks generalizing s x with
  | nil => exact ⟨x, hx, rfl⟩
  | cons mark marks ih =>
    obtain ⟨y, hy, hyd⟩ := State.takeSpoil_decided hx hd mark
    obtain ⟨z, hz, hzd⟩ := ih hy (by rw [hyd]; exact hd)
    exact ⟨z, hz, hzd.trans hyd⟩

theorem State.spoiled_decided (s : State) (b : Binding) (mark : SpoilMark) :
    (s.spoiled b mark).decided = true := by
  unfold State.spoiled
  split <;> rfl

/-- R114, R118: of several spoils, the first is decided of the set. -/
theorem State.takeSpoils_first {s : State} {j : Nat} {slot : Slot} {b : Binding}
    (hslot : s.slotAt j = some slot) (hd : slot.disp = .bound b none) (mark : SpoilMark)
    (marks : List SpoilMark) :
    ∃ x, (s.takeSpoils j (mark :: marks)).slotAt j = some x ∧ x.disp = s.spoiled b mark := by
  obtain ⟨x, hx, hxd, -⟩ := State.takeSpoil_decides hslot hd mark
  obtain ⟨y, hy, hyd⟩ := State.takeSpoils_decided marks hx (by rw [hxd]; exact s.spoiled_decided b mark)
  exact ⟨y, hy, hyd.trans hxd⟩

/-- A spoil raises Rollbacks at most. -/
theorem State.takeSpoil_tallies (s : State) (j : Nat) (mark : SpoilMark) :
    ∃ n, (s.takeSpoil j mark).tallies = { s.tallies with rollbacks := n } := by
  obtain ⟨-, he⟩ | ⟨_, -, -, he⟩ | ⟨_, b, -, -, ⟨-, -, he⟩ | ⟨-, he⟩⟩ := s.takeSpoil_cases j mark <;>
    rw [he]
  · exact ⟨_, rfl⟩
  · exact ⟨s.tallies.rollbacks, by rw [State.secondReason, State.modSub, State.modSlot_tallies]⟩
  · have hcorrected := (s.sameFrom_modSlot j fun slot => slot.makeVoid (.spoil mark)).corrected (b, none)
    obtain ⟨-, -, -, -, -, htallies⟩ := hcorrected
    have hkept : ((s.modSlot j fun slot => slot.makeVoid (.spoil mark)).rewind (j + 1)
        (some ⟨b, false⟩)).1.tallies = s.tallies := htallies
    exact ⟨raiseSaturating s.tallies.rollbacks 1, by simp [State.rollbackSpoil, hkept]⟩
  · have hjoined := State.joinMakeup_joined (s.modSlot j fun slot => slot.setSpoilPending mark) (b.spoilEntry j)
    exact ⟨s.tallies.rollbacks, by
      rw [State.deferSpoil_eq, State.notify_tallies, hjoined.tallies, State.modSlot_tallies]⟩

theorem State.takeSpoils_tallies (marks : List SpoilMark) (s : State) (j : Nat) :
    ∃ n, (s.takeSpoils j marks).tallies = { s.tallies with rollbacks := n } := by
  induction marks generalizing s with
  | nil => exact ⟨_, rfl⟩
  | cons mark marks ih =>
    obtain ⟨n, hn⟩ := s.takeSpoil_tallies j mark
    obtain ⟨k, hk⟩ := ih (s.takeSpoil j mark)
    exact ⟨k, hk.trans (by rw [hn])⟩

/-! ### The first ply of an order -/

/-- The plies before a ply in the order P0..P5 are those of a lower number. -/
theorem plyOrder_split (p : Ply) : ∃ l r, plyOrder = l ++ p :: r ∧ ∀ q ∈ l, plyNumber q < plyNumber p := by
  refine ⟨plyOrder.take (plyNumber p), plyOrder.drop (plyNumber p + 1), ?_, ?_⟩
  · cases p <;> rfl
  · cases p <;> decide

theorem mem_plyOrder (p : Ply) : p ∈ plyOrder := by cases p <;> decide

theorem plyOrder_nodup : plyOrder.Nodup := by decide

/-- The first of what the plies give in order is what the first ply that gives something gives. -/
theorem flatMap_activePlies {α : Type} (s : State) (g : Ply → List α) {p : Ply} {a : α} {as : List α}
    (hp : s.active p = true) (hgives : g p = a :: as)
    (hnone : ∀ q, s.active q = true → plyNumber q < plyNumber p → g q = []) :
    ∃ more, s.activePlies.flatMap g = a :: more := by
  obtain ⟨l, r, horder, hlow⟩ := plyOrder_split p
  have hbefore : (l.filter s.active).flatMap g = [] := by
    rw [List.flatMap_eq_nil_iff]
    intro q hq
    obtain ⟨hmem, hactive⟩ := List.mem_filter.mp hq
    exact hnone q hactive (hlow q hmem)
  refine ⟨as ++ (r.filter s.active).flatMap g, ?_⟩
  rw [State.activePlies, horder, List.filter_append, List.filter_cons_of_pos hp, List.flatMap_append,
    List.flatMap_cons, hbefore, hgives]
  rfl

/-! ### The alignment check (R111) -/

theorem PlyState.aligned_iff (ps : PlyState) (j : Nat) : ps.aligned j = true ↔
    ps.unit.headSlot = j + ps.record.pathLength ∨ ps.unit.headSlot = j + ps.record.pathLength + 1 := by
  simp [PlyState.aligned]

theorem State.mem_misaligned (s : State) (j : Nat) (p : Ply) :
    p ∈ s.misaligned j ↔ s.active p = true ∧ (s.ply p).aligned j = false := by
  simp [State.misaligned, State.activePlies, mem_plyOrder, and_comm]

theorem State.misaligned_nodup (s : State) (j : Nat) : (s.misaligned j).Nodup :=
  (plyOrder_nodup.filter _).filter _

section Raised

variable {j : Nat}

theorem State.raises_ply_of_not_mem (ps : List Ply) (s : State) {p : Ply} (h : p ∉ ps) :
    (ps.foldl (State.raiseAlignment j) s).ply p = s.ply p := by
  induction ps generalizing s with
  | nil => rfl
  | cons q qs ih =>
    rw [List.mem_cons, not_or] at h
    rw [List.foldl_cons, ih _ h.2]
    exact s.ply_raiseFault_ne _ h.1

/-- R111, R158, R159: a ply out of alignment has ALIGNMENT captured once, at its position. -/
theorem State.raises_ply_of_mem {ps : List Ply} (hnodup : ps.Nodup) (s : State) {p : Ply} (h : p ∈ ps) :
    (ps.foldl (State.raiseAlignment j) s).ply p = { s.ply p with
      capture := some (recordCapture (s.ply p).capture
        ⟨.alignment, j, (s.ply p).unit.position, none, none⟩)
      head := { (s.ply p).head with
        inhibit := (s.ply p).head.inhibit || (s.ply p).record.inhibitSet.alignment } } := by
  obtain ⟨l, r, rfl⟩ := List.append_of_mem h
  have hr : p ∉ r := fun hp => by
    rw [List.nodup_append, List.nodup_cons] at hnodup
    exact hnodup.2.1.1 hp
  have hl : p ∉ l := fun hp => by
    rw [List.nodup_append] at hnodup
    exact hnodup.2.2 p hp p (List.mem_cons_self ..) rfl
  rw [List.foldl_append, List.foldl_cons, State.raises_ply_of_not_mem r _ hr, State.raiseAlignment,
    State.ply_raiseFault_self, State.raises_ply_of_not_mem l s hl]
  rfl

theorem State.raises_frame (ps : List Ply) (s : State) :
    (ps.foldl (State.raiseAlignment j) s).slots = s.slots
    ∧ (ps.foldl (State.raiseAlignment j) s).marriageSlot = s.marriageSlot
    ∧ (ps.foldl (State.raiseAlignment j) s).tallies = s.tallies
    ∧ (ps.foldl (State.raiseAlignment j) s).out = s.out := by
  induction ps generalizing s with
  | nil => exact ⟨rfl, rfl, rfl, rfl⟩
  | cons p ps ih =>
    obtain ⟨h1, h2, h3, h4⟩ := ih (s.raiseAlignment j p)
    rw [List.foldl_cons, h1, h2, h3, h4]
    simp [State.raiseAlignment]

end Raised

/-! ### The judgement (R115 to R121) -/

/-- The set judged and retired, before the run's end is tested. -/
def State.judged (s : State) (j : Nat) (x : Slot) : State := (s.closeMarriage j x).segmentDone j x

theorem State.judge_eq {s : State} {j : Nat} {x : Slot} (h : s.slotAt j = some x) :
    s.judge j = (s.judged j x).testEnd := by rw [State.judge, h]; rfl

theorem State.segmentDone_only (s : State) (j : Nat) (x : Slot) : s.segmentDone j x =
    { s with notices := (s.segmentDone j x).notices, withheld := (s.segmentDone j x).withheld } := by
  unfold State.segmentDone
  split
  · rfl
  · split
    · exact State.notify_only ..
    · rfl

/-- What the judgement leaves, whether or not the run is then over. -/
theorem State.testEnd_kept (s : State) : s.testEnd.lastMarriage = s.lastMarriage
    ∧ s.testEnd.tallies = s.tallies
    ∧ (∀ p, (s.testEnd.ply p).capture = (s.ply p).capture
      ∧ (s.testEnd.ply p).head.inhibit = (s.ply p).head.inhibit)
    ∧ (s.testEnd.runState ≠ .idle → s.testEnd = s) := by
  have hends : ∀ way, (s.finishRun way).lastMarriage = s.lastMarriage
      ∧ (s.finishRun way).tallies = s.tallies
      ∧ (∀ p, ((s.finishRun way).ply p).capture = (s.ply p).capture
        ∧ ((s.finishRun way).ply p).head.inhibit = (s.ply p).head.inhibit)
      ∧ ((s.finishRun way).runState ≠ .idle → s.finishRun way = s) := fun way => by
    obtain ⟨hidle, -, -, -, -, -, -, -, -, -, hply⟩ := s.finishRun_tornDown way
    exact ⟨s.finishRun_lastMarriage way, s.finishRun_tallies way, fun p => by rw [hply]; exact ⟨rfl, rfl⟩,
      fun h => absurd hidle h⟩
  obtain ⟨-, he⟩ | ⟨-, -, he⟩ | ⟨-, -, he⟩ := s.testEnd_cases
  · rw [he]; exact hends .complete
  · rw [he]; exact hends .drained
  · rw [he]; exact ⟨rfl, rfl, fun _ => ⟨rfl, rfl⟩, fun _ => rfl⟩

theorem State.judged_kept (s : State) (j : Nat) (x : Slot) :
    (s.judged j x).lastMarriage = some (x.marriageRecord j)
    ∧ (s.judged j x).tallies = s.tallies.count x.outcome x.isMakeup
    ∧ (s.judged j x).marker = x.outcome.marks ∧ (s.judged j x).marriageSlot = s.marriageSlot + 1
    ∧ (s.judged j x).plies = s.plies := by
  rw [State.judged, State.segmentDone_only]
  simp [State.closeMarriage]

theorem State.SetupKept.testEnd (s : State) : s.SetupKept s.testEnd := by
  obtain ⟨-, he⟩ | ⟨-, -, he⟩ | ⟨-, -, he⟩ := s.testEnd_cases
  · rw [he]; exact .finishRun s _
  · rw [he]; exact .finishRun s _
  · rw [he]; exact .refl s

theorem State.judged_frame (s : State) (j : Nat) (x : Slot) : s.PressFrame (s.judged j x) := by
  rw [State.judged, State.segmentDone_only]
  refine ⟨?_, by simp [State.closeMarriage]⟩
  simp [State.SetupKept, State.closeMarriage, State.ply]

theorem State.PressFrame.trans {s t u : State} (h : s.PressFrame t) (k : t.PressFrame u) : s.PressFrame u :=
  ⟨h.1.trans k.1, k.2.trans h.2⟩

theorem State.testEnd_frame (s : State) : s.PressFrame s.testEnd :=
  ⟨.testEnd s, (Handled.testEnd s).links⟩

theorem exec_setCutoff {s : State} {slot : Slot} {rest : List Slot} (hrun : s.inRun = true)
    (hs : s.slots = slot :: rest) : exec .setCutoff s = .next (s.settled.judge s.marriageSlot) := by
  have hensure : s.ensureMarriageSlot = s := by simp [State.ensureMarriageSlot, hs]
  simp only [exec, execSetCutoff, hrun, if_true, hensure, hs, List.isEmpty_cons, Bool.false_eq_true, if_false,
    State.marry_eq]

theorem State.slotAt_front {s : State} {slot : Slot} {rest : List Slot} (hs : s.slots = slot :: rest) :
    s.slotAt s.marriageSlot = some slot := by
  have h := s.slotAt_add 0
  rwa [Nat.add_zero, hs] at h

/-- A set with the spoil of its first reason is SPOILED (R115, R118). -/
theorem Slot.judged_spoiled {s : State} {x : Slot} {b : Binding} {mark : SpoilMark}
    (h : x.disp = s.spoiled b mark) (j : Nat) :
    x.outcome = .spoiled ∧ x.marriageRecord j = ⟨j, .spoiled, some b, some mark⟩ := by
  unfold State.spoiled at h
  split at h <;> simp [Slot.marriageRecord, Slot.outcome, Slot.binding, Slot.spoilMark, h]

/-! ### The steps before the judgement (R110) -/

/-- The set at the marriage slot with the final checks written, and no spoil taken yet. -/
def State.checked (s : State) : State :=
  (((s.modSlot s.marriageSlot Slot.skipIfOpen).checkAlignment s.marriageSlot).1.finalChecks s.marriageSlot).1

/-- The spoils of a marriage, in their order (R114). -/
def State.marriageSpoils (s : State) : List SpoilMark :=
  ((s.modSlot s.marriageSlot Slot.skipIfOpen).checkAlignment s.marriageSlot).2
    ++ (((s.modSlot s.marriageSlot Slot.skipIfOpen).checkAlignment s.marriageSlot).1.finalChecks
      s.marriageSlot).2

theorem State.settled_eq (s : State) : s.settled = s.checked.takeSpoils s.marriageSlot s.marriageSpoils := rfl

theorem Slot.skipIfOpen_of_bound {x : Slot} {b : Binding} {m : Option SpoilMark} (h : x.disp = .bound b m) :
    x.skipIfOpen = x := by rw [Slot.skipIfOpen, h]

theorem State.checked_frame (s : State) : s.checked.marriageSlot = s.marriageSlot
    ∧ s.checked.tallies = s.tallies ∧ s.checked.out = s.out := by
  obtain ⟨-, hm, ht, ho⟩ := State.raises_frame (j := s.marriageSlot)
    ((s.modSlot s.marriageSlot Slot.skipIfOpen).misaligned s.marriageSlot)
    (s.modSlot s.marriageSlot Slot.skipIfOpen)
  simp only [State.checked, State.finalChecks, State.modActiveSubs, State.modSlot_marriageSlot,
    State.modSlot_tallies, State.modSlot_out, State.checkAlignment, hm, ht, ho, and_self]

theorem State.checked_plies (s : State) : s.checked.plies
    = ((s.misaligned s.marriageSlot).foldl (State.raiseAlignment s.marriageSlot)
      (s.modSlot s.marriageSlot Slot.skipIfOpen)).plies := by
  have hmis : (s.modSlot s.marriageSlot Slot.skipIfOpen).misaligned s.marriageSlot
      = s.misaligned s.marriageSlot := by rw [State.modSlot_only]; rfl
  rw [State.checked, State.finalChecks, State.modActiveSubs, State.modSlot_plies, State.checkAlignment, hmis]

/-- The slot married, as the final checks leave it. -/
theorem State.checked_slot {s : State} {slot : Slot} (hslot : s.slotAt s.marriageSlot = some slot) :
    ∃ x, s.checked.slotAt s.marriageSlot = some x ∧ x.disp = slot.skipIfOpen.disp := by
  have hself := State.slotAt_modSlot_self hslot Slot.skipIfOpen
  obtain ⟨hslots, hmarriage, -, -⟩ := State.raises_frame (j := s.marriageSlot)
    ((s.modSlot s.marriageSlot Slot.skipIfOpen).misaligned s.marriageSlot)
    (s.modSlot s.marriageSlot Slot.skipIfOpen)
  have hraised : ((s.modSlot s.marriageSlot Slot.skipIfOpen).checkAlignment s.marriageSlot).1.slotAt
      s.marriageSlot = some slot.skipIfOpen := by
    rw [← hself]
    exact State.slotAt_of_slots hslots hmarriage _
  exact ⟨_, State.slotAt_modSlot_self hraised _, rfl⟩

/-- R114, R115, R118: a BOUND set with spoils is judged SPOILED, with the first of them. -/
theorem State.marriage_spoiled {s : State} {slot : Slot} {rest : List Slot} {b : Binding} {mark : SpoilMark}
    {marks : List SpoilMark} (hs : s.slots = slot :: rest) (hd : slot.disp = .bound b none)
    (hmarks : s.marriageSpoils = mark :: marks) :
    let t := s.settled.judge s.marriageSlot
    t.lastMarriage = some ⟨s.marriageSlot, .spoiled, some b, some mark⟩
      ∧ (s.tallies.retired < 4294967295 → t.tallies.retired = s.tallies.retired + 1)
      ∧ (s.tallies.spoiled < 4294967295 → t.tallies.spoiled = s.tallies.spoiled + 1)
      ∧ t.tallies.good = s.tallies.good
      ∧ (t.runState ≠ .idle → t.marker = true ∧ t.marriageSlot = s.marriageSlot + 1) := by
  intro t
  obtain ⟨x, hx, hxd⟩ := State.checked_slot (State.slotAt_front hs)
  rw [Slot.skipIfOpen_of_bound hd, hd] at hxd
  obtain ⟨y, hy, hyd⟩ := State.takeSpoils_first hx hxd mark marks
  rw [← hmarks, ← State.settled_eq] at hy
  obtain ⟨hout, hrecord⟩ := Slot.judged_spoiled hyd s.marriageSlot
  obtain ⟨n, hn⟩ := State.takeSpoils_tallies s.marriageSpoils s.checked s.marriageSlot
  rw [← State.settled_eq, s.checked_frame.2.1] at hn
  have hmarriage : s.settled.marriageSlot = s.marriageSlot := by
    rw [State.settled_eq, (State.takeSpoils_frame _ _ _).marriageSlot, s.checked_frame.1]
  obtain ⟨hlast, htallies, hmarker, hindex, -⟩ := s.settled.judged_kept s.marriageSlot y
  obtain ⟨hlast', htallies', -, hsame⟩ := (s.settled.judged s.marriageSlot y).testEnd_kept
  have ht : t = (s.settled.judged s.marriageSlot y).testEnd := State.judge_eq hy
  rw [hout, hn] at htallies
  have hcount : t.tallies = ({ s.tallies with rollbacks := n } : Tallies).count .spoiled y.isMakeup := by
    rw [ht, htallies', htallies]
  refine ⟨by rw [ht, hlast', hlast, hrecord], fun h => ?_, fun h => ?_, by rw [hcount]; rfl, fun h => ?_⟩
  · rw [hcount]; exact if_pos h
  · rw [hcount]; exact if_pos h
  · rw [ht] at h ⊢
    rw [hsame h, hmarker, hindex, hout, hmarriage]
    exact ⟨rfl, rfl⟩

theorem State.settled_out (s : State) : (s.settled.judge s.marriageSlot).out = s.out := by
  rw [State.judge_out, State.settled_eq, (State.takeSpoils_frame _ _ _).out, s.checked_frame.2.2]

/-- The slot married is still held as it is judged. -/
theorem State.settled_slot {s : State} {slot : Slot} {rest : List Slot} (hs : s.slots = slot :: rest) :
    ∃ x, s.settled.slotAt s.marriageSlot = some x := by
  have hraised := State.raises_frame (j := s.marriageSlot)
    ((s.modSlot s.marriageSlot Slot.skipIfOpen).misaligned s.marriageSlot)
    (s.modSlot s.marriageSlot Slot.skipIfOpen)
  have hlen : s.settled.slots.length = s.slots.length := by
    rw [State.settled_eq, (State.takeSpoils_frame _ _ _).length, State.checked, State.finalChecks,
      State.modActiveSubs, State.slots_modSlot_length, State.checkAlignment, hraised.1,
      State.slots_modSlot_length]
  have hmarriage : s.settled.marriageSlot = s.marriageSlot := by
    rw [State.settled_eq, (State.takeSpoils_frame _ _ _).marriageSlot, s.checked_frame.1]
  obtain ⟨x, xs, hxs⟩ := List.exists_cons_of_length_pos (hlen.trans (congrArg List.length hs) ▸ Nat.succ_pos _ :
    0 < s.settled.slots.length)
  exact ⟨x, hmarriage ▸ State.slotAt_front hxs⟩

theorem State.marriage_frame {s : State} {slot : Slot} {rest : List Slot} (hs : s.slots = slot :: rest) :
    s.PressFrame (s.settled.judge s.marriageSlot) := by
  obtain ⟨x, hx⟩ := State.settled_slot hs
  rw [State.judge_eq hx]
  exact ((PressAct.settled s).frame.trans (s.settled.judged_frame _ x)).trans (State.testEnd_frame _)

end Sys2Proof.Machine


namespace Sys2Proof.Machine

/-- R114: the spoils of a marriage, ALIGN of each ply out of alignment first. -/
theorem State.marriageSpoils_eq {s : State} {slot : Slot} {rest : List Slot} (hs : s.slots = slot :: rest) :
    s.marriageSpoils = (if slot.skipIfOpen.isNumbered then
        (s.misaligned s.marriageSlot).map (fun p => ⟨.align, p⟩) else [])
      ++ s.activePlies.flatMap slot.skipIfOpen.finalSpoils := by
  have hself := State.slotAt_modSlot_self (State.slotAt_front hs) Slot.skipIfOpen
  have hact : PressAct s ((s.modSlot s.marriageSlot Slot.skipIfOpen).checkAlignment s.marriageSlot).1 :=
    (PressAct.skipIfOpen s s.marriageSlot).trans (.checkAlignment _ _)
  have hmis : (s.modSlot s.marriageSlot Slot.skipIfOpen).misaligned s.marriageSlot
      = s.misaligned s.marriageSlot := by rw [State.modSlot_only]; rfl
  have hnumbered : (s.modSlot s.marriageSlot Slot.skipIfOpen).numberedAt s.marriageSlot
      = slot.skipIfOpen.isNumbered := by rw [State.numberedAt, hself]
  obtain ⟨hslots, hmarriage, -, -⟩ := State.raises_frame (j := s.marriageSlot)
    ((s.modSlot s.marriageSlot Slot.skipIfOpen).misaligned s.marriageSlot)
    (s.modSlot s.marriageSlot Slot.skipIfOpen)
  have hraised : ((s.modSlot s.marriageSlot Slot.skipIfOpen).checkAlignment s.marriageSlot).1.slotAt
      s.marriageSlot = some slot.skipIfOpen := by
    rw [← hself]
    exact State.slotAt_of_slots hslots hmarriage _
  have hactive : ((s.modSlot s.marriageSlot Slot.skipIfOpen).checkAlignment s.marriageSlot).1.activePlies
      = s.activePlies := List.filter_congr fun p _ => hact.setup.active p
  rw [State.marriageSpoils, State.finalChecks, hraised, hactive, State.checkAlignment]
  dsimp only
  rw [hnumbered, hmis]

theorem State.marriageSpoils_of_bound {s : State} {slot : Slot} {rest : List Slot} {b : Binding}
    {m : Option SpoilMark} (hs : s.slots = slot :: rest) (hd : slot.disp = .bound b m) :
    s.marriageSpoils = (s.misaligned s.marriageSlot).map (fun p => ⟨.align, p⟩)
      ++ s.activePlies.flatMap slot.finalSpoils := by
  have hnumbered : slot.isNumbered = true := by simp [Slot.isNumbered, Slot.binding, hd]
  rw [State.marriageSpoils_eq hs, Slot.skipIfOpen_of_bound hd, if_pos hnumbered]

/-- The first ply out of alignment, where every lower one is aligned. -/
theorem State.misaligned_first {s : State} {j : Nat} {p : Ply} (hp : s.active p = true)
    (hno : (s.ply p).aligned j = false)
    (hlow : ∀ q, s.active q = true → plyNumber q < plyNumber p → (s.ply q).aligned j = true) :
    ∃ more, s.misaligned j = p :: more := by
  have hfirst := flatMap_activePlies s (fun q => if (s.ply q).aligned j then [] else [q]) (a := p) (as := [])
    hp (by simp [hno]) (fun q hq hlt => by simp [hlow q hq hlt])
  obtain ⟨more, hmore⟩ := hfirst
  refine ⟨more, hmore ▸ ?_⟩
  rw [State.misaligned]
  induction s.activePlies with
  | nil => rfl
  | cons q qs ih => cases hq : (s.ply q).aligned j <;> simp [hq, ih]

theorem State.misaligned_nil {s : State} {j : Nat}
    (h : ∀ q, s.active q = true → (s.ply q).aligned j = true) : s.misaligned j = [] := by
  rw [List.eq_nil_iff_forall_not_mem]
  intro q hq
  obtain ⟨hactive, hno⟩ := (s.mem_misaligned j q).mp hq
  rw [h q hactive] at hno
  exact absurd hno (by decide)

/-- What the final checks find of a ply whose form is settled: nothing. -/
theorem Slot.finalSpoils_of_settled {slot : Slot} {q : Ply}
    (h : ∀ k, slot.subs.get q = some k → k.print ≠ .pending ∧ (k.verify = .await → k.print ≠ .printed)) :
    slot.finalSpoils q = [] := by
  unfold Slot.finalSpoils
  cases hk : slot.subs.get q with
  | none => rfl
  | some k =>
    obtain ⟨hpending, hawait⟩ := h k hk
    have hno : ¬ (k.verify = .await ∧ k.print = .printed) := fun ⟨h1, h2⟩ => hawait h1 h2
    simp [hpending, hno]

theorem Slot.finalSpoils_of_pending {slot : Slot} {p : Ply} {r : SubRecord} {b : Binding}
    {m : Option SpoilMark} (hr : slot.subs.get p = some r) (hd : slot.disp = .bound b m)
    (hp : r.print = .pending) : slot.finalSpoils p = [⟨.miss, p⟩] := by
  simp [Slot.finalSpoils, hr, hp, Slot.isBound_of_disp hd]

theorem Slot.finalSpoils_of_await {slot : Slot} {p : Ply} {r : SubRecord} {b : Binding}
    {m : Option SpoilMark} (hr : slot.subs.get p = some r) (hd : slot.disp = .bound b m)
    (hp : r.print = .printed) (hv : r.verify = .await) : slot.finalSpoils p = [⟨.noresult, p⟩] := by
  simp [Slot.finalSpoils, hr, hp, hv, Slot.isNumbered, Slot.binding, hd]

/-- R111, R158: what a marriage leaves of the capture and the inhibit of a ply out of alignment. -/
theorem State.marriage_captured {s : State} {slot : Slot} {rest : List Slot} (hs : s.slots = slot :: rest)
    {p : Ply} (hp : p ∈ s.misaligned s.marriageSlot) :
    let t := s.settled.judge s.marriageSlot
    (t.ply p).capture = some (recordCapture (s.ply p).capture
        ⟨.alignment, s.marriageSlot, (s.ply p).unit.position, none, none⟩)
      ∧ (t.ply p).head.inhibit = ((s.ply p).head.inhibit || (s.ply p).record.inhibitSet.alignment) := by
  intro t
  have hraised := State.raises_ply_of_mem (j := s.marriageSlot) (s.misaligned_nodup s.marriageSlot)
    (s.modSlot s.marriageSlot Slot.skipIfOpen) hp
  have hply : (s.modSlot s.marriageSlot Slot.skipIfOpen).ply p = s.ply p := by
    rw [State.ply, State.modSlot_plies]; rfl
  rw [hply] at hraised
  have hchecked : s.checked.ply p = _ := (congrArg (fun v : PerPly PlyState => v.get p) s.checked_plies).trans hraised
  have hframe := (State.takeSpoils_frame s.marriageSpoils s.checked s.marriageSlot).ply p
  rw [← State.settled_eq, hchecked] at hframe
  obtain ⟨x, hx⟩ := State.settled_slot hs
  obtain ⟨-, -, hkept, -⟩ := (s.settled.judged s.marriageSlot x).testEnd_kept
  obtain ⟨-, -, -, -, hplies⟩ := s.settled.judged_kept s.marriageSlot x
  have ht : t = (s.settled.judged s.marriageSlot x).testEnd := State.judge_eq hx
  have hjudged : (s.settled.judged s.marriageSlot x).ply p = s.settled.ply p := by
    rw [State.ply, hplies]; rfl
  rw [ht, (hkept p).1, (hkept p).2, hjudged, hframe]
  exact ⟨rfl, rfl⟩

/-- Settles O16: the first part is about the ply captured, the second about the first form not settled. -/
theorem misalignedPlyIsCaptured : Obligations.MisalignedPlyIsCaptured := by
  unfold Obligations.MisalignedPlyIsCaptured
  intro p slot rest s hrun hs hp aligned spoils
  have hexec := exec_setCutoff hrun hs
  have haligned : ∀ q, aligned q ↔ (s.ply q).aligned s.marriageSlot = true := fun q =>
    (PlyState.aligned_iff ..).symm
  refine ⟨fun hno => ?_, fun hall b r hd hr hsettled => ?_⟩
  · have hno' : (s.ply p).aligned s.marriageSlot = false := by
      rw [← Bool.not_eq_true, ← haligned]; exact hno
    obtain ⟨hcapture, hinhibit⟩ :=
      State.marriage_captured hs ((s.mem_misaligned s.marriageSlot p).mpr ⟨hp, hno'⟩)
    refine ⟨_, hexec, fun hnone => ?_, fun k hk => ?_, fun halign => ?_, s.settled_out,
      State.marriage_frame hs, fun hlow b hd => ?_⟩
    · rw [hcapture, hnone]; rfl
    · rw [hcapture, hk]; rfl
    · rw [hinhibit, halign, Bool.or_true]
    · obtain ⟨more, hmore⟩ := State.misaligned_first hp hno' fun q hq hlt => (haligned q).mp (hlow q hq hlt)
      have hmarks := State.marriageSpoils_of_bound hs hd
      rw [hmore, List.map_cons, List.cons_append] at hmarks
      exact State.marriage_spoiled hs hd hmarks
  · have hmarks := State.marriageSpoils_of_bound hs hd
    rw [State.misaligned_nil fun q hq => (haligned q).mp (hall q hq), List.map_nil, List.nil_append] at hmarks
    have hfirst : ∀ {mark}, slot.finalSpoils p = [mark] →
        spoils (s.settled.judge s.marriageSlot) b mark.reason ∨ mark.ply ≠ p := fun {mark} hgives => by
      obtain ⟨more, hmore⟩ := flatMap_activePlies s slot.finalSpoils hp hgives fun q hq hlt =>
        Slot.finalSpoils_of_settled fun k hk => hsettled q k hq hlt hk
      by_cases hmark : mark.ply = p
      · subst hmark
        exact .inl (State.marriage_spoiled hs hd (hmarks.trans hmore))
      · exact .inr hmark
    refine ⟨_, hexec, s.settled_out, State.marriage_frame hs, fun hpending => ?_, fun hprinted hawait => ?_⟩
    · exact (hfirst (Slot.finalSpoils_of_pending hr hd hpending)).resolve_right fun h => h rfl
    · exact (hfirst (Slot.finalSpoils_of_await hr hd hprinted hawait)).resolve_right fun h => h rfl

end Sys2Proof.Machine


namespace Sys2Proof.Machine

/-! ### The retirement and the needs that waited (R17, R22) -/

/-- Whether a ply's need for a slot waited for the one place that a retirement frees. -/
def State.waitsAtTop (s : State) (p : Ply) : Prop :=
  s.stages p = true ∧ (s.ply p).nextNeeded = s.marriageSlot + 128 ∧ s.marriageSlot + 128 ≤ 4294967295
    ∧ s.slots.length ≤ 128

/-- A window after its marriage slot has left, before any ply asks; `added` holds where one has asked. -/
def State.dropped (s : State) (added : Bool) : State :=
  { s.dropSlot with slots := s.slots.drop 1
      ++ if added then List.replicate (129 - s.slots.length) s.freshSlot else [] }

theorem State.dropped_false (s : State) : s.dropped false = s.dropSlot := by
  unfold State.dropped
  exact congrArg (fun l : List Slot => { s.dropSlot with slots := l }) (List.append_nil _)

theorem State.dropped_windowEnd {s : State} {slot : Slot} {rest : List Slot} (hs : s.slots = slot :: rest)
    (added : Bool) : (s.dropped added).windowEnd
      = s.marriageSlot + 1 + (rest.length + if added then 129 - s.slots.length else 0) := by
  cases added <;> simp [State.windowEnd, State.dropped, State.dropSlot, hs]

theorem State.lookup_eq_notCreated (s : State) (j : Nat) :
    s.lookup j = .notCreated ↔ s.windowEnd ≤ j := by
  rw [State.lookup, State.windowEnd]
  by_cases hj : j < s.marriageSlot
  · simp only [hj, if_true]
    exact ⟨fun h => SlotAnswer.noConfusion h, fun h => by omega⟩
  · rw [if_neg hj]
    cases hx : s.slots[j - s.marriageSlot]? with
    | none =>
      have := List.getElem?_eq_none_iff.mp hx
      exact ⟨fun _ => by omega, fun _ => rfl⟩
    | some x =>
      have := (List.getElem?_eq_some_iff.mp hx).1
      exact ⟨fun h => SlotAnswer.noConfusion h, fun h => by omega⟩

theorem State.needWaits_iff (s : State) (p : Ply) : s.needWaits p = true ↔
    s.stages p = true ∧ s.windowEnd ≤ (s.ply p).nextNeeded ∧ s.hasRoom (s.ply p).nextNeeded = false := by
  rw [State.needWaits, Bool.and_eq_true, Bool.and_eq_true, decide_eq_true_eq, State.lookup_eq_notCreated,
    Bool.not_eq_true', and_assoc]

theorem State.hasRoom_iff {s : State} (hrun : s.inRun = true) (j : Nat) :
    s.hasRoom j = true ↔ j ≤ 4294967295 ∧ j + 1 ≤ s.marriageSlot + 128 := by
  have hmax : (4294967295 : Nat) = Config.maxSetIndex := rfl
  have hcap : (128 : Nat) = Config.windowCapacity := rfl
  rw [hmax, hcap]
  simp [State.hasRoom, hrun]

theorem State.askSlot_of_not {s : State} {p : Ply}
    (h : ¬ (s.stages p = true ∧ s.windowEnd ≤ (s.ply p).nextNeeded
      ∧ s.hasRoom (s.ply p).nextNeeded = true)) : s.askSlot p = s := by
  unfold State.askSlot
  split
  · rename_i hasks
    rw [Bool.and_eq_true, decide_eq_true_eq, State.lookup_eq_notCreated] at hasks
    exact State.create_of_no_room (by simpa using fun hroom => h ⟨hasks.1, hasks.2, hroom⟩)
  · rfl

theorem State.askSlot_of_room {s : State} {p : Ply} (hstages : s.stages p = true)
    (hend : s.windowEnd ≤ (s.ply p).nextNeeded) :
    s.askSlot p = s.create (s.ply p).nextNeeded := by
  have hasks : (s.stages p && decide (s.lookup (s.ply p).nextNeeded = .notCreated)) = true := by
    rw [Bool.and_eq_true, decide_eq_true_eq, State.lookup_eq_notCreated]
    exact ⟨hstages, hend⟩
  rw [State.askSlot, if_pos hasks]

section Retire

variable {s : State} {slot : Slot} {rest : List Slot} (hrun : s.inRun = true) (hs : s.slots = slot :: rest)
include hrun hs

/-- R17: what a ply whose need waited does as it asks again. -/
theorem State.askSlot_dropped {p : Ply} (hwaits : s.needWaits p = true) (added : Bool) :
    (s.dropped added).askSlot p = s.dropped (added || decide ((s.ply p).nextNeeded = s.marriageSlot + 128
      ∧ s.marriageSlot + 128 ≤ 4294967295)) := by
  obtain ⟨hstages, hend, hfull⟩ := (s.needWaits_iff p).mp hwaits
  rw [← Bool.not_eq_true, State.hasRoom_iff hrun] at hfull
  have hrun' : (s.dropped added).inRun = true := hrun
  have hply : (s.dropped added).ply p = s.ply p := rfl
  have hstages' : (s.dropped added).stages p = true := hstages
  have hmarriage : (s.dropped added).marriageSlot = s.marriageSlot + 1 := rfl
  have hlen : s.slots.length = rest.length + 1 := by rw [hs]; rfl
  simp only [State.windowEnd, hlen] at hend
  by_cases htop : (s.ply p).nextNeeded = s.marriageSlot + 128 ∧ s.marriageSlot + 128 ≤ 4294967295
  · obtain ⟨hnext, hmax⟩ := htop
    rw [decide_eq_true ⟨hnext, hmax⟩, Bool.or_true]
    cases added with
    | true =>
      refine (State.askSlot_of_not fun ⟨_, hend', _⟩ => ?_).trans rfl
      rw [State.dropped_windowEnd hs, hply, hnext, if_pos rfl] at hend'
      omega
    | false =>
      have hend' := State.dropped_windowEnd hs false
      have hroom := (State.hasRoom_iff hrun' (s.marriageSlot + 128)).mpr
        ⟨hmax, by rw [hmarriage]⟩
      have hcount : s.marriageSlot + 128 + 1 - (s.dropped false).windowEnd = 129 - s.slots.length := by
        rw [hend', if_neg (by decide)]; omega
      rw [State.askSlot_of_room hstages' (by rw [hend', hply, if_neg (by decide)]; omega), hply, hnext,
        State.create_of_room hroom, hcount, State.dropped_false]
      rfl
  · rw [decide_eq_false htop, Bool.or_false]
    refine State.askSlot_of_not fun ⟨_, _, hroom⟩ => ?_
    rw [State.hasRoom_iff hrun', hply, hmarriage] at hroom
    omega

theorem State.asks_dropped {ps : List Ply} (hwaits : ∀ p ∈ ps, s.needWaits p = true) (added : Bool) :
    ps.foldl State.askSlot (s.dropped added) = s.dropped (added || ps.any fun p =>
      decide ((s.ply p).nextNeeded = s.marriageSlot + 128 ∧ s.marriageSlot + 128 ≤ 4294967295)) := by
  induction ps generalizing added with
  | nil => rw [List.any_nil, Bool.or_false]; rfl
  | cons p ps ih =>
    rw [List.foldl_cons, State.askSlot_dropped hrun hs (hwaits p (List.mem_cons_self ..)),
      ih fun q hq => hwaits q (List.mem_cons_of_mem _ hq), List.any_cons, Bool.or_assoc]

/-- R17, R22: a retirement takes the slot away, and creates what a need that waited asked for. -/
theorem State.retireSlot_eq : ∃ added : Bool, s.retireSlot = s.dropped added
    ∧ (added = true ↔ ∃ p, s.waitsAtTop p) := by
  have hasks := State.asks_dropped hrun hs (ps := plyOrder.filter s.needWaits)
    (fun p hp => (List.mem_filter.mp hp).2) false
  rw [State.dropped_false] at hasks
  refine ⟨_, hasks, ?_⟩
  have hlen : s.slots.length = rest.length + 1 := by rw [hs]; rfl
  rw [Bool.false_or, List.any_eq_true]
  constructor
  · rintro ⟨p, hp, htop⟩
    obtain ⟨hstages, hend, -⟩ := (s.needWaits_iff p).mp (List.mem_filter.mp hp).2
    obtain ⟨hnext, hmax⟩ := of_decide_eq_true htop
    rw [hnext, State.windowEnd] at hend
    exact ⟨p, hstages, hnext, hmax, by omega⟩
  · rintro ⟨p, hstages, hnext, hmax, hfew⟩
    refine ⟨p, List.mem_filter.mpr ⟨mem_plyOrder p, (s.needWaits_iff p).mpr ⟨hstages, ?_, ?_⟩⟩,
      decide_eq_true ⟨hnext, hmax⟩⟩
    · rw [State.windowEnd, hnext]; omega
    · rw [← Bool.not_eq_true, State.hasRoom_iff hrun, hnext]; omega

end Retire

/-! ### The end of the run (R121) -/

theorem State.freshSlot_unnumbered (s : State) (n : Nat) :
    (List.replicate n s.freshSlot).all (fun x => !x.isBound) = true
    ∧ (List.replicate n s.freshSlot).all (fun x => !x.isNumbered) = true := by
  simp only [List.all_eq_true, List.mem_replicate, Bool.not_eq_true']
  exact ⟨fun x hx => by rw [hx.2]; rfl, fun x hx => by rw [hx.2]; rfl⟩

/-- R121: the two tests, read from what the marriage leaves of the window. -/
theorem State.over_iff {s t : State} {rest : List Slot} {n : Nat}
    (hslots : t.slots = rest ++ List.replicate n s.freshSlot) (hrun : t.runState = s.runState)
    (hcursor : t.cursor = s.cursor) (hbatch : t.batch = s.batch) :
    s.isOver rest = (t.complete || t.drained) := by
  have hfresh := s.freshSlot_unnumbered n
  have hbound : (!t.slots.any Slot.isBound) = rest.all fun x => !x.isBound := by
    rw [List.not_any_eq_all_not, hslots, List.all_append, hfresh.1, Bool.and_true]
  have hnumbered : (!t.slots.any Slot.isNumbered) = rest.all fun x => !x.isNumbered := by
    rw [List.not_any_eq_all_not, hslots, List.all_append, hfresh.2, Bool.and_true]
  rw [State.isOver, State.complete, State.drained, hbound, hnumbered, hrun, hcursor, hbatch]

theorem State.way_of_over {t : State} (h : t.complete = true ∨ (t.complete = false ∧ t.drained = true)) :
    t.testEnd = t.finishRun (if t.runState = .running then .complete else .drained) := by
  obtain hc | ⟨hc, hd⟩ := h
  · rw [State.testEnd, if_pos hc, if_pos ((State.complete_iff t).mp hc).1]
  · have hdraining := ((State.drained_iff t).mp hd).1
    rw [State.testEnd, if_neg (by simp [hc]), if_pos hd, hdraining, if_neg (by decide)]

end Sys2Proof.Machine


namespace Sys2Proof.Machine

/-! ### The marriage of an aligned set -/

theorem State.modSlot_front {s : State} {slot : Slot} {rest : List Slot} (hs : s.slots = slot :: rest)
    (f : Slot → Slot) : s.modSlot s.marriageSlot f = { s with slots := f slot :: rest } := by
  rw [State.modSlot, if_neg (Nat.lt_irrefl _), Nat.sub_self, hs]
  rfl

/-- Where every ply is aligned and no form leaves a spoil, the steps before the judgement change the set
alone, and not its disposition. -/
theorem State.settled_of_aligned {s : State} {slot : Slot} {rest : List Slot} (hs : s.slots = slot :: rest)
    (haligned : ∀ q, s.active q = true → (s.ply q).aligned s.marriageSlot = true)
    (hsettled : ∀ q r, s.active q = true → slot.skipIfOpen.subs.get q = some r →
      r.print ≠ .pending ∧ (r.verify = .await → r.print ≠ .printed)) :
    ∃ x, s.settled = { s with slots := x :: rest } ∧ x.disp = slot.skipIfOpen.disp := by
  have hnone := State.misaligned_nil haligned
  have hspoils : s.marriageSpoils = [] := by
    have hfinals : s.activePlies.flatMap slot.skipIfOpen.finalSpoils = [] := by
      rw [List.flatMap_eq_nil_iff]
      exact fun q hq => Slot.finalSpoils_of_settled fun k hk =>
        hsettled q k (List.mem_filter.mp hq).2 hk
    rw [State.marriageSpoils_eq hs, hfinals, hnone]
    cases slot.skipIfOpen.isNumbered <;> rfl
  have hmis : (s.modSlot s.marriageSlot Slot.skipIfOpen).misaligned s.marriageSlot = [] := by
    rw [← hnone, State.modSlot_only]; rfl
  rw [State.settled_eq, hspoils, State.checked, State.checkAlignment, hmis, State.modSlot_front hs]
  exact ⟨_, State.modSlot_front (s := { s with slots := slot.skipIfOpen :: rest }) rfl _, rfl⟩

theorem Slot.marriageRecord_congr {x y : Slot} (h : x.disp = y.disp) (j : Nat) :
    x.marriageRecord j = y.marriageRecord j := by
  simp [Slot.marriageRecord, Slot.outcome, Slot.binding, Slot.spoilMark, h]

theorem Slot.outcome_congr {x y : Slot} (h : x.disp = y.disp) : x.outcome = y.outcome := by
  simp [Slot.outcome, h]

theorem Slot.binding_congr {x y : Slot} (h : x.disp = y.disp) : x.binding = y.binding := by
  simp [Slot.binding, h]

theorem Slot.isMakeup_congr {x y : Slot} (h : x.disp = y.disp) : x.isMakeup = y.isMakeup := by
  rw [Slot.isMakeup, Slot.isMakeup, Slot.binding_congr h]

theorem Slot.isMakeup_iff (x : Slot) : x.isMakeup = true ↔ ∃ b, x.Carries b ∧ b.before = none := by
  simp only [Slot.carries_iff, Slot.isMakeup]
  cases x.binding <;> simp [Binding.makeup]

/-- R120: the SEGMENT-DONE of a set that ended its pass, GOOD or SPOILED. -/
def State.passesDone (s : State) (x : Slot) : List Binding :=
  x.binding.toList.filter fun b =>
    s.endedPass b && (decide (x.outcome = .good) || decide (x.outcome = .spoiled))

theorem State.passesDone_length_le (s : State) (x : Slot) : (s.passesDone x).length ≤ 1 :=
  (List.length_filter_le _ _).trans (by cases x.binding <;> simp)

theorem State.segmentDone_notices {s : State} (h : s.notices.length < 48) (j : Nat) (x : Slot) :
    (s.segmentDone j x).notices
      = s.notices ++ (s.passesDone x).map fun b => ⟨.segmentDone j b x.outcome, .owner⟩ := by
  unfold State.segmentDone State.passesDone
  cases hb : x.binding with
  | none => simp
  | some b =>
    dsimp only
    split
    · rename_i hdone
      rw [State.notify_notices h]
      simp [hdone]
    · rename_i hdone
      simp [hdone]

/-- The judgement of a set at the front of the window, the run's end not yet tested. -/
theorem State.judged_eq {s : State} {x : Slot} {rest : List Slot} (hrun : s.inRun = true)
    (hs : s.slots = x :: rest) :
    ∃ added : Bool, (added = true ↔ ∃ p, s.waitsAtTop p)
    ∧ s.judged s.marriageSlot x = { s with
      slots := rest ++ if added then List.replicate (129 - s.slots.length) s.freshSlot else []
      marriageSlot := s.marriageSlot + 1
      marker := x.outcome.marks
      tallies := s.tallies.count x.outcome x.isMakeup
      lastMarriage := some (x.marriageRecord s.marriageSlot)
      notices := (s.judged s.marriageSlot x).notices
      withheld := (s.judged s.marriageSlot x).withheld }
    ∧ (s.notices.length < 48 → (s.judged s.marriageSlot x).notices = s.notices
      ++ (s.passesDone x).map fun b => ⟨.segmentDone s.marriageSlot b x.outcome, .owner⟩) := by
  obtain ⟨added, hretire, hadded⟩ := State.retireSlot_eq (s := { s with
    marker := x.outcome.marks
    tallies := s.tallies.count x.outcome x.isMakeup
    lastMarriage := some (x.marriageRecord s.marriageSlot) }) hrun hs
  have hclose : s.closeMarriage s.marriageSlot x = { s with
      slots := rest ++ if added then List.replicate (129 - s.slots.length) s.freshSlot else []
      marriageSlot := s.marriageSlot + 1
      marker := x.outcome.marks
      tallies := s.tallies.count x.outcome x.isMakeup
      lastMarriage := some (x.marriageRecord s.marriageSlot) } := by
    rw [State.closeMarriage, hretire, State.dropped]
    dsimp only [State.dropSlot]
    rw [show s.slots.drop 1 = rest by rw [hs]; rfl]
    rfl
  refine ⟨added, hadded, ?_, fun hroom => ?_⟩
  · have honly := (s.closeMarriage s.marriageSlot x).segmentDone_only s.marriageSlot x
    rw [← State.judged] at honly
    generalize s.judged s.marriageSlot x = t at honly
    rw [hclose] at honly
    exact honly
  · have hnotices := State.segmentDone_notices (s := s.closeMarriage s.marriageSlot x)
      (by rw [hclose]; exact hroom) s.marriageSlot x
    refine hnotices.trans ?_
    rw [hclose]
    rfl

/-- The marker shows every outcome but GOOD (R116). -/
theorem SetOutcome.marks_eq (o : SetOutcome) : o.marks = decide (o ≠ .good) := by cases o <;> rfl

/-- R117: what a marriage raises, in the words of the statement. -/
theorem Tallies.count_spec (t : Tallies) (o : SetOutcome) (makeup : Bool) :
    let counts := fun (hit : Prop) (before after : Nat) =>
      (hit → before < 4294967295 → after = before + 1) ∧ (¬ hit → after = before)
    let u := t.count o makeup
    counts True t.retired u.retired ∧ counts (o = .good) t.good u.good
    ∧ counts (o = .spoiled) t.spoiled u.spoiled ∧ counts (o = .void) t.void u.void
    ∧ counts (o = .blank) t.blank u.blank ∧ counts (o = .good ∧ makeup = true) t.makeupGood u.makeupGood
    ∧ u.skipped = t.skipped ∧ u.rollbacks = t.rollbacks ∧ u.withdrawn = t.withdrawn := by
  have hraise : ∀ {n k}, k < 4294967295 → raiseTally n k = k + 1 := fun h => if_pos h
  cases o <;> cases makeup <;> simp +contextual [Tallies.count, hraise]

/-- The outcome, as the statement reads it off the disposition (R115). -/
theorem Slot.outcome_eq (x : Slot) : x.outcome = match x.disp with
    | .opened => .blank
    | .skip => .blank
    | .bound _ none => .good
    | .bound _ (some _) => .spoiled
    | .void _ (.spoil _) => .spoiled
    | .void _ .collateral => .void
    | .void _ .abort => .void := by
  unfold Slot.outcome
  cases x.disp with
  | opened => rfl
  | skip => rfl
  | bound b m => cases m <;> rfl
  | void b r => cases r <;> rfl

/-- Settles O15: an aligned and settled set is judged as it stands; the judgement is `State.judged_eq`, and
the two tests of the run's end follow. -/
theorem alignedMarriageJudgesTheSet : Obligations.AlignedMarriageJudgesTheSet := by
  unfold Obligations.AlignedMarriageJudgesTheSet
  refine ⟨fun slot rest s hrun hs halign hforms => ?marriage, fun s hrun hs hm => ?empty⟩
  case empty =>
    have hroom : s.hasRoom s.marriageSlot = true :=
      (State.hasRoom_iff hrun _).mpr ⟨hm, by omega⟩
    have hensure : s.ensureMarriageSlot = { s with slots := [s.freshSlot] } := by
      have hone : s.marriageSlot + 1 - s.windowEnd = 1 := by simp [State.windowEnd, hs]
      rw [State.ensureMarriageSlot, hs, List.isEmpty_nil, if_pos rfl, State.create_of_room hroom, hone, hs]
      rfl
    have hrun' : ({ s with slots := [s.freshSlot] } : State).inRun = true := hrun
    rw [exec_setCutoff hrun' rfl]
    simp only [exec, execSetCutoff, hrun, if_true, hensure, List.isEmpty_cons, Bool.false_eq_true, if_false,
      State.marry_eq]
  case marriage =>
    intro judged outcome passDone asked
    have houtcome : judged.outcome = outcome := judged.outcome_eq
    obtain ⟨x, hsettled, hdisp⟩ := State.settled_of_aligned hs
      (fun q hq => (PlyState.aligned_iff ..).mpr (halign q hq)) fun q r hq hr => hforms q r hq hr
    have hexec := exec_setCutoff hrun hs
    have hout := s.settled_out
    have hframe := State.marriage_frame hs
    have hfront : s.settled.slotAt s.marriageSlot = some x := by
      rw [hsettled]
      exact State.slotAt_front (s := { s with slots := x :: rest }) rfl
    rw [State.judge_eq hfront, hsettled] at hexec hout hframe
    obtain ⟨added, hadded, hjudged, hnotices⟩ :=
      State.judged_eq (s := { s with slots := x :: rest }) (x := x) (rest := rest) hrun rfl
    have houtX : x.outcome = outcome := (Slot.outcome_congr hdisp).trans houtcome
    have hpasses : State.passesDone { s with slots := x :: rest } x = passDone := by
      dsimp only [passDone]
      rw [State.passesDone, houtX, Slot.binding_congr hdisp]
      rfl
    have hasked : asked ↔ added = true := by
      rw [hadded]
      refine exists_congr fun p => ?_
      have hdepth : Config.stagingDepth = 4 := rfl
      have hlength : (x :: rest).length = s.slots.length := by rw [hs]; rfl
      simp only [State.waitsAtTop, State.stages_iff, hlength, hdepth, and_assoc]
      exact (and_iff_right hrun).symm
    rw [houtX, Slot.isMakeup_congr hdisp, Slot.marriageRecord_congr hdisp] at hjudged
    rw [houtX, hpasses] at hnotices
    dsimp only at hexec hout hframe hjudged hnotices
    generalize State.judged { s with slots := x :: rest } s.marriageSlot x = u at *
    have hkept := u.testEnd_kept
    have hslots : u.slots = rest ++ List.replicate (if added then 129 - s.slots.length else 0) s.freshSlot := by
      have hlength : (x :: rest).length = s.slots.length := by rw [hs]; rfl
      have hu : u.slots = rest ++ if added then List.replicate (129 - (x :: rest).length) s.freshSlot else [] :=
        (congrArg State.slots hjudged :)
      rw [hu, hlength]
      cases added <;> rfl
    have hrunU : u.runState = s.runState := (congrArg State.runState hjudged :)
    have hcursorU : u.cursor = s.cursor := (congrArg State.cursor hjudged :)
    have hbatchU : u.batch = s.batch := (congrArg State.batch hjudged :)
    have hmakeupsU : u.makeups = s.makeups := (congrArg State.makeups hjudged :)
    have htalliesU : u.tallies = s.tallies.count outcome judged.isMakeup :=
      (congrArg State.tallies hjudged :)
    have hpliesU : u.plies = s.plies := (congrArg State.plies hjudged :)
    have hlastU : u.lastMarriage = some (judged.marriageRecord s.marriageSlot) :=
      (congrArg State.lastMarriage hjudged :)
    have hmarkerU : u.marker = outcome.marks := (congrArg State.marker hjudged :)
    have hrenderU : u.render = s.render := (congrArg State.render hjudged :)
    have hcausesU : u.causes = s.causes := (congrArg State.causes hjudged :)
    have hindexU : u.marriageSlot = s.marriageSlot + 1 := (congrArg State.marriageSlot hjudged :)
    have hover := State.over_iff hslots hrunU hcursorU hbatchU
    have hends : s.isOver rest = true →
        u.testEnd = u.finishRun (if s.runState = .running then .complete else .drained) := fun h => by
      rw [← hrunU]
      refine State.way_of_over ?_
      rw [hover] at h
      cases hc : u.complete with
      | true => exact .inl rfl
      | false => rw [hc, Bool.false_or] at h; exact .inr ⟨rfl, h⟩
    have hgoes : s.isOver rest = false → u.testEnd = u := fun h => by
      rw [hover, Bool.or_eq_false_iff] at h
      rw [State.testEnd, if_neg (by simp [h.1]), if_neg (by simp [h.2])]
    have htallies : u.testEnd.tallies = s.tallies.count outcome judged.isMakeup := hkept.2.1.trans htalliesU
    refine ⟨_, hexec, ?_, htallies, ?counted, fun hno => ?goes, fun hyes => ?_, fun hroom => ?_, hout, hframe⟩
    case counted =>
      intro counts
      rw [htallies]
      have hspec := s.tallies.count_spec outcome judged.isMakeup
      simp only [Slot.isMakeup_iff] at hspec
      exact hspec
    case goes =>
      rw [hgoes hno, hrunU, hindexU, hmarkerU, hcursorU, hbatchU, hmakeupsU, hpliesU, hrenderU, hcausesU, hslots]
      refine ⟨rfl, rfl, fun h => ?_, fun h => ?_, outcome.marks_eq, rfl, rfl, rfl, rfl, rfl, rfl⟩
      · rw [if_pos (hasked.mp h)]
      · rw [if_neg (mt hasked.mpr h), List.replicate_zero, List.append_nil]
    · rw [hkept.1, hlastU, ← houtcome]
      rfl
    · rw [hends hyes]
      exact (u.finishRun_tornDown _).of_kept hcursorU hmakeupsU fun p => by rw [State.ply, hpliesU]; rfl
    · have hsent := hnotices (Nat.lt_of_le_of_lt hroom (by decide))
      cases hyes : s.isOver rest with
      | false => rw [hgoes hyes, hsent]; simp
      | true =>
        have hone : passDone.length ≤ 1 := by rw [← hpasses]; exact State.passesDone_length_le _ x
        have hfits : u.notices.length + 2 ≤ 48 := by
          rw [hsent, List.length_append, List.length_map]; omega
        rw [htallies, hends hyes, State.finishRun_notices hfits, hsent, htalliesU, hcursorU, hbatchU,
          hmakeupsU, if_pos rfl]

end Sys2Proof.Machine


/-! ## Normalisation (R30, R40 to R42) -/

namespace Sys2Proof.Machine

theorem Layout.maxSerial_cast (lay : Layout) : (lay.maxSerial : Int) = 10 ^ lay.width - 1 := by
  have hone : 1 ≤ 10 ^ lay.width := Nat.one_le_pow _ _ (by decide)
  rw [Layout.maxSerial, Nat.cast_sub hone]
  push_cast
  rfl

section Candidate

variable {blocks : Vector (Option Block) 64} {lay : Layout} {u w : Nat}

/-- R28: the serials of the two directions. -/
theorem Block.serial_of_asc {blk : Block} (h : blk.dir = .asc) (k : Nat) : blk.serial k = blk.base + k := by
  rw [Block.serial, h]

theorem Block.serial_of_desc {blk : Block} (h : blk.dir = .desc) (k : Nat) : blk.serial k = blk.base - k := by
  rw [Block.serial, h]

/-- R40 check 1 on a VALID block, by its serial. -/
theorem blockHolds_of_block {blk : Block} (hb : (blocks[u / 16384]?).join = some blk) : blockHolds blocks lay u =
    (decide (u % 16384 < blk.count) && (decide (lay.overflow = .roll)
      || (decide (0 ≤ blk.serial (u % 16384)) && decide (blk.serial (u % 16384) ≤ 10 ^ lay.width - 1)))) := by
  unfold blockHolds
  cases hdir : blk.dir with
  | asc => rw [hb, Block.serial_of_asc hdir]; simp only [hdir]
  | desc => rw [hb, Block.serial_of_desc hdir]; simp only [hdir]

/-- R40 check 1, in the words of the model. -/
theorem blockHolds_iff : blockHolds blocks lay u = true ↔ ∃ blk, (blocks[u / 16384]?).join = some blk
    ∧ u % 16384 < blk.count
    ∧ (lay.overflow = .stop → 0 ≤ blk.serial (u % 16384) ∧ blk.serial (u % 16384) ≤ lay.maxSerial) := by
  rw [Layout.maxSerial_cast]
  cases hb : (blocks[u / 16384]?).join with
  | none => simp [blockHolds, hb]
  | some blk =>
    have hone : (∃ b, some blk = some b ∧ u % 16384 < b.count ∧ (lay.overflow = .stop →
        0 ≤ b.serial (u % 16384) ∧ b.serial (u % 16384) ≤ 10 ^ lay.width - 1)) ↔ u % 16384 < blk.count
          ∧ (lay.overflow = .stop → 0 ≤ blk.serial (u % 16384) ∧ blk.serial (u % 16384) ≤ 10 ^ lay.width - 1) :=
      ⟨fun ⟨_, hblk, h⟩ => Option.some.inj hblk ▸ h, fun h => ⟨blk, rfl, h⟩⟩
    rw [blockHolds_of_block hb, hone, Bool.and_eq_true, Bool.or_eq_true, Bool.and_eq_true, decide_eq_true_eq,
      decide_eq_true_eq, decide_eq_true_eq, decide_eq_true_eq]
    cases lay.overflow <;> simp only [reduceCtorEq, false_or, true_or, and_true, forall_const, false_implies]

theorem blockHolds_of_ge (h : 1048576 ≤ u) : blockHolds blocks lay u = false := by
  rw [← Bool.not_eq_true, blockHolds_iff]
  rintro ⟨blk, hblk, -⟩
  have hnone : blocks[u / 16384]? = none := Vector.getElem?_eq_none (by omega)
  rw [hnone] at hblk
  exact absurd hblk (by simp)

/-- A candidate whose block holds it is decided by its check value. -/
theorem testCandidate_of_holds {blk : Block} (hblk : (blocks[u / 16384]?).join = some blk)
    (hcount : u % 16384 < blk.count)
    (hserial : lay.overflow = .stop → 0 ≤ blk.serial (u % 16384) ∧ blk.serial (u % 16384) ≤ lay.maxSerial) :
    testCandidate blocks lay u = lay.testCheck (blk.serial (u % 16384)) := by
  have hsize : Config.blockSize = 16384 := rfl
  unfold testCandidate
  simp only [hsize, hblk, Nat.not_le.mpr hcount, if_false]
  cases ho : lay.overflow with
  | roll => rfl
  | stop =>
    obtain ⟨hlow, hhigh⟩ := hserial ho
    simp only [Int.not_lt.mpr hlow, Int.not_lt.mpr hhigh, if_false]

theorem movesTo_unique {v : Nat} (h : MovesTo blocks lay u v) (k : MovesTo blocks lay u w) : v = w := by
  obtain ⟨-, blk, hblk, -, -, -, -, rfl⟩ := h
  obtain ⟨-, blk', hblk', -, -, -, -, rfl⟩ := k
  rw [hblk] at hblk'
  cases hblk'
  rfl

/-- A candidate whose block does not hold it moves within its block, or is rejected for its block. -/
theorem testCandidate_of_not_holds (h : blockHolds blocks lay u = false) :
    (∃ t, testCandidate blocks lay u = .moves t ∧ MovesTo blocks lay u t)
    ∨ (testCandidate blocks lay u = .blockRejected ∧ ∀ t, ¬ MovesTo blocks lay u t) := by
  have hsize : Config.blockSize = 16384 := rfl
  rw [← Bool.not_eq_true, blockHolds_iff] at h
  have hmax := lay.maxSerial_cast
  cases hblk : (blocks[u / 16384]?).join with
  | none =>
    refine .inr ⟨?_, fun t ⟨_, blk, hb, _⟩ => by rw [hblk] at hb; exact absurd hb (by simp)⟩
    unfold testCandidate
    simp only [hsize, hblk]
  | some blk =>
    have hmoves : ∀ {t}, MovesTo blocks lay u t ↔ lay.overflow = .stop ∧ blk.dir = .desc
        ∧ u % 16384 < blk.count ∧ lay.maxSerial + u % 16384 < blk.base
        ∧ blk.base - lay.maxSerial < 16384 ∧ t = u / 16384 * 16384 + (blk.base - lay.maxSerial) := by
      intro t
      unfold MovesTo Layout.maxSerial
      rw [hblk]
      simp
    by_cases hcount : u % 16384 < blk.count
    · have hout : lay.overflow = .stop ∧ ¬ (0 ≤ blk.serial (u % 16384)
          ∧ blk.serial (u % 16384) ≤ lay.maxSerial) := by
        by_contra hin
        rw [not_and, not_not] at hin
        exact h ⟨blk, hblk, hcount, hin⟩
      obtain ⟨hstop, hrange⟩ := hout
      unfold testCandidate
      simp only [hsize, hblk, Nat.not_le.mpr hcount, if_false, hstop]
      cases hdir : blk.dir with
      | asc =>
        have hserial : blk.serial (u % 16384) = (blk.base : Int) + (u % 16384 : Nat) := by
          rw [Block.serial, hdir]
        have hlow : ¬ blk.serial (u % 16384) < 0 := by omega
        have hhigh : (lay.maxSerial : Int) < blk.serial (u % 16384) := by omega
        refine .inr ⟨by simp only [if_neg hlow, if_pos hhigh], fun t ht => ?_⟩
        obtain ⟨-, hdesc, -⟩ := hmoves.mp ht
        rw [hdir] at hdesc
        exact absurd hdesc (by decide)
      | desc =>
        have hserial : blk.serial (u % 16384) = (blk.base : Int) - (u % 16384 : Nat) := by
          rw [Block.serial, hdir]
        by_cases hlow : blk.serial (u % 16384) < 0
        · refine .inr ⟨by simp only [if_pos hlow], fun t ht => ?_⟩
          obtain ⟨-, -, -, hbase, -⟩ := hmoves.mp ht
          omega
        · have hhigh : (lay.maxSerial : Int) < blk.serial (u % 16384) := by omega
          by_cases hfits : blk.base - lay.maxSerial < 16384
          · exact .inl ⟨_, by simp only [if_neg hlow, if_pos hhigh, if_pos hfits],
              hmoves.mpr ⟨hstop, hdir, hcount, by omega, hfits, rfl⟩⟩
          · refine .inr ⟨by simp only [if_neg hlow, if_pos hhigh, if_neg hfits], fun t ht => ?_⟩
            obtain ⟨-, -, -, -, hfits', -⟩ := hmoves.mp ht
            exact hfits hfits'
    · refine .inr ⟨?_, fun t ht => ?_⟩
      · unfold testCandidate
        simp only [hsize, hblk, Nat.not_lt.mp hcount, if_true]
      · obtain ⟨-, -, hlt, -⟩ := hmoves.mp ht
        exact hcount hlt

/-- R40: a move goes up within its block, over candidates that the block does not hold. -/
theorem MovesTo.skips {t : Nat} (h : MovesTo blocks lay u t) :
    u < t ∧ ∀ v, u ≤ v → v < t → blockHolds blocks lay v = false := by
  obtain ⟨hstop, blk, hblk, hdir, hcount, hbase, hfits, rfl⟩ := h
  have hmax : lay.maxSerial = 10 ^ lay.width - 1 := rfl
  rw [← hmax] at hbase hfits ⊢
  have hsame : ∀ {v}, u ≤ v → v < u / 16384 * 16384 + (blk.base - lay.maxSerial) → v / 16384 = u / 16384 :=
    fun h1 h2 => by omega
  refine ⟨by omega, fun v huv hvt => ?_⟩
  rw [← Bool.not_eq_true, blockHolds_iff, hsame huv hvt]
  rintro ⟨blk', hblk', -, hserial⟩
  rw [hblk] at hblk'
  cases hblk'
  have hhigh := (hserial hstop).2
  rw [Block.serial, hdir] at hhigh
  have hv := hsame huv hvt
  dsimp only at hhigh
  omega

/-- R40: a candidate rejected for its block is followed by none that its block holds. -/
theorem rejected_skips (h : blockHolds blocks lay u = false) (hmoves : ∀ t, ¬ MovesTo blocks lay u t)
    {v : Nat} (huv : u ≤ v) (hsame : v / 16384 = u / 16384) : blockHolds blocks lay v = false := by
  rw [← Bool.not_eq_true, blockHolds_iff] at h ⊢
  rintro ⟨blk, hblk, hcount, hserial⟩
  rw [hsame] at hblk
  have hcountU : u % 16384 < blk.count := by omega
  refine h ⟨blk, hblk, hcountU, fun hstop => ?_⟩
  obtain ⟨hlow, hhigh⟩ := hserial hstop
  unfold Block.serial at hlow hhigh ⊢
  cases hdir : blk.dir with
  | asc =>
    rw [hdir] at hlow hhigh
    dsimp only at hlow hhigh ⊢
    exact ⟨by omega, by omega⟩
  | desc =>
    rw [hdir] at hlow hhigh
    dsimp only at hlow hhigh ⊢
    refine ⟨by omega, ?_⟩
    by_contra hover
    exact hmoves _ ⟨hstop, blk, hblk, hdir, hcountU, by
      have hmax : lay.maxSerial = 10 ^ lay.width - 1 := rfl
      rw [← hmax]; omega, by
      have hmax : lay.maxSerial = 10 ^ lay.width - 1 := rfl
      rw [← hmax]; omega, rfl⟩

theorem Layout.testCheck_cases (n : Int) :
    (lay.testCheck n = .passes ∧ lay.skipsCheck (lay.printedSerial n) = false)
    ∨ (lay.testCheck n = .checkRejected ∧ lay.skipsCheck (lay.printedSerial n) = true) := by
  unfold Layout.testCheck
  cases lay.skipsCheck (lay.printedSerial n) <;> simp

/-- R30: an issuable value is one its block holds and whose check is not passed over. -/
theorem issuable_iff : issuable blocks lay u = true ↔ ∃ blk, (blocks[u / 16384]?).join = some blk
    ∧ u % 16384 < blk.count
    ∧ (lay.overflow = .stop → 0 ≤ blk.serial (u % 16384) ∧ blk.serial (u % 16384) ≤ lay.maxSerial)
    ∧ lay.skipsCheck (lay.printedSerial (blk.serial (u % 16384))) = false := by
  rw [issuable, decide_eq_true_eq]
  cases hh : blockHolds blocks lay u with
  | true =>
    obtain ⟨blk, hblk, hcount, hserial⟩ := blockHolds_iff.mp hh
    rw [testCandidate_of_holds hblk hcount hserial]
    constructor
    · intro hpasses
      obtain ⟨-, hno⟩ | ⟨hrejected, -⟩ := lay.testCheck_cases (blk.serial (u % 16384))
      · exact ⟨blk, hblk, hcount, hserial, hno⟩
      · rw [hrejected] at hpasses
        exact absurd hpasses (by decide)
    · rintro ⟨blk', hblk', -, -, hno⟩
      rw [hblk] at hblk'
      cases hblk'
      obtain ⟨hpasses, -⟩ | ⟨-, hyes⟩ := lay.testCheck_cases (blk.serial (u % 16384))
      · exact hpasses
      · rw [hyes] at hno
        exact absurd hno (by decide)
  | false =>
    constructor
    · intro hpasses
      obtain ⟨t, ht, -⟩ | ⟨ht, -⟩ := testCandidate_of_not_holds hh
      · rw [ht] at hpasses; exact absurd hpasses (by simp)
      · rw [ht] at hpasses; exact absurd hpasses (by simp)
    · rintro ⟨blk, hblk, hcount, hserial, -⟩
      rw [blockHolds_iff.mpr ⟨blk, hblk, hcount, hserial⟩] at hh
      exact absurd hh (by decide)

theorem issuable_of_not_holds (h : blockHolds blocks lay u = false) : issuable blocks lay u = false := by
  rw [← Bool.not_eq_true, issuable_iff]
  rintro ⟨blk, hblk, hcount, hserial, -⟩
  rw [blockHolds_iff.mpr ⟨blk, hblk, hcount, hserial⟩] at h
  exact absurd h (by decide)

end Candidate

/-! ### The repetition -/

/-- The candidates from one to another that their blocks hold. -/
def heldIn (blocks : Vector (Option Block) 64) (lay : Layout) (c v : Nat) : Nat :=
  ((Finset.Ico c v).filter fun u => blockHolds blocks lay u = true).card

section Repetition

variable {blocks : Vector (Option Block) 64} {lay : Layout}

theorem heldIn_of_skip {c d : Nat} (hcd : c ≤ d)
    (h : ∀ u, c ≤ u → u < d → blockHolds blocks lay u = false) (v : Nat) :
    heldIn blocks lay c v = heldIn blocks lay d v := by
  unfold heldIn
  congr 1
  ext u
  simp only [Finset.mem_filter, Finset.mem_Ico]
  constructor
  · rintro ⟨⟨hcu, huv⟩, hu⟩
    refine ⟨⟨?_, huv⟩, hu⟩
    by_contra hud
    rw [h u hcu (by omega)] at hu
    exact absurd hu (by decide)
  · rintro ⟨⟨hdu, huv⟩, hu⟩
    exact ⟨⟨by omega, huv⟩, hu⟩

theorem heldIn_of_holds {c v : Nat} (hcv : c < v) (h : blockHolds blocks lay c = true) :
    heldIn blocks lay c v = heldIn blocks lay (c + 1) v + 1 := by
  have hset : (Finset.Ico c v).filter (fun u => blockHolds blocks lay u = true)
      = insert c ((Finset.Ico (c + 1) v).filter fun u => blockHolds blocks lay u = true) := by
    rw [← Finset.insert_Ico_succ_left_eq_Ico hcv, Finset.filter_insert, if_pos h]
    rfl
  unfold heldIn
  rw [hset, Finset.card_insert_of_notMem (by simp)]

theorem heldIn_of_ge {c : Nat} (h : 1048576 ≤ c) (v : Nat) : heldIn blocks lay c v = 0 := by
  unfold heldIn
  rw [Finset.card_eq_zero, Finset.filter_eq_empty_iff]
  intro u hu
  rw [blockHolds_of_ge (h.trans (Finset.mem_Ico.mp hu).1)]
  decide

/-- The step of a candidate that leads to the resume value: past a check, or a move. -/
def PassesOver (blocks : Vector (Option Block) 64) (lay : Layout) (u w : Nat) : Prop :=
  (blockHolds blocks lay u = true ∧ w = u + 1) ∨ MovesTo blocks lay u w

/-- What a normalisation has found of the candidates from `c` on, with the first rejected for its block
and the count it began with. -/
def FoundFrom (blocks : Vector (Option Block) 64) (lay : Layout) (c : Nat) (first : Option Nat)
    (skips : Nat) (n : Normalised) : Prop :=
  (∀ v k, n = .found v k → c ≤ v ∧ issuable blocks lay v = true
    ∧ (∀ u, c ≤ u → u < v → issuable blocks lay u = false) ∧ k = skips + heldIn blocks lay c v)
  ∧ ∀ r k, n = .exhausted r k → (∀ u, c ≤ u → issuable blocks lay u = false)
    ∧ k = skips + heldIn blocks lay c 1048576 ∧ (∀ f, first = some f → r = f)
    ∧ (first = none → Relation.ReflTransGen (PassesOver blocks lay) c r
      ∧ blockHolds blocks lay r = false ∧ ∀ w, ¬ MovesTo blocks lay r w)

/-- Candidates that no block holds, passed over by a move or a rejection. -/
theorem FoundFrom.of_skip {c d : Nat} {first first' : Option Nat} {skips : Nat} {n : Normalised}
    (hcd : c ≤ d) (hskip : ∀ u, c ≤ u → u < d → blockHolds blocks lay u = false)
    (hfirst : ∀ f, first = some f → first' = some f)
    (hnone : first = none → (first' = none ∧ MovesTo blocks lay c d)
      ∨ (first' = some c ∧ blockHolds blocks lay c = false ∧ ∀ w, ¬ MovesTo blocks lay c w))
    (h : FoundFrom blocks lay d first' skips n) : FoundFrom blocks lay c first skips n := by
  have hissue : ∀ u, c ≤ u → u < d → issuable blocks lay u = false := fun u h1 h2 =>
    issuable_of_not_holds (hskip u h1 h2)
  refine ⟨fun v k hn => ?_, fun r k hn => ?_⟩
  · obtain ⟨hdv, hv, hall, hk⟩ := h.1 v k hn
    refine ⟨hcd.trans hdv, hv, fun u hcu huv => ?_, by rw [hk, heldIn_of_skip hcd hskip]⟩
    obtain hud | hdu := Nat.lt_or_ge u d
    · exact hissue u hcu hud
    · exact hall u hdu huv
  · obtain ⟨hall, hk, hsome, hchain⟩ := h.2 r k hn
    refine ⟨fun u hcu => ?_, by rw [hk, heldIn_of_skip hcd hskip], fun f hf => hsome f (hfirst f hf),
      fun hf => ?_⟩
    · obtain hud | hdu := Nat.lt_or_ge u d
      · exact hissue u hcu hud
      · exact hall u hdu
    · obtain ⟨hf', hmoves⟩ | ⟨hf', hrejected, hno⟩ := hnone hf
      · obtain ⟨hpath, hend⟩ := hchain hf'
        exact ⟨.head (.inr hmoves) hpath, hend⟩
      · obtain rfl := hsome c hf'
        exact ⟨.refl, hrejected, hno⟩

/-- A candidate passed over for its check. -/
theorem FoundFrom.of_check {c : Nat} {first : Option Nat} {skips : Nat} {n : Normalised}
    (hholds : blockHolds blocks lay c = true) (hno : issuable blocks lay c = false)
    (h : FoundFrom blocks lay (c + 1) first (skips + 1) n) : FoundFrom blocks lay c first skips n := by
  have hbelow : c < 1048576 := by
    by_contra hge
    rw [blockHolds_of_ge (Nat.not_lt.mp hge)] at hholds
    exact absurd hholds (by decide)
  refine ⟨fun v k hn => ?_, fun r k hn => ?_⟩
  · obtain ⟨hcv, hv, hall, hk⟩ := h.1 v k hn
    refine ⟨by omega, hv, fun u hcu huv => ?_, by rw [hk, heldIn_of_holds (by omega) hholds]; omega⟩
    obtain rfl | hlt := hcu.eq_or_lt
    · exact hno
    · exact hall u hlt huv
  · obtain ⟨hall, hk, hsome, hchain⟩ := h.2 r k hn
    refine ⟨fun u hcu => ?_, by rw [hk, heldIn_of_holds hbelow hholds]; omega, hsome, fun hf => ?_⟩
    · obtain rfl | hlt := hcu.eq_or_lt
      · exact hno
      · exact hall u hlt
    · obtain ⟨hpath, hend⟩ := hchain hf
      exact ⟨.head (.inl ⟨hholds, rfl⟩) hpath, hend⟩

/-- A candidate with none after it that a block holds ends the repetition. -/
theorem FoundFrom.of_end {c : Nat} {first : Option Nat} {skips : Nat}
    (hall : ∀ u, c ≤ u → blockHolds blocks lay u = false) (hno : ∀ w, ¬ MovesTo blocks lay c w) :
    FoundFrom blocks lay c first skips (.exhausted (first.getD c) skips) := by
  refine ⟨fun v k hn => by simp at hn, fun r k hn => ?_⟩
  simp only [Normalised.exhausted.injEq] at hn
  obtain ⟨rfl, rfl⟩ := hn
  have hzero : heldIn blocks lay c 1048576 = 0 := by
    rw [heldIn_of_skip (Nat.le_max_left c 1048576) (fun u hu _ => hall u hu),
      heldIn_of_ge (Nat.le_max_right c 1048576)]
  refine ⟨fun u hu => issuable_of_not_holds (hall u hu), by rw [hzero, Nat.add_zero],
    fun f hf => by rw [hf]; rfl, fun hf => ?_⟩
  rw [hf, Option.getD_none]
  exact ⟨.refl, hall c le_rfl, hno⟩

theorem not_movesTo_of_ge {c : Nat} (h : 1048576 ≤ c) (w : Nat) : ¬ MovesTo blocks lay c w := by
  rintro ⟨-, blk, hblk, -⟩
  have hnone : blocks[c / 16384]? = none := Vector.getElem?_eq_none (by omega)
  rw [hnone] at hblk
  exact absurd hblk (by simp)

theorem normaliseFrom_found (fuel c : Nat) (first : Option Nat) (skips : Nat)
    (hfuel : 1048577 ≤ c + fuel) :
    FoundFrom blocks lay c first skips (normaliseFrom blocks lay fuel c first skips) := by
  have hsize : Config.blockSize = 16384 := rfl
  induction fuel generalizing c first skips with
  | zero =>
    exact .of_end (fun u hu => blockHolds_of_ge (by omega)) (not_movesTo_of_ge (by omega))
  | succ fuel ih =>
    rw [normaliseFrom]
    cases hholds : blockHolds blocks lay c with
    | true =>
      obtain ⟨blk, hblk, hcount, hserial⟩ := blockHolds_iff.mp hholds
      rw [testCandidate_of_holds hblk hcount hserial]
      obtain ⟨htest, hskip⟩ | ⟨htest, hskip⟩ := lay.testCheck_cases (blk.serial (c % 16384))
      · rw [htest]
        refine ⟨fun v k hn => ?_, fun r k hn => by simp at hn⟩
        simp only [Normalised.found.injEq] at hn
        obtain ⟨rfl, rfl⟩ := hn
        exact ⟨le_rfl, issuable_iff.mpr ⟨blk, hblk, hcount, hserial, hskip⟩, fun u h1 h2 => by omega,
          by simp [heldIn]⟩
      · rw [htest]
        have hno : issuable blocks lay c = false := by
          rw [issuable, testCandidate_of_holds hblk hcount hserial, htest]
          rfl
        exact .of_check hholds hno (ih (c + 1) first (skips + 1) (by omega))
    | false =>
      obtain ⟨t, htest, hmoves⟩ | ⟨htest, hno⟩ := testCandidate_of_not_holds hholds
      · rw [htest]
        obtain ⟨hlt, hskips⟩ := hmoves.skips
        exact .of_skip hlt.le hskips (fun f hf => hf) (fun hf => .inl ⟨hf, hmoves⟩)
          (ih t first skips (by omega))
      · rw [htest, hsize]
        dsimp only
        split
        · refine .of_end (fun u hu => ?_) hno
          obtain hge | hlt := Nat.lt_or_ge u 1048576
          · exact rejected_skips hholds hno hu (by omega)
          · exact blockHolds_of_ge hlt
        · refine .of_skip (d := (c / 16384 + 1) * 16384) (by omega)
            (fun u h1 h2 => rejected_skips hholds hno h1 (by omega)) (fun f hf => by rw [hf]; rfl)
            (fun hf => .inr ⟨by rw [hf]; rfl, hholds, hno⟩)
            (ih ((c / 16384 + 1) * 16384) (some (first.getD c)) skips (by omega))

theorem normalise_found (c : Nat) : FoundFrom blocks lay c none 0 (normalise blocks (some lay) c) := by
  have hend : Config.sequenceEnd = 1048576 := rfl
  rw [normalise, hend]
  exact normaliseFrom_found _ c none 0 (by omega)

end Repetition

/-- Settles O28: the repetition is followed by induction on its fuel (`normaliseFrom_found`). -/
theorem normalisationFindsTheFirstIssuable : Obligations.NormalisationFindsTheFirstIssuable := by
  unfold Obligations.NormalisationFindsTheFirstIssuable
  refine ⟨fun blocks lay c => ⟨fun v => ?_, fun v k hn => ?_, fun r k hn => ?_⟩, fun _ _ => rfl⟩
  · rw [issuable_iff]
    refine exists_congr fun blk => and_congr_right fun _ => and_congr_right fun _ => ?_
    change _ ↔ (lay.overflow = .stop →
        0 ≤ blk.serial (v % 16384) ∧ blk.serial (v % 16384) ≤ 10 ^ lay.width - 1)
      ∧ ¬ (lay.check = .mod11w .skip
        ∧ lay.checkValue (blk.serial (v % 16384) % 10 ^ lay.width).toNat = some 10)
    rw [← Layout.skipsCheck_iff, Bool.not_eq_true, Layout.maxSerial_cast, Layout.printedSerial]
    push_cast
    rfl
  · obtain ⟨hle, hissuable, hbefore, hk⟩ := (normalise_found c).1 v k hn
    exact ⟨hle, hissuable, hbefore, by rw [hk, Nat.zero_add]; rfl⟩
  · obtain ⟨hall, hk, -, hchain⟩ := (normalise_found c).2 r k hn
    obtain ⟨hpath, hend, hno⟩ := hchain rfl
    exact ⟨hall, by rw [hk, Nat.zero_add]; rfl, hpath, hend, hno⟩

end Sys2Proof.Machine


/-! ## A binding from the cursor (sections 2.6, 2.7 and 8.2) -/

namespace Sys2Proof.Machine

theorem State.settleCursor_of_found {w u : State} {c : Cursor} {n : Normalised} {v k : Nat}
    (hb : w.batch = false) (hu : u = w.settleCursor c n) (hn : n = .found v k) :
    u.cursor = some { c with state := .active, next := v }
    ∧ u.tallies = { w.tallies with skipped := min (w.tallies.skipped + k) 4294967295 }
    ∧ u.batch = false ∧ u.runState = w.runState ∧ u.causes = w.causes := by
  subst hn; subst hu
  exact ⟨rfl, rfl, hb, rfl, rfl⟩

/-- R41: what a normalisation that ends EXHAUSTED leaves of a RUNNING run. -/
theorem State.settleCursor_of_exhausted {w u : State} {c : Cursor} {n : Normalised} {r k : Nat}
    (hrun : w.runState = .running) (hb : w.batch = false) (hu : u = w.settleCursor c n)
    (hn : n = .exhausted r k) :
    u.cursor = some { c with state := .exhausted, next := r }
    ∧ u.tallies = { w.tallies with skipped := min (w.tallies.skipped + k) 4294967295 }
    ∧ u.batch = false ∧ u.runState = .held ∧ u.causes = { w.causes with sequence := true }
    ∧ (w.notices.length ≤ 46 → u.notices = w.notices
      ++ [⟨.runState .held { w.causes with sequence := true } w.drain, .owner⟩, ⟨.exhausted r, .owner⟩]) := by
  subst hn; subst hu
  let v : State := { w.countSkips k with cursor := some { c with state := .exhausted, next := r } }
  have honly := v.reportExhausted_only r
  have hissuing : v.issuing = true := (State.issuing_iff v).mpr (.inl hrun)
  obtain ⟨hheld, hcauses⟩ := State.reportExhausted_of_issuing hissuing r
  refine ⟨(congrArg State.cursor honly :), (congrArg State.tallies honly :),
    Eq.trans (congrArg State.batch honly :) hb, hheld, hcauses, fun hroom => ?_⟩
  have hsent : v.causeNotices .sequence
      = [⟨.runState .held { w.causes with sequence := true } w.drain, .owner⟩] := if_pos (.inl hrun)
  have hnotices := State.reportExhausted_notices (s := v)
    (by rw [hsent]; exact Nat.lt_of_le_of_lt (Nat.add_le_add_right hroom 1) (by decide)) r
  rw [hsent, List.append_assoc] at hnotices
  exact hnotices

/-- R43: where the pass goes on, the cursor is settled by a normalisation. -/
theorem State.advanceCursor_of_issues {w : State} {c : Cursor} {g : Segment} (hg : w.segment c.segment = some g)
    (hmore : c.issued + 1 < g.quantity) : w.advanceCursor c =
      w.settleCursor { c with next := c.next + 1, issued := c.issued + 1 }
        (normalise w.blocks (w.layout g.layout) (c.next + 1)) := by
  simp only [State.advanceCursor, hg, hmore, if_true]

/-- R43, R146: where the pass is complete, the chain step is taken. -/
theorem State.advanceCursor_of_done {w : State} {c : Cursor} {g : Segment} (hg : w.segment c.segment = some g)
    (hdone : g.quantity ≤ c.issued + 1) : w.advanceCursor c =
      { w with cursor := some { c with next := c.next + 1, issued := c.issued + 1 } }.chainStep
        { c with next := c.next + 1, issued := c.issued + 1 } g := by
  simp only [State.advanceCursor, hg, Nat.not_lt.mpr hdone, if_false]

theorem State.chainStep_of_pause {w : State} {c : Cursor} {g : Segment} (h : g.endAction = .pause) :
    w.chainStep c g = w.pauseChain c g .endAction := by rw [State.chainStep, h]

section CarryOn

variable {w : State} {c : Cursor} {g : Segment} (h : g.endAction = .carryOn)
include h

theorem State.chainStep_of_end (hd : w.chainDecision c g = .chainEnd) : w.chainStep c g = w.endChain c := by
  simp only [State.chainStep, h, hd]

theorem State.chainStep_of_blocked {i : Nat} {cause : PauseCause} (hd : w.chainDecision c g = .blocked i cause) :
    w.chainStep c g = w.pauseChain c g cause := by simp only [State.chainStep, h, hd]

theorem State.chainStep_of_enter {i : Nat} {g' : Segment} (hd : w.chainDecision c g = .enter i g') :
    w.chainStep c g = w.enterSegment c i g' (c.pass + 1) := by simp only [State.chainStep, h, hd]

end CarryOn

theorem State.pauseChain_spec {w u : State} {c : Cursor} {g : Segment} {cause : PauseCause}
    (hb : w.batch = false) (h : u = w.pauseChain c g cause) :
    u.cursor = some { c with state := .paused } ∧ u.batch = false
    ∧ (u.runState = w.runState ∧ u.causes = w.causes)
    ∧ (w.notices.length ≤ 47 → u.notices = w.notices
      ++ [⟨.segmentPause c.segment c.pass g.next cause, .owner⟩]) := by
  subst h
  refine ⟨by simp [State.pauseChain], by simpa [State.pauseChain] using hb,
    ⟨by simp [State.pauseChain], by simp [State.pauseChain]⟩, fun hroom => State.notify_notices
    (s := { w with cursor := some { c with state := .paused } }) (Nat.lt_succ_of_le hroom) _⟩

theorem State.settleCursor_makeups (s : State) (c : Cursor) (n : Normalised) :
    (s.settleCursor c n).makeups = s.makeups := by
  cases n <;> simp [State.settleCursor, State.reportExhausted]

theorem State.chainStep_makeups (s : State) (c : Cursor) (g : Segment) :
    (s.chainStep c g).makeups = s.makeups := by
  unfold State.chainStep State.pauseChain State.endChain State.enterSegment
  split
  · simp
  · split <;> simp [State.settleCursor_makeups]

theorem State.advanceCursor_makeups (s : State) (c : Cursor) :
    (s.advanceCursor c).makeups = s.makeups := by
  unfold State.advanceCursor
  dsimp only
  split
  · rfl
  · split
    · exact s.settleCursor_makeups _ _
    · exact State.chainStep_makeups _ _ _

/-- R46: the slot bound and the list settled, the cursor not yet advanced. -/
def State.boundFromCursor (s : State) (j : Nat) (c : Cursor) (lay : Layout) (serial : Nat) : State :=
  { s.modSlot j (fun slot => slot.bind
      { value := c.next, serial := serial, segment := c.segment, pass := c.pass
        before := some ⟨c.segment, c.pass, c.next, c.issued⟩ } lay) with
    makeups := s.makeups.filter fun e => !(decide (e.value = c.next) && decide (e.segment = c.segment)) }

theorem State.bindSlot_of_cursor {s : State} {c : Cursor} {g : Segment} {lay : Layout} {serial : Nat}
    (hb : s.batch = false) (hcur : s.cursor = some c) (hc : c.state = .active)
    (hg : s.segment c.segment = some g) (hlay : s.layout g.layout = some lay)
    (hserial : serialUnder s.blocks lay c.next = some serial) (j : Nat) :
    s.bindSlot j = (s.boundFromCursor j c lay serial).advanceCursor c := by
  have hlayout : s.segmentLayout c.segment = some lay := by rw [State.segmentLayout, hg]; exact hlay
  have hin : s.serialIn c.segment c.next = some serial := by rw [State.serialIn, hlayout]; exact hserial
  have hbind : s.bindFromCursor j c lay serial = (s.boundFromCursor j c lay serial).advanceCursor c := by
    simp only [State.bindFromCursor, State.boundFromCursor, State.modSlot_makeups]
  simp only [State.bindSlot, hb, hcur, hc, hlayout, hin, hbind]

/-- An OPEN slot granted to the ply chosen is granted with the gate open, in a RUNNING run. -/
theorem State.running_of_chosen {s : State} {p : Ply} {slot : Slot} (hchosen : s.chosen = some p)
    (hslot : s.slotAt (s.ply p).nextNeeded = some slot) (hopen : slot.disp = .opened) :
    s.runState = .running := by
  obtain ⟨-, held, hheld, hreq⟩ := (s.isRequester_iff p).mp (State.chosen_isRequester hchosen)
  rw [hslot] at hheld
  obtain rfl : slot = held := by simpa using hheld
  obtain ⟨b, m, hd, -⟩ | ⟨-, -, hgate⟩ := (s.requests_iff p _ slot).mp hreq
  · rw [hopen] at hd; cases hd
  · exact hgate.1

/-- Settles O21: the slot is bound, the cursor advanced by a normalisation or the chain step, and the render
begun. -/
theorem grantBindsFromTheCursor : Obligations.GrantBindsFromTheCursor := by
  unfold Obligations.GrantBindsFromTheCursor
  intro p slot c g lay serial s hrender hchosen hslot hopen hbatch hcur hc hg hlay hserial
    j list next runs skips exhausts finds pauses
  have hrun := State.running_of_chosen hchosen hslot hopen
  have hframe := (PressAct.grant (State.stages_of_isRequester (State.chosen_isRequester hchosen))).frame
  have hexec := exec_renderGrant_of_chosen hrender hchosen
  rw [State.grant_of_opened hslot hopen, State.bindSlot_of_cursor hbatch hcur hc hg hlay hserial] at hframe hexec
  have hself := State.slotAt_modSlot_self hslot fun x => x.bind
    { value := c.next, serial := serial, segment := c.segment, pass := c.pass
      before := some ⟨c.segment, c.pass, c.next, c.issued⟩ } lay
  have hother : ∀ k, k ≠ j → (s.boundFromCursor j c lay serial).slotAt k = s.slotAt k := fun k hk =>
    Eq.trans (State.slotAt_of_slots rfl rfl k) (s.slotAt_modSlot_ne hk _)
  have hself' : (s.boundFromCursor j c lay serial).slotAt j = some (slot.bind
      { value := c.next, serial := serial, segment := c.segment, pass := c.pass
        before := some ⟨c.segment, c.pass, c.next, c.issued⟩ } lay) :=
    Eq.trans (State.slotAt_of_slots rfl rfl j) hself
  have hw : s.boundFromCursor j c lay serial = { s with
      slots := (s.boundFromCursor j c lay serial).slots, makeups := list } := by
    rw [State.boundFromCursor, State.modSlot_only]
  have hadvanced := State.advanceCursor_slots (s.boundFromCursor j c lay serial) c
  have hplies := State.advanceCursor_plies (s.boundFromCursor j c lay serial) c
  have hmakeups : ((s.boundFromCursor j c lay serial).advanceCursor c).makeups = list := by
    rw [State.advanceCursor_makeups, hw]
  have hheld : ((s.boundFromCursor j c lay serial).advanceCursor c).slotAt j = some _ :=
    (State.slotAt_of_slots hadvanced.1 hadvanced.2 j).trans hself'
  have hothers : ∀ k, k ≠ j → ((s.boundFromCursor j c lay serial).advanceCursor c).slotAt k = s.slotAt k :=
    fun k hk => (State.slotAt_of_slots hadvanced.1 hadvanced.2 k).trans (hother k hk)
  have hissues := State.advanceCursor_of_issues (w := s.boundFromCursor j c lay serial) (c := c) (g := g)
    (by rw [hw]; exact hg)
  have hdone := State.advanceCursor_of_done (w := s.boundFromCursor j c lay serial) (c := c) (g := g)
    (by rw [hw]; exact hg)
  have hindex : ((s.boundFromCursor j c lay serial).advanceCursor c).marriageSlot = s.marriageSlot := by
    rw [hadvanced.2, hw]
  have hpliesS : ((s.boundFromCursor j c lay serial).advanceCursor c).plies = s.plies := by
    rw [hplies, hw]
  rw [State.beginRender_of_held hheld, Slot.stagesBlank_eq rfl] at hframe hexec
  have hsub : ∀ v w, (({ (s.boundFromCursor j c lay serial).advanceCursor c with
      render := v, lastGranted := w } : State).subAt j p) = (Slot.bind slot
        { value := c.next, serial := serial, segment := c.segment, pass := c.pass
          before := some ⟨c.segment, c.pass, c.next, c.issued⟩ } lay).subs.get p := fun v w => by
    have hsame := State.slotAt_of_slots (s := (s.boundFromCursor j c lay serial).advanceCursor c)
      (t := { (s.boundFromCursor j c lay serial).advanceCursor c with render := v, lastGranted := w }) rfl rfl j
    rw [State.subAt, hsame, hheld]
    rfl
  refine ⟨_, hexec, ?slot, ?others, hmakeups, ?issues, ?done, ?render, rfl, hpliesS, hindex, hframe⟩
  case slot =>
    exact (State.slotAt_of_slots rfl rfl j).trans hheld
  case others =>
    exact fun k hk => (State.slotAt_of_slots rfl rfl k).trans (hothers k hk)
  case render =>
    rw [hsub]
    rfl
  case issues =>
    intro hmore
    have hu := hissues hmore
    generalize (s.boundFromCursor j c lay serial).advanceCursor c = u at hu ⊢
    rw [hw] at hu
    have hnorm : normalise s.blocks (s.layout g.layout) (c.next + 1) = normalise s.blocks (some lay) (c.next + 1) := by
      rw [hlay]
    refine ⟨fun v k hfound => ?_, fun r k hex => ?_⟩
    · have hspec := State.settleCursor_of_found (by exact hbatch) hu (hnorm.trans hfound)
      exact hspec
    · have hspec := State.settleCursor_of_exhausted (by exact hrun) (by exact hbatch) hu (hnorm.trans hex)
      exact hspec
  case done =>
    intro hall
    have hu := hdone hall
    generalize (s.boundFromCursor j c lay serial).advanceCursor c = u at hu ⊢
    rw [hw] at hu
    refine ⟨fun hpause => ?_, fun hcarry => ?_⟩
    · rw [State.chainStep_of_pause hpause] at hu
      have hspec := State.pauseChain_spec (by exact hbatch) hu
      exact hspec
    refine ⟨fun hend => ?_, fun i hi hpass => ⟨fun hempty => ?_, fun g' hg' => ⟨fun lay' hlay' hunfit => ?_,
      fun hfits => ?_⟩⟩⟩
    · rw [State.chainStep_of_end hcarry (State.chainDecision_of_end (by exact hend))] at hu
      subst hu
      exact ⟨rfl, Eq.trans (congrArg (· || _) hbatch) (Bool.false_or _), rfl, rfl⟩
    · rw [State.chainStep_of_blocked hcarry
        (State.chainDecision_of_empty hi (by exact hpass) (by exact hempty))] at hu
      have hspec := State.pauseChain_spec (by exact hbatch) hu
      exact hspec
    · rw [State.chainStep_of_blocked hcarry (State.chainDecision_of_unfit hi (by exact hpass) (by exact hg')
        (by exact hlay') (by exact hunfit))] at hu
      have hspec := State.pauseChain_spec (by exact hbatch) hu
      exact hspec
    · rw [State.chainStep_of_enter hcarry
        (State.chainDecision_of_fits hi (by exact hpass) (by exact hg') (by exact hfits))] at hu
      refine ⟨fun v k hfound => ?_, fun r k hex => ?_⟩
      · have hspec := State.settleCursor_of_found (by exact hbatch) hu (by exact hfound)
        exact hspec
      · have hspec := State.settleCursor_of_exhausted (by exact hrun) (by exact hbatch) hu (by exact hex)
        exact hspec

end Sys2Proof.Machine


/-! ## What falls due at a head (Chapter 4) -/

namespace Sys2Proof.Machine

/-! ### What a spoil leaves of the slots below it, of its forms and of the heads -/

theorem State.slotAt_takeSpoil_below {s : State} {j i : Nat} (hi : i < j) (mark : SpoilMark) :
    (s.takeSpoil j mark).slotAt i = s.slotAt i := by
  obtain ⟨-, he⟩ | ⟨_, -, -, he⟩ | ⟨_, b, -, -, ⟨-, -, he⟩ | ⟨-, he⟩⟩ := s.takeSpoil_cases j mark <;> rw [he]
  · exact s.slotAt_modSlot_ne (Nat.ne_of_lt hi) _
  · have hrewind := State.slotAt_rewind (s.modSlot j fun slot => slot.makeVoid (.spoil mark)) (j + 1)
      (some ⟨b, false⟩) i
    simp only [if_neg (show ¬ j + 1 ≤ i by omega), Option.map_id', s.slotAt_modSlot_ne (Nat.ne_of_lt hi)] at hrewind
    rw [← hrewind]
    exact State.slotAt_of_slots (by simp [State.rollbackSpoil]) (by simp [State.rollbackSpoil]) i
  · have hjoined := State.joinMakeup_joined (s.modSlot j fun slot => slot.setSpoilPending mark) (b.spoilEntry j)
    rw [State.deferSpoil_eq, ← s.slotAt_modSlot_ne (Nat.ne_of_lt hi) fun slot => slot.setSpoilPending mark]
    exact State.slotAt_of_slots (by rw [State.notify_slots, hjoined.slots])
      (by rw [State.notify_marriageSlot, hjoined.marriageSlot]) i

/-- R74, R80: a head that has only lost entries, and a loaded image if anything. -/
def HeadController.Lessened (h k : HeadController) : Prop :=
  (∀ x ∈ k.queue, x ∈ h.queue) ∧ (k.load = h.load ∨ (∃ img, h.load = .loaded img) ∧ k.load = .empty)

theorem HeadController.Lessened.refl (h : HeadController) : h.Lessened h := ⟨fun _ => id, .inl rfl⟩

/-- R132: a flush takes entries, and loaded images that are no longer current. -/
theorem State.lessened_flush (s : State) (u : Nat) (q : Ply) :
    (s.ply q).head.Lessened ((s.flush u).ply q).head := by
  obtain ⟨hactive, hidle⟩ := s.flush_tested u q
  cases hq : s.active q with
  | false => rw [hidle hq]; exact .refl _
  | true =>
    rw [hactive hq]
    refine ⟨fun x hx => (List.mem_filter.mp hx).1, ?_⟩
    cases hload : (s.ply q).head.load with
    | empty => exact .inl rfl
    | loading img => exact .inl rfl
    | loaded img =>
      dsimp only
      split
      · exact .inl rfl
      · exact .inr ⟨⟨img, rfl⟩, rfl⟩

/-- A spoil takes entries and loaded images from the heads. -/
theorem State.lessened_takeSpoil (s : State) (j : Nat) (mark : SpoilMark) (q : Ply) :
    (s.ply q).head.Lessened ((s.takeSpoil j mark).ply q).head := by
  obtain ⟨-, he⟩ | ⟨_, -, -, he⟩ | ⟨_, b, -, -, ⟨-, -, he⟩ | ⟨-, he⟩⟩ := s.takeSpoil_cases j mark <;> rw [he]
  · exact .refl _
  · have hply : (s.secondReason j mark).ply q = s.ply q := by simp [State.secondReason, State.modSub, State.ply]
    rw [hply]
    exact .refl _
  · have hrewind : ∀ w : State, ∀ init, (w.ply q).head.Lessened ((w.rewind (j + 1) init).1.ply q).head := by
      intro w init
      obtain ⟨us, hus⟩ : ∃ us, (w.rewind (j + 1) init).1 = ((w.rewindSlots (j + 1)).bookkeeping us).1.flush (j + 1) :=
        ⟨_, rfl⟩
      have hbooks : ((w.rewindSlots (j + 1)).bookkeeping us).1.plies = w.plies := by
        have hjoined := State.joinAll_joined (givenBack us) ((w.rewindSlots (j + 1)).removeRecalled us)
        rw [State.bookkeeping_state]
        generalize (State.joinAll (givenBack us) ((w.rewindSlots (j + 1)).removeRecalled us)).2.2 = t at hjoined
        have hplies : t.plies = w.plies := (congrArg State.plies hjoined.rest :)
        cases restorePoint us <;> exact hplies
      have hflush := State.lessened_flush ((w.rewindSlots (j + 1)).bookkeeping us).1 (j + 1) q
      rw [State.ply, hbooks] at hflush
      rw [hus]
      exact hflush
    have hspoil := hrewind (s.modSlot j fun slot => slot.makeVoid (.spoil mark)) (some ⟨b, false⟩)
    rw [State.ply, State.modSlot_plies] at hspoil
    simpa [State.rollbackSpoil, State.ply] using hspoil
  · have hjoined := State.joinMakeup_joined (s.modSlot j fun slot => slot.setSpoilPending mark) (b.spoilEntry j)
    have hplies : (s.deferSpoil j mark b).plies = s.plies := by
      rw [State.deferSpoil_eq, State.notify_plies, hjoined.rest, State.modSlot_plies]
    rw [State.ply, State.ply, hplies]
    exact .refl _

/-- R9: what a spoil leaves of a form: what was fired, the error, Misplaced and the verify state, and a print
state other than PENDING. -/
def SubRecord.SameForm (r k : SubRecord) : Prop :=
  k.fired = r.fired ∧ k.error = r.error ∧ k.misplaced = r.misplaced ∧ k.verify = r.verify
  ∧ (r.print ≠ .pending → k.print = r.print)

theorem SubRecord.SameForm.refl (r : SubRecord) : r.SameForm r := ⟨rfl, rfl, rfl, rfl, fun _ => rfl⟩

theorem Slot.sameForm_makeVoid {x : Slot} {q : Ply} {r : SubRecord} (h : x.subs.get q = some r) (why : VoidReason) :
    ∃ k, (x.makeVoid why).subs.get q = some k ∧ r.SameForm k := by
  cases hb : x.isBound with
  | false => rw [Slot.makeVoid_of_not_bound hb]; exact ⟨r, h, .refl r⟩
  | true =>
    obtain ⟨b, m, hd⟩ := x.isBound_iff.mp hb
    rw [Slot.makeVoid_of_bound hd]
    have hmapped : (x.mapPrint fun k => if k = .pending then .notPrinted else k).subs.get q
        = some { r with print := if r.print = .pending then .notPrinted else r.print } := by
      rw [Slot.mapPrint, PerPly.get_map, h, Option.map_some]
    exact ⟨_, hmapped, rfl, rfl, rfl, rfl, fun hr => if_neg hr⟩

/-- A spoil changes no more of a form than its print state and its reason. -/
theorem State.sameForm_takeSpoil {s : State} {j : Nat} {q : Ply} {r : SubRecord} (h : s.subAt j q = some r)
    (mark : SpoilMark) : ∃ k, (s.takeSpoil j mark).subAt j q = some k ∧ r.SameForm k := by
  obtain ⟨x, hx, hr⟩ := Option.bind_eq_some_iff.mp h
  have hheld : ∀ {t : State} {y : Slot}, t.slotAt j = some y → t.subAt j q = y.subs.get q := fun hy => by
    rw [State.subAt, hy, Option.bind_some]
  obtain ⟨-, he⟩ | ⟨_, -, -, he⟩ | ⟨_, b, -, -, ⟨-, -, he⟩ | ⟨-, he⟩⟩ := s.takeSpoil_cases j mark <;> rw [he]
  · exact ⟨r, h, .refl r⟩
  · have hself : (s.secondReason j mark).subAt j q = _ := hheld (State.slotAt_modSlot_self hx _)
    rw [hself, Slot.subs_modSub]
    split
    · subst_vars; rw [hr]; exact ⟨_, rfl, rfl, rfl, rfl, rfl, fun _ => rfl⟩
    · exact ⟨r, hr, .refl r⟩
  · have hrewind := State.slotAt_rewind (s.modSlot j fun slot => slot.makeVoid (.spoil mark)) (j + 1)
      (some ⟨b, false⟩) j
    rw [State.slotAt_modSlot_self hx, Option.map_some, if_neg (by omega)] at hrewind
    have hself : (s.rollbackSpoil j mark b).slotAt j = some (x.makeVoid (.spoil mark)) := by
      rw [← hrewind]
      exact State.slotAt_of_slots (by simp [State.rollbackSpoil]) (by simp [State.rollbackSpoil]) j
    rw [hheld hself]
    exact Slot.sameForm_makeVoid hr _
  · have hjoined := State.joinMakeup_joined (s.modSlot j fun slot => slot.setSpoilPending mark) (b.spoilEntry j)
    have hself : (s.deferSpoil j mark b).slotAt j = some (x.setSpoilPending mark) := by
      rw [← State.slotAt_modSlot_self hx fun slot => slot.setSpoilPending mark, State.deferSpoil_eq]
      exact State.slotAt_of_slots (by rw [State.notify_slots, hjoined.slots])
        (by rw [State.notify_marriageSlot, hjoined.marriageSlot]) j
    rw [hheld hself]
    refine ⟨r, ?_, .refl r⟩
    unfold Slot.setSpoilPending
    split <;> exact hr

end Sys2Proof.Machine


namespace Sys2Proof.Machine

/-! ### The tests of R85, case by case -/

section Due

variable {s : State} {p : Ply}

theorem State.impressionDue_of_unbound (h : s.boundAt (s.ply p).unit.headSlot = none) (sel : Select) :
    s.impressionDue p sel = s.modHead p fun h =>
      (h.modImp sel fun i => { i with state := .dropped }).giveUp (s.ply p).unit.headSlot := if_pos h

variable (hbound : s.boundAt (s.ply p).unit.headSlot ≠ none)
include hbound

theorem State.impressionDue_of_inhibit (hin : (s.ply p).head.inhibit = true) (sel : Select) :
    s.impressionDue p sel = s.closeForm p (·.giveUp (s.ply p).unit.headSlot) .inhibited .inhibited := by
  simp only [State.impressionDue, hbound, hin, if_true, if_false]

variable (hin : (s.ply p).head.inhibit = false)
include hin

theorem State.impressionDue_of_untrusted (ht : (s.ply p).unit.registration.trusted = false) (sel : Select) :
    s.impressionDue p sel = s.closeForm p (·.giveUp (s.ply p).unit.headSlot) .missed .miss := by
  simp [State.impressionDue, hbound, hin, ht]

variable (ht : (s.ply p).unit.registration.trusted = true)
include ht

theorem State.impressionDue_of_unready (hready : s.readyToFire p = false) (sel : Select) :
    s.impressionDue p sel = s.closeForm p (·.closeUnready (s.ply p).unit.headSlot) .missed .miss := by
  simp [State.impressionDue, hbound, hin, ht, hready]

variable (hready : s.readyToFire p = true)
include hready

theorem State.impressionDue_of_guard (hguard : 0 < (s.ply p).head.guardCount) (sel : Select) :
    s.impressionDue p sel = s.modHead p fun h =>
      { h.modImp sel (fun i => { i with state := .deferred }) with deferred := h.deferred ++ [sel] } := by
  simp [State.impressionDue, hbound, hin, ht, hready, hguard]

theorem State.impressionDue_of_free (hguard : (s.ply p).head.guardCount = 0) (sel : Select) :
    s.impressionDue p sel = s.fireImpression p sel := by
  simp [State.impressionDue, hbound, hin, ht, hready, hguard]

end Due

/-! ### What the impressions of a head leave as it was -/

/-- An impression of the plan as a later state may have it: not made WAITING again. -/
def Impression.Later (i k : Impression) : Prop :=
  k.select = i.select ∧ k.phase = i.phase ∧ k.error = i.error ∧ (k.state = .waiting → i.state = .waiting)

theorem Impression.Later.refl (i : Impression) : i.Later i := ⟨rfl, rfl, rfl, id⟩

theorem Impression.Later.trans {i k l : Impression} (h : i.Later k) (h' : k.Later l) : i.Later l := by
  obtain ⟨h1, h2, h3, h4⟩ := h
  obtain ⟨k1, k2, k3, k4⟩ := h'
  exact ⟨k1.trans h1, k2.trans h2, k3.trans h3, h4 ∘ k4⟩

theorem Impression.Later.forall₂_trans {l m n : List Impression} (h : List.Forall₂ Impression.Later l m)
    (k : List.Forall₂ Impression.Later m n) : List.Forall₂ Impression.Later l n := by
  induction h generalizing n with
  | nil => exact k
  | cons hi _ ih =>
    cases k with
    | cons hk ht => exact .cons (hi.trans hk) (ih ht)

/-- What impressions that fall due leave of a head: the plan but for the states of its impressions, the pending
trim and the inhibit; entries come to be for no further slot, and a loaded image may go. -/
structure HeadController.Worked (h k : HeadController) : Prop where
  plan : List.Forall₂ Impression.Later h.plan k.plan
  queue : ∀ x ∈ k.queue, ∃ y ∈ h.queue, y.slot = x.slot
  load : k.load = h.load ∨ (∃ img, h.load = .loaded img) ∧ k.load = .empty
  trim : k.pendingTrim = h.pendingTrim
  inhibit : k.inhibit = h.inhibit

namespace HeadController.Worked

theorem forall₂_map {f : Impression → Impression} (hf : ∀ i : Impression, i.Later (f i)) (l : List Impression) :
    List.Forall₂ Impression.Later l (l.map f) := by
  rw [List.forall₂_map_right_iff, List.forall₂_same]
  exact fun i _ => hf i

theorem refl (h : HeadController) : h.Worked h where
  plan := List.forall₂_same.mpr fun i _ => .refl i
  queue x hx := ⟨x, hx, rfl⟩
  load := .inl rfl
  trim := rfl
  inhibit := rfl

theorem trans {h k l : HeadController} (hk : h.Worked k) (kl : k.Worked l) : h.Worked l where
  plan := Impression.Later.forall₂_trans hk.plan kl.plan
  queue x hx := by
    obtain ⟨y, hy, hyx⟩ := kl.queue x hx
    obtain ⟨z, hz, hzy⟩ := hk.queue y hy
    exact ⟨z, hz, hzy.trans hyx⟩
  load := by
    obtain hl | ⟨⟨img, hl⟩, hl'⟩ := kl.load
    · rw [hl]; exact hk.load
    · obtain hm | ⟨hm, hm'⟩ := hk.load
      · exact .inr ⟨⟨img, hm.symm.trans hl⟩, hl'⟩
      · exact .inr ⟨hm, hl'⟩
  trim := kl.trim.trans hk.trim
  inhibit := kl.inhibit.trans hk.inhibit

theorem giveUp (h : HeadController) (j : Nat) : h.Worked (h.giveUp j) := by
  have hempty : ∀ img, h.load = .loaded img → h.Worked { h with load := .empty } := fun img hl =>
    { HeadController.Worked.refl h with load := .inr ⟨⟨img, hl⟩, rfl⟩ }
  unfold HeadController.giveUp
  split
  · split
    · exact hempty _ ‹_›
    · exact .refl h
  · exact .refl h
  · exact .refl h

theorem modImp (h : HeadController) (sel : Select) {f : Impression → Impression} (hf : ∀ i : Impression, i.Later (f i)) :
    h.Worked (h.modImp sel f) :=
  { HeadController.Worked.refl h with
    plan := forall₂_map (fun i => by split; exacts [hf i, .refl i]) h.plan }

theorem dropUnfired (h : HeadController) : h.Worked h.dropUnfired :=
  { HeadController.Worked.refl h with
    plan := forall₂_map (fun i => by
      split
      · exact .refl i
      · exact ⟨rfl, rfl, rfl, fun hd => by cases hd⟩) h.plan }

theorem closeUnready (h : HeadController) (j : Nat) : h.Worked (h.closeUnready j) :=
  { HeadController.Worked.refl h with
    queue := by
      intro x hx
      obtain ⟨y, hy, rfl⟩ := List.mem_map.mp hx
      refine ⟨y, hy, ?_⟩
      cases y with
      | blank k => rfl
      | image img taken => dsimp only; split <;> rfl
    load := by
      unfold HeadController.closeUnready
      cases hl : h.load with
      | empty => exact .inl rfl
      | loading img => exact .inl rfl
      | loaded img =>
        dsimp only
        split
        · exact .inl rfl
        · exact .inr ⟨⟨img, rfl⟩, rfl⟩ }

/-- A change of the guard count and of what is deferred. -/
theorem withGuard (h : HeadController) (guard : Nat) (deferred : List Select) :
    h.Worked { h with guardCount := guard, deferred := deferred } := { HeadController.Worked.refl h with }

end HeadController.Worked

/-- What impressions of a ply that fall due leave of the part: the positions, run values and captures, the slots
below the head slot, and of the ply's head what it keeps. -/
structure State.HeadWork (p : Ply) (s t : State) : Prop where
  marriageSlot : t.marriageSlot = s.marriageSlot
  length : t.slots.length = s.slots.length
  unit : ∀ q, (t.ply q).unit = (s.ply q).unit
  run : ∀ q, (t.ply q).run = (s.ply q).run
  capture : ∀ q, (t.ply q).capture = (s.ply q).capture
  below : ∀ i, i < (s.ply p).unit.headSlot → t.slotAt i = s.slotAt i
  head : (s.ply p).head.Worked (t.ply p).head

/-- A step of that work that drives no fire line and leaves the guard count. -/
def State.Unfired (p : Ply) (s t : State) : Prop :=
  t.out = s.out ∧ (t.ply p).head.guardCount = (s.ply p).head.guardCount

namespace State.HeadWork

variable {p : Ply} {s t u : State}

theorem refl (s : State) : HeadWork p s s := ⟨rfl, rfl, fun _ => rfl, fun _ => rfl, fun _ => rfl, fun _ _ => rfl, .refl _⟩

theorem trans (h : HeadWork p s t) (k : HeadWork p t u) : HeadWork p s u where
  marriageSlot := k.marriageSlot.trans h.marriageSlot
  length := k.length.trans h.length
  unit q := (k.unit q).trans (h.unit q)
  run q := (k.run q).trans (h.run q)
  capture q := (k.capture q).trans (h.capture q)
  below i hi := (k.below i (by rw [h.unit]; exact hi)).trans (h.below i hi)
  head := h.head.trans k.head

theorem windowEnd (h : HeadWork p s t) : t.windowEnd = s.windowEnd := by
  rw [State.windowEnd, State.windowEnd, h.marriageSlot, h.length]

theorem modHead (s : State) {f : HeadController → HeadController} (hf : (s.ply p).head.Worked (f (s.ply p).head)) :
    HeadWork p s (s.modHead p f) where
  marriageSlot := rfl
  length := rfl
  unit q := by rw [State.modHead, State.ply_modPly]; split <;> simp_all
  run q := by rw [State.modHead, State.ply_modPly]; split <;> simp_all
  capture q := by rw [State.modHead, State.ply_modPly]; split <;> simp_all
  below i _ := rfl
  head := by rw [State.modHead, State.ply_modPly, if_pos rfl]; exact hf

theorem of_sameHeads (hply : ∀ q, t.ply q = s.ply q) (hm : t.marriageSlot = s.marriageSlot)
    (hl : t.slots.length = s.slots.length) (hbelow : ∀ i, i < (s.ply p).unit.headSlot → t.slotAt i = s.slotAt i) :
    HeadWork p s t where
  marriageSlot := hm
  length := hl
  unit q := by rw [hply]
  run q := by rw [hply]
  capture q := by rw [hply]
  below := hbelow
  head := by rw [hply]; exact .refl _

theorem modSub (s : State) {j : Nat} (hj : (s.ply p).unit.headSlot ≤ j) (q : Ply) (f : SubRecord → SubRecord) :
    HeadWork p s (s.modSub j q f) :=
  .of_sameHeads (fun _ => by simp [State.modSub, State.ply]) (by simp [State.modSub]) (by simp [State.modSub])
    fun i hi => s.slotAt_modSlot_ne (Nat.ne_of_lt (Nat.lt_of_lt_of_le hi hj)) _

theorem emit (s : State) (o : Output) : HeadWork p s (s.emit o) :=
  .of_sameHeads (fun _ => rfl) rfl rfl fun _ _ => rfl

theorem takeSpoil (s : State) {j : Nat} (hj : (s.ply p).unit.headSlot ≤ j) (mark : SpoilMark) :
    HeadWork p s (s.takeSpoil j mark) where
  marriageSlot := (s.takeSpoil_frame j mark).marriageSlot
  length := (s.takeSpoil_frame j mark).length
  unit q := by rw [(s.takeSpoil_frame j mark).ply]
  run q := by rw [(s.takeSpoil_frame j mark).ply]
  capture q := by rw [(s.takeSpoil_frame j mark).ply]
  below i hi := State.slotAt_takeSpoil_below (Nat.lt_of_lt_of_le hi hj) mark
  head := by
    obtain ⟨hqueue, hload⟩ := s.lessened_takeSpoil j mark p
    rw [(s.takeSpoil_frame j mark).ply]
    exact { HeadController.Worked.refl (s.ply p).head with queue := fun x hx => ⟨x, hqueue x hx, rfl⟩, load := hload }

/-- R85 tests 2 to 4: a form closed. -/
theorem closeForm (s : State) (p : Ply) {f : HeadController → HeadController} (hf : ∀ h : HeadController, h.Worked (f h))
    (print : PrintState) (reason : Reason) : HeadWork p s (s.closeForm p f print reason) := by
  have hhead : HeadWork p s (s.modHead p fun h => f h.dropUnfired) :=
    .modHead s ((HeadController.Worked.dropUnfired _).trans (hf _))
  have hsub := HeadWork.modSub (p := p) (s.modHead p fun h => f h.dropUnfired) (j := (s.ply p).unit.headSlot)
    (by rw [hhead.unit]) p fun r => { r with print := print }
  exact (hhead.trans hsub).trans (.takeSpoil _ (by rw [hsub.unit, hhead.unit]) _)

/-- R86: a firing. -/
theorem fireImpression (s : State) (p : Ply) (sel : Select) : HeadWork p s (s.fireImpression p sel) := by
  have hfired : (s.ply p).head.Worked ((s.ply p).firedHead sel) :=
    (HeadController.Worked.modImp _ sel (f := fun i => { i with state := .fired })
      fun i => ⟨rfl, rfl, rfl, fun h => by cases h⟩).trans (.withGuard _ _ _)
  have hafter : (s.ply p).head.Worked ((s.ply p).headAfterFiring sel) := by
    unfold PlyState.headAfterFiring
    split
    · exact hfired.trans (.giveUp _ _)
    · exact hfired
  have hhead : HeadWork p s ((s.modHead p fun _ => (s.ply p).headAfterFiring sel).emit (.fire p sel)) :=
    (HeadWork.modHead s hafter).trans (.emit _ _)
  have hstate : HeadWork p s (s.firedState p sel) := hhead.trans (.modSub _ (by rw [hhead.unit]) _ _)
  rw [State.fireImpression_eq]
  split
  · exact hstate.trans (.takeSpoil _ (by rw [hstate.unit]) _)
  · exact hstate

/-- R85: an impression that is due. -/
theorem impressionDue (s : State) (p : Ply) (sel : Select) : HeadWork p s (s.impressionDue p sel) := by
  unfold State.impressionDue
  dsimp only
  split
  · exact .modHead s ((HeadController.Worked.modImp _ sel (f := fun i => { i with state := .dropped })
      fun i => ⟨rfl, rfl, rfl, fun h => by cases h⟩).trans (.giveUp _ _))
  split
  · exact .closeForm s p (fun h => .giveUp h _) _ _
  split
  · exact .closeForm s p (fun h => .giveUp h _) _ _
  split
  · exact .closeForm s p (fun h => .closeUnready h _) _ _
  split
  · exact .modHead s ((HeadController.Worked.modImp _ sel (f := fun i => { i with state := .deferred })
      fun i => ⟨rfl, rfl, rfl, fun h => by cases h⟩).trans (.withGuard _ _ _))
  · exact .fireImpression s p sel

theorem fallDue (s : State) (p : Ply) (sel : Select) : HeadWork p s (s.fallDue p sel) := by
  unfold State.fallDue
  split
  · exact .impressionDue s p sel
  · exact .refl s

theorem fallDueAll (sels : List Select) (s : State) (p : Ply) : HeadWork p s (s.fallDueAll p sels) := by
  induction sels generalizing s with
  | nil => exact .refl s
  | cons sel sels ih => exact (HeadWork.fallDue s p sel).trans (ih _)

theorem reachPhase (s : State) (p : Ply) (x : Nat) : HeadWork p s (s.reachPhase p x) := .fallDueAll _ s p

end State.HeadWork

/-! ### What drives a fire line -/

theorem HeadController.giveUp_guardCount (h : HeadController) (j : Nat) : (h.giveUp j).guardCount = h.guardCount := by
  unfold HeadController.giveUp
  split
  · split <;> rfl
  · rfl
  · rfl

theorem PlyState.headAfterFiring_guardCount (ps : PlyState) (sel : Select) :
    (ps.headAfterFiring sel).guardCount = ps.guardInForce := by
  unfold PlyState.headAfterFiring
  split
  · exact HeadController.giveUp_guardCount _ _
  · rfl

theorem State.firedState_head (s : State) (p : Ply) (sel : Select) :
    (s.firedState p sel).ply p = { s.ply p with head := (s.ply p).headAfterFiring sel }
    ∧ (s.firedState p sel).out = .fire p sel :: s.out := by
  refine ⟨?_, by simp [State.firedState, State.modSub, State.emit, State.modHead, State.modPly]⟩
  have hply : (s.firedState p sel).ply p = (s.modHead p fun _ => (s.ply p).headAfterFiring sel).ply p := by
    simp [State.firedState, State.modSub, State.ply, State.emit]
  rw [hply, State.modHead, State.ply_modPly, if_pos rfl]

/-- R86: a firing drives the fire line once and sets the guard. -/
theorem State.fireImpression_fires (s : State) (p : Ply) (sel : Select) :
    (s.fireImpression p sel).out = .fire p sel :: s.out
    ∧ ((s.fireImpression p sel).ply p).head.guardCount = (s.ply p).guardInForce := by
  obtain ⟨hply, hout⟩ := s.firedState_head p sel
  rw [State.fireImpression_eq]
  split
  · rw [((s.firedState p sel).takeSpoil_frame _ _).out, ((s.firedState p sel).takeSpoil_frame _ _).ply p, hply]
    exact ⟨hout, (s.ply p).headAfterFiring_guardCount sel⟩
  · rw [hply]
    exact ⟨hout, (s.ply p).headAfterFiring_guardCount sel⟩

/-! ### What drives none -/

namespace State.Unfired

variable {p : Ply} {s t u : State}

theorem refl (s : State) : Unfired p s s := ⟨rfl, rfl⟩

theorem trans (h : Unfired p s t) (k : Unfired p t u) : Unfired p s u := ⟨k.1.trans h.1, k.2.trans h.2⟩

theorem modHead (s : State) {f : HeadController → HeadController}
    (hf : (f (s.ply p).head).guardCount = (s.ply p).head.guardCount) : Unfired p s (s.modHead p f) := by
  refine ⟨rfl, ?_⟩
  rw [State.modHead, State.ply_modPly, if_pos rfl]
  exact hf

theorem modSub (s : State) (j : Nat) (q : Ply) (f : SubRecord → SubRecord) : Unfired p s (s.modSub j q f) :=
  ⟨by simp [State.modSub], by simp [State.modSub, State.ply]⟩

theorem takeSpoil (s : State) (j : Nat) (mark : SpoilMark) : Unfired p s (s.takeSpoil j mark) :=
  ⟨(s.takeSpoil_frame j mark).out, by rw [(s.takeSpoil_frame j mark).ply]⟩

theorem closeForm (s : State) {f : HeadController → HeadController} (hf : ∀ h, (f h).guardCount = h.guardCount)
    (print : PrintState) (reason : Reason) : Unfired p s (s.closeForm p f print reason) :=
  ((Unfired.modHead s (f := fun h => f h.dropUnfired) (hf _)).trans (.modSub _ _ _ _)).trans (.takeSpoil _ _ _)

/-- R85: with a guard running, no impression that falls due fires. -/
theorem impressionDue (hguard : 0 < (s.ply p).head.guardCount) (sel : Select) : Unfired p s (s.impressionDue p sel) := by
  unfold State.impressionDue
  dsimp only
  split
  · exact .modHead s (HeadController.giveUp_guardCount _ _)
  split
  · exact .closeForm s (fun h => h.giveUp_guardCount _) _ _
  split
  · exact .closeForm s (fun h => h.giveUp_guardCount _) _ _
  split
  · exact .closeForm s (f := (·.closeUnready _)) (fun _ => rfl) _ _
  exact .modHead s rfl

theorem fallDue (hguard : 0 < (s.ply p).head.guardCount) (sel : Select) : Unfired p s (s.fallDue p sel) := by
  unfold State.fallDue
  split
  · exact .impressionDue hguard sel
  · exact .refl s

theorem fallDueAll (sels : List Select) {s : State} (hguard : 0 < (s.ply p).head.guardCount) :
    Unfired p s (s.fallDueAll p sels) := by
  induction sels generalizing s with
  | nil => exact .refl s
  | cons sel sels ih =>
    have hfirst := Unfired.fallDue hguard sel
    exact hfirst.trans (ih (by rw [hfirst.2]; exact hguard))

end State.Unfired

end Sys2Proof.Machine


/-! ## The end of a guard (section 4.5) -/

namespace Sys2Proof.Machine

theorem State.boundAt_congr {s t : State} (hs : t.slots = s.slots) (hm : t.marriageSlot = s.marriageSlot) :
    t.boundAt = s.boundAt := by
  funext j
  simp only [State.boundAt, State.slotAt_of_slots hs hm]

/-- R85 test 4 reads of a ply its load and head slot alone. -/
theorem State.readyToFire_congr {s t : State} {p : Ply} (hs : t.slots = s.slots)
    (hm : t.marriageSlot = s.marriageSlot) (hload : (t.ply p).head.load = (s.ply p).head.load)
    (hhead : (t.ply p).unit.headSlot = (s.ply p).unit.headSlot) : t.readyToFire p = s.readyToFire p := by
  simp only [State.readyToFire, State.current_congr hs hm, hload, hhead]

/-- R87: the ply as an advance leaves it, before a deferred impression is taken up. -/
def PlyState.advanced (ps : PlyState) (x : Nat) : PlyState :=
  { ps with unit := { ps.unit with position := x }, head := ps.head.advance }

/-- R87: the ply with its oldest deferred impression taken up. -/
def PlyState.takenUp (ps : PlyState) (x : Nat) (rest : List Select) : PlyState :=
  { ps.advanced x with head := { ps.head.advance with deferred := rest } }

theorem State.takeUpDeferred_of_none {s : State} {p : Ply} (h : (s.ply p).head.deferred = []) :
    s.takeUpDeferred p = s := by rw [State.takeUpDeferred, h]

theorem State.takeUpDeferred_of_cons {s : State} {p : Ply} {sel : Select} {rest : List Select}
    (h : (s.ply p).head.deferred = sel :: rest) : s.takeUpDeferred p =
      (s.modHead p fun h => { h with deferred := rest }).impressionDue p sel := by rw [State.takeUpDeferred, h]

theorem State.advancedTo_eq (s : State) (p : Ply) (x : Nat) : s.advancedTo p x =
    if (s.ply p).head.guardCount = 1 then (s.modPly p fun ps => ps.advanced x).takeUpDeferred p
    else s.modPly p fun ps => ps.advanced x := by
  have hmod : (s.modUnit p fun u => { u with position := x }).modHead p HeadController.advance
      = s.modPly p fun ps => ps.advanced x := State.modPly_modPly ..
  have hguard : ((s.modUnit p fun u => { u with position := x }).ply p).head.guardCount
      = (s.ply p).head.guardCount := by
    rw [State.modUnit, State.ply_modPly, if_pos rfl]
  rw [State.advancedTo, State.advanceGuard, hmod, hguard]

/-- R87: what the advance leaves, when the guard that ends takes up a deferred impression. -/
theorem State.advancedTo_of_deferred {s : State} {p : Ply} {x : Nat} {sel : Select} {rest : List Select}
    (hguard : (s.ply p).head.guardCount = 1) (hdeferred : (s.ply p).head.deferred = sel :: rest) :
    s.advancedTo p x = (s.modPly p fun ps => ps.takenUp x rest).impressionDue p sel := by
  have hadvanced : ((s.modPly p fun ps => ps.advanced x).ply p).head.deferred = sel :: rest := by
    rw [State.ply_modPly, if_pos rfl]; exact hdeferred
  have hmod : (s.modPly p fun ps => ps.advanced x).modHead p (fun h => { h with deferred := rest })
      = s.modPly p fun ps => ps.takenUp x rest :=
    State.modPly_modPly ..
  rw [State.advancedTo_eq, if_pos hguard, State.takeUpDeferred_of_cons hadvanced, hmod]

theorem exec_guardExpiry {s : State} {p : Ply} (hrun : s.inRun = true) (hp : s.active p = true)
    (howed : (s.ply p).unit.owed = 0) (hguard : (s.ply p).head.guardCount = 1) :
    exec (.guardExpiry p) s = .next (s.forwardAdvance p) := by
  change execGuardExpiry p s = _
  simp [execGuardExpiry, hrun, hp, howed, hguard]

theorem exec_guardExpiry_of_not {s : State} {p : Ply} (h : s.active p = false ∨ 0 < (s.ply p).unit.owed
    ∨ (s.ply p).head.guardCount ≠ 1) : exec (.guardExpiry p) s = .next s := by
  change execGuardExpiry p s = _
  obtain h | h | h := h
  · simp [execGuardExpiry, h]
  · simp [execGuardExpiry, Nat.ne_of_gt h]
  · simp [execGuardExpiry, h]

/-- Settles O11: the advance fires what was deferred longest, and the guard then set keeps the impressions of the
new position from firing. -/
theorem guardExpiryFiresTheOldestDeferred : Obligations.GuardExpiryFiresTheOldestDeferred := by
  unfold Obligations.GuardExpiryFiresTheOldestDeferred
  refine ⟨fun p sel rest s hrun hp howed hguard hdeferred hform hbound hin htrusted hready hforce => ?_, fun p s =>
    ⟨fun hrun hp howed hguard hdeferred hform hnone => ?_, exec_guardExpiry_of_not⟩⟩
  · have hexec := exec_guardExpiry hrun hp howed hguard
    have hframe := (PressAct.forwardAdvance (s := s) hp).frame
    rw [State.forwardAdvance_eq, if_neg (Nat.not_le.mpr hform), State.advancedTo_of_deferred hguard hdeferred]
      at hexec hframe
    generalize hu : s.modPly p (fun ps => ps.takenUp ((s.ply p).unit.position + 1) rest) = u at hexec hframe
    have hply : u.ply p = (s.ply p).takenUp ((s.ply p).unit.position + 1) rest := by
      rw [← hu, State.ply_modPly, if_pos rfl]
    have hothers : ∀ q, q ≠ p → u.ply q = s.ply q := fun q hq => by rw [← hu, State.ply_modPly, if_neg hq]
    have hslots : u.slots = s.slots := by rw [← hu]; rfl
    have hmarriage : u.marriageSlot = s.marriageSlot := by rw [← hu]; rfl
    have hout : u.out = s.out := by rw [← hu]; rfl
    have hhead : (u.ply p).unit.headSlot = (s.ply p).unit.headSlot := by rw [hply]; rfl
    have hfree : u.impressionDue p sel = u.fireImpression p sel := State.impressionDue_of_free
      (by rw [hhead, State.boundAt_congr hslots hmarriage]; exact hbound) (by rw [hply]; exact hin)
      (by rw [hply]; exact htrusted)
      (by rw [State.readyToFire_congr hslots hmarriage (by rw [hply]; rfl) hhead]; exact hready)
      (by rw [hply]; exact (congrArg (· - 1) hguard :)) sel
    rw [hfree] at hexec hframe
    obtain ⟨hfires, hset⟩ := u.fireImpression_fires p sel
    have hforce' : (u.ply p).guardInForce = (s.ply p).guardInForce := by rw [hply]; rfl
    have hquiet := State.Unfired.fallDueAll (p := p) (((u.fireImpression p sel).ply p).head.waitingIn
      ((s.ply p).unit.position + 1) ((s.ply p).unit.position + 1)) (s := u.fireImpression p sel)
      (by rw [hset, hforce']; exact hforce)
    have hwork := (State.HeadWork.fireImpression u p sel).trans
      (.reachPhase (u.fireImpression p sel) p ((s.ply p).unit.position + 1))
    refine ⟨_, hexec, ?_, ?_, ?_, ?_, ?_, ?_, hframe⟩
    · exact hquiet.1.trans (hfires.trans (by rw [hout]))
    · exact hquiet.2.trans (hset.trans hforce')
    · rw [hwork.unit, hply]; rfl
    · intro q hq
      rw [hwork.unit, hothers q hq]
    · intro i hi
      rw [hwork.below i (by rw [hhead]; exact hi), State.slotAt_of_slots hslots hmarriage]
    · rw [hwork.marriageSlot, hmarriage]
  · rw [exec_guardExpiry hrun hp howed hguard, State.forwardAdvance_eq, if_neg (Nat.not_le.mpr hform)]
    have hadvanced : s.advancedTo p ((s.ply p).unit.position + 1)
        = s.modPly p fun ps => ps.advanced ((s.ply p).unit.position + 1) := by
      rw [State.advancedTo_eq, if_pos hguard, State.takeUpDeferred_of_none]
      rw [State.ply_modPly, if_pos rfl]
      exact hdeferred
    rw [hadvanced, State.reachPhase_of_none]
    · exact congrArg Host.Outcome.next (State.modPly_congr
        (by simp only [PlyState.advanced, HeadController.advance, hguard]; rfl))
    · intro i hi hw
      rw [State.ply_modPly, if_pos rfl] at hi
      obtain ⟨k, hk, hstate, hphase⟩ := HeadController.mem_advance_plan hi
      rw [← hphase]
      exact hnone k hk (hstate.trans hw)

end Sys2Proof.Machine


/-! ## Marks and snaps (sections 3.5 and 4.6) -/

namespace Sys2Proof.Machine

theorem State.exceedsTolerance_iff {s : State} {j : Nat} {x : Slot} {b : Binding} (hx : s.slotAt j = some x)
    (hb : x.binding = some b) (e : Nat) : s.exceedsTolerance j e = true ↔
      ∃ lay, s.segmentLayout b.segment = some lay ∧ lay.tolerance < e := by
  rw [State.exceedsTolerance, State.toleranceAt, hx, Option.bind_some, hb, Option.bind_some]
  cases s.segmentLayout b.segment <;> simp

/-! ### What becomes of a form that is spoiled -/

/-- The form of a slot whose binding is known, and whose spoil, where it has one, is a known one. -/
structure State.FormOf (s : State) (j : Nat) (p : Ply) (b : Binding) (mark : SpoilMark) (x : Slot) (r : SubRecord) :
    Prop where
  slot : s.slotAt j = some x
  sub : x.subs.get p = some r
  disp : x.disp = .bound b none ∨ x.disp = s.spoiled b mark

namespace State.FormOf

variable {s t : State} {j : Nat} {p : Ply} {b : Binding} {mark : SpoilMark} {x : Slot} {r : SubRecord}

theorem subAt (h : s.FormOf j p b mark x r) : s.subAt j p = some r := by
  rw [State.subAt, h.slot, Option.bind_some, h.sub]

theorem of_subAt (hx : s.slotAt j = some x) (hr : s.subAt j p = some r)
    (hd : x.disp = .bound b none ∨ x.disp = s.spoiled b mark) : s.FormOf j p b mark x r :=
  ⟨hx, by rwa [State.subAt, hx, Option.bind_some] at hr, hd⟩

theorem congr (h : s.FormOf j p b mark x r) (hx : t.slotAt j = s.slotAt j) (hp : t.policy = s.policy) :
    t.FormOf j p b mark x r :=
  ⟨hx.trans h.slot, h.sub, by rw [State.spoiled, hp]; exact h.disp⟩

/-- The binding stays with a slot that is spoiled. -/
theorem binding (h : s.FormOf j p b mark x r) : x.binding = some b := by
  obtain hd | hd := h.disp
  · rw [Slot.binding, hd]
  · obtain hs | hs : s.spoiled b mark = .void b (.spoil mark) ∨ s.spoiled b mark = .bound b (some mark) :=
      ite_eq_or_eq ..
    all_goals rw [Slot.binding, hd, hs]

theorem exceeds_iff (h : s.FormOf j p b mark x r) (e : Nat) : s.exceedsTolerance j e = true ↔
    ∃ lay, s.segmentLayout b.segment = some lay ∧ lay.tolerance < e :=
  State.exceedsTolerance_iff h.slot h.binding e

/-- A spoil of the form: it is decided once, and the form keeps what was fired. -/
theorem takeSpoil (h : s.FormOf j p b mark x r) : ∃ y k, (s.takeSpoil j mark).FormOf j p b mark y k
    ∧ y.disp = s.spoiled b mark ∧ r.SameForm k := by
  have hpolicy : (s.takeSpoil j mark).policy = s.policy := (s.takeSpoil_frame j mark).policy
  obtain ⟨k, hk, hsame⟩ := State.sameForm_takeSpoil h.subAt mark
  obtain ⟨y, hy, hd⟩ : ∃ y, (s.takeSpoil j mark).slotAt j = some y ∧ y.disp = s.spoiled b mark := by
    obtain hd | hd := h.disp
    · obtain ⟨y, hy, hyd, -⟩ := State.takeSpoil_decides h.slot hd mark
      exact ⟨y, hy, hyd⟩
    · obtain ⟨y, hy, hyd⟩ := State.takeSpoil_decided h.slot (by rw [hd]; exact s.spoiled_decided b mark) mark
      exact ⟨y, hy, hyd.trans hd⟩
  exact ⟨y, k, .of_subAt hy hk (.inr (by rw [hd, State.spoiled, State.spoiled, hpolicy])), hd, hsame⟩

/-- A change of the ply's sub-record. -/
theorem modSub (h : s.FormOf j p b mark x r) (f : SubRecord → SubRecord) :
    (s.modSub j p f).FormOf j p b mark (x.modSub p f) (f r) where
  slot := State.slotAt_modSlot_self h.slot _
  sub := by rw [Slot.subs_modSub, if_pos rfl, h.sub, Option.map_some]
  disp := by rw [State.spoiled, State.modSub_policy]; exact h.disp

end State.FormOf

/-! ### A backward snap (R90, R91) -/

/-- The errors among `errs` are recorded in the form, with Misplaced and the spoil where one exceeds the
tolerance. -/
def State.Records (s : State) (j : Nat) (p : Ply) (b : Binding) (tol : Nat) (errs : List Nat) (t : State) : Prop :=
  ∃ x r, t.FormOf j p b ⟨.misplace, p⟩ x r ∧ s.SetupKept t ∧ (t.ply p).unit.headSlot = j
    ∧ ∀ e ∈ errs, ∃ w, r.error = some w ∧ e ≤ w
      ∧ (tol < e → r.misplaced = true ∧ x.disp = s.spoiled b ⟨.misplace, p⟩)

theorem recordError_le (old : Option Nat) (e : Nat) : ∃ w, recordError old e = some w ∧ e ≤ w
    ∧ ∀ v, old = some v → v ≤ w := by
  cases old with
  | none => exact ⟨e, rfl, le_rfl, fun v hv => by cases hv⟩
  | some o =>
    refine ⟨max o e, rfl, Nat.le_max_right .., fun v hv => ?_⟩
    cases hv
    exact Nat.le_max_left ..

theorem State.SetupKept.segmentLayout {s t : State} (h : s.SetupKept t) : t.segmentLayout = s.segmentLayout := by
  obtain ⟨hsegments, -, hlayouts, -⟩ := h
  funext i
  simp only [State.segmentLayout, State.segment, State.layout, hsegments, hlayouts]

theorem State.SetupKept.policy {s t : State} (h : s.SetupKept t) : t.policy = s.policy := by
  obtain ⟨-, -, -, -, -, hpolicy, -⟩ := h
  exact hpolicy

theorem State.SetupKept.spoiled {s t : State} (h : s.SetupKept t) (b : Binding) (mark : SpoilMark) :
    t.spoiled b mark = s.spoiled b mark := by rw [State.spoiled, State.spoiled, h.policy]

theorem State.backwardOver_of_fired {s : State} {p : Ply} {i : Impression} (h : i.state = .fired) (d : Nat) :
    s.backwardOver p d i =
      let w := (s.modHead p fun h => h.modImp i.select fun k => { k with error := capError (i.error + d) }).modSub
        (s.ply p).unit.headSlot p fun r => { r with
          error := recordError r.error (capError (i.error + d))
          misplaced := r.misplaced || s.exceedsTolerance (s.ply p).unit.headSlot (capError (i.error + d)) }
      if s.exceedsTolerance (s.ply p).unit.headSlot (capError (i.error + d)) then
        w.takeSpoil (s.ply p).unit.headSlot ⟨.misplace, p⟩
      else w := by simp only [State.backwardOver, h]

theorem State.backwardOver_of_deferred {s : State} {p : Ply} {i : Impression} (h : i.state = .deferred) (d : Nat) :
    s.backwardOver p d i =
      s.modHead p fun h => h.modImp i.select fun k => { k with error := capError (i.error + d) } := by
  simp only [State.backwardOver, h]

theorem State.backwardOver_of_neither {s : State} {p : Ply} {i : Impression} (hf : i.state ≠ .fired)
    (hd : i.state ≠ .deferred) (d : Nat) : s.backwardOver p d i = s := by
  unfold State.backwardOver
  cases h : i.state <;> simp_all

/-- R90, R91: what the snap over a FIRED impression writes in the form. -/
theorem State.FormOf.backwardOver {t : State} {j : Nat} {p : Ply} {b : Binding} {x : Slot} {r : SubRecord} {tol : Nat}
    (h : t.FormOf j p b ⟨.misplace, p⟩ x r) (hhead : (t.ply p).unit.headSlot = j)
    (htol : ∀ e, t.exceedsTolerance j e = decide (tol < e)) {d : Nat} {i : Impression} (hf : i.state = .fired) :
    ∃ y k, (t.backwardOver p d i).FormOf j p b ⟨.misplace, p⟩ y k
      ∧ k.error = recordError r.error (capError (i.error + d))
      ∧ k.misplaced = (r.misplaced || decide (tol < capError (i.error + d)))
      ∧ y.disp = if tol < capError (i.error + d) then t.spoiled b ⟨.misplace, p⟩ else x.disp := by
  have heq := State.backwardOver_of_fired (s := t) (p := p) hf d
  rw [hhead, htol] at heq
  have hmoved : (t.modHead p fun h => h.modImp i.select fun k => { k with error := capError (i.error + d) }).FormOf
      j p b ⟨.misplace, p⟩ x r := h.congr rfl rfl
  have hwritten := hmoved.modSub fun r => { r with
    error := recordError r.error (capError (i.error + d))
    misplaced := r.misplaced || decide (tol < capError (i.error + d)) }
  rw [heq]
  by_cases hlt : tol < capError (i.error + d)
  · simp only [decide_eq_true hlt, if_true] at hwritten ⊢
    obtain ⟨y, k, hy, hyd, -, hkerror, hkmis, -⟩ := hwritten.takeSpoil
    refine ⟨y, k, hy, hkerror, hkmis, hyd.trans ?_⟩
    rw [if_pos hlt, State.spoiled, State.spoiled, State.modSub_policy]
    rfl
  · simp only [decide_eq_false hlt, Bool.false_eq_true, if_false] at hwritten ⊢
    refine ⟨_, _, hwritten, rfl, rfl, ?_⟩
    rw [if_neg hlt]
    rfl

/-- The ply's unit stays as a snap goes over the impressions. -/
theorem State.unit_backwardOver (s : State) (p q : Ply) (d : Nat) (i : Impression) :
    ((s.backwardOver p d i).ply q).unit = (s.ply q).unit := by
  have hraise : ∀ f : HeadController → HeadController, ((s.modHead p f).ply q).unit = (s.ply q).unit := fun f => by
    rw [State.modHead, State.ply_modPly]; split <;> simp_all
  unfold State.backwardOver
  dsimp only
  split
  · rfl
  · rfl
  · exact hraise _
  · split
    · rw [(State.takeSpoil_frame _ _ _).ply, (State.modSub_frame _ _ _ _).ply, hraise]
    · rw [(State.modSub_frame _ _ _ _).ply, hraise]

/-- R90, R91: the error of a FIRED impression is recorded, and none that was is forgotten. -/
theorem State.Records.backwardOver {s t : State} {j tol : Nat} {p : Ply} {b : Binding} {errs : List Nat} {lay : Layout}
    (hlay : s.segmentLayout b.segment = some lay) (htol : lay.tolerance = tol) (h : s.Records j p b tol errs t)
    (d : Nat) (i : Impression) :
    s.Records j p b tol (if i.state = .fired then capError (i.error + d) :: errs else errs) (t.backwardOver p d i) := by
  obtain ⟨x, r, hform, hsetup, hhead, herrs⟩ := h
  have hsetup' : s.SetupKept (t.backwardOver p d i) := hsetup.trans (PressAct.backwardOver t p d i).setup
  have hhead' : ((t.backwardOver p d i).ply p).unit.headSlot = j := by rw [t.unit_backwardOver]; exact hhead
  by_cases hf : i.state = .fired
  · have hexceeds : ∀ e, t.exceedsTolerance j e = decide (tol < e) := fun e => by
      rw [Bool.eq_iff_iff, hform.exceeds_iff, hsetup.segmentLayout, hlay]
      simp [htol]
    obtain ⟨y, k, hy, hkerror, hkmis, hyd⟩ := hform.backwardOver hhead hexceeds (d := d) hf
    obtain ⟨w, hw, hew, hold⟩ := recordError_le r.error (capError (i.error + d))
    rw [hsetup.spoiled] at hyd
    rw [if_pos hf]
    refine ⟨y, k, hy, hsetup', hhead', fun e he => ⟨w, hkerror.trans hw, ?_⟩⟩
    obtain rfl | he := List.mem_cons.mp he
    · exact ⟨hew, fun hlt => ⟨by rw [hkmis, decide_eq_true hlt, Bool.or_true], hyd.trans (if_pos hlt)⟩⟩
    · obtain ⟨v, hv, hev, hmis⟩ := herrs e he
      refine ⟨hev.trans (hold v hv), fun hlt => ?_⟩
      obtain ⟨hr, hxd⟩ := hmis hlt
      refine ⟨by rw [hkmis, hr, Bool.true_or], ?_⟩
      rw [hyd, hxd, ite_self]
  · rw [if_neg hf]
    have hquiet : (t.backwardOver p d i).slotAt j = t.slotAt j ∧ (t.backwardOver p d i).policy = t.policy := by
      by_cases hd : i.state = .deferred
      · rw [State.backwardOver_of_deferred hd]; exact ⟨rfl, rfl⟩
      · rw [State.backwardOver_of_neither hf hd]; exact ⟨rfl, rfl⟩
    exact ⟨x, r, hform.congr hquiet.1 hquiet.2, hsetup', hhead', herrs⟩

theorem State.Records.foldl {s : State} {j tol : Nat} {p : Ply} {b : Binding} {lay : Layout}
    (hlay : s.segmentLayout b.segment = some lay) (htol : lay.tolerance = tol) (d : Nat) (l : List Impression)
    {t : State} {errs : List Nat} (h : s.Records j p b tol errs t) :
    ∃ errs', s.Records j p b tol errs' (l.foldl (fun t i => t.backwardOver p d i) t) ∧ errs ⊆ errs'
      ∧ ∀ i ∈ l, i.state = .fired → capError (i.error + d) ∈ errs' := by
  induction l generalizing t errs with
  | nil => exact ⟨errs, h, fun _ => id, by simp⟩
  | cons i l ih =>
    obtain ⟨errs', h', hsub, hmem⟩ := ih (h.backwardOver hlay htol d i)
    refine ⟨errs', h', fun e he => hsub ?_, fun k hk hf => ?_⟩
    · split
      · exact List.mem_cons_of_mem _ he
      · exact he
    · obtain rfl | hk := List.mem_cons.mp hk
      · exact hsub (by rw [if_pos hf]; exact List.mem_cons_self ..)
      · exact hmem k hk hf

end Sys2Proof.Machine


namespace Sys2Proof.Machine

/-! ### A backward snap as a whole -/

/-- R90: what the snap over one impression of the plan makes of another. -/
def Impression.raisedOver (d : Nat) (k i : Impression) : Impression :=
  if (i.state = .fired ∨ i.state = .deferred) ∧ k.select = i.select then { k with error := capError (i.error + d) }
  else k

theorem Impression.raisedOver_select (d : Nat) (k i : Impression) : (k.raisedOver d i).select = k.select := by
  unfold Impression.raisedOver
  split <;> rfl

theorem State.plan_backwardOver (s : State) (p : Ply) (d : Nat) (i : Impression) :
    ((s.backwardOver p d i).ply p).head.plan = (s.ply p).head.plan.map fun k => k.raisedOver d i := by
  have hraise : ((s.modHead p fun h => h.modImp i.select fun k =>
      { k with error := capError (i.error + d) }).ply p).head.plan
      = (s.ply p).head.plan.map fun k => if k.select = i.select then { k with error := capError (i.error + d) } else k := by
    rw [State.modHead, State.ply_modPly, if_pos rfl]; rfl
  by_cases hf : i.state = .fired
  · have hkept : ∀ (w : State) (f : SubRecord → SubRecord) (mark : SpoilMark),
        ((w.modSub (s.ply p).unit.headSlot p f).ply p).head.plan = (w.ply p).head.plan
        ∧ (((w.modSub (s.ply p).unit.headSlot p f).takeSpoil (s.ply p).unit.headSlot mark).ply p).head.plan
          = (w.ply p).head.plan := fun w f mark => by
      rw [(State.takeSpoil_frame _ _ _).ply, (State.modSub_frame _ _ _ _).ply]
      exact ⟨rfl, rfl⟩
    rw [State.backwardOver_of_fired hf]
    dsimp only
    simp only [Impression.raisedOver, hf, true_or, true_and]
    rw [← hraise]
    split
    · exact (hkept _ _ _).2
    · exact (hkept _ _ ⟨.misplace, p⟩).1
  · by_cases hd : i.state = .deferred
    · rw [State.backwardOver_of_deferred hd, hraise]
      simp only [Impression.raisedOver, hd, or_true, true_and]
    · rw [State.backwardOver_of_neither hf hd]
      simp [Impression.raisedOver, hf, hd]

/-- What a snap over an impression leaves alone. -/
structure State.SnapKept (p : Ply) (s t : State) : Prop where
  out : t.out = s.out
  marriageSlot : t.marriageSlot = s.marriageSlot
  length : t.slots.length = s.slots.length
  unit : ∀ q, (t.ply q).unit = (s.ply q).unit
  below : ∀ i, i < (s.ply p).unit.headSlot → t.slotAt i = s.slotAt i

theorem State.SnapKept.refl (p : Ply) (s : State) : s.SnapKept p s := ⟨rfl, rfl, rfl, fun _ => rfl, fun _ _ => rfl⟩

theorem State.SnapKept.trans {p : Ply} {s t u : State} (h : s.SnapKept p t) (k : t.SnapKept p u) : s.SnapKept p u :=
  ⟨k.out.trans h.out, k.marriageSlot.trans h.marriageSlot, k.length.trans h.length,
    fun q => (k.unit q).trans (h.unit q),
    fun i hi => (k.below i (by rw [h.unit]; exact hi)).trans (h.below i hi)⟩

theorem State.SnapKept.of_work {p : Ply} {s t : State} (h : s.HeadWork p t) (ho : t.out = s.out) : s.SnapKept p t :=
  ⟨ho, h.marriageSlot, h.length, h.unit, h.below⟩

theorem State.SnapKept.backwardOver (s : State) (p : Ply) (d : Nat) (i : Impression) :
    s.SnapKept p (s.backwardOver p d i) := by
  have hraise : ∀ f : Impression → Impression, s.SnapKept p (s.modHead p fun h => h.modImp i.select f) := fun f =>
    ⟨rfl, rfl, rfl, fun q => by rw [State.modHead, State.ply_modPly]; split <;> simp_all, fun _ _ => rfl⟩
  have hsub : ∀ (w : State) (f : SubRecord → SubRecord), w.SnapKept p (w.modSub (w.ply p).unit.headSlot p f) :=
    fun w f => .of_work (.modSub w le_rfl p f) (w.modSub_frame _ p f).out
  have hspoil : ∀ (w : State) (mark : SpoilMark), w.SnapKept p (w.takeSpoil (w.ply p).unit.headSlot mark) :=
    fun w mark => .of_work (.takeSpoil w le_rfl mark) (w.takeSpoil_frame _ mark).out
  unfold State.backwardOver
  dsimp only
  split
  · exact .refl p s
  · exact .refl p s
  · exact hraise _
  · have hwritten := (hraise fun k => { k with error := capError (i.error + d) }).trans (hsub _ fun r => { r with
      error := recordError r.error (capError (i.error + d))
      misplaced := r.misplaced || s.exceedsTolerance (s.ply p).unit.headSlot (capError (i.error + d)) })
    rw [(hraise _).unit] at hwritten
    split
    · have hspoiled := hwritten.trans (hspoil _ ⟨.misplace, p⟩)
      rwa [hwritten.unit] at hspoiled
    · exact hwritten

theorem State.SnapKept.foldl (p : Ply) (d : Nat) (l : List Impression) (s : State) :
    s.SnapKept p (l.foldl (fun t i => t.backwardOver p d i) s) := by
  induction l generalizing s with
  | nil => exact .refl p s
  | cons i l ih => exact (State.SnapKept.backwardOver s p d i).trans (ih _)

theorem State.plan_foldl_backwardOver (p : Ply) (d : Nat) (l : List Impression) (s : State) :
    ((l.foldl (fun t i => t.backwardOver p d i) s).ply p).head.plan
      = (s.ply p).head.plan.map fun k => l.foldl (Impression.raisedOver d) k := by
  induction l generalizing s with
  | nil => simp
  | cons i l ih =>
    rw [List.foldl_cons, ih, s.plan_backwardOver, List.map_map]
    rfl

theorem Impression.foldl_raisedOver_select (d : Nat) (l : List Impression) (k : Impression) :
    (l.foldl (Impression.raisedOver d) k).select = k.select := by
  induction l generalizing k with
  | nil => rfl
  | cons i l ih => rw [List.foldl_cons, ih, k.raisedOver_select]

/-- Over impressions of other selects nothing is raised. -/
theorem Impression.foldl_raisedOver_of_ne (d : Nat) (l : List Impression) (k : Impression)
    (h : ∀ i ∈ l, k.select ≠ i.select) : l.foldl (Impression.raisedOver d) k = k := by
  induction l generalizing k with
  | nil => rfl
  | cons i l ih =>
    have hfirst : k.raisedOver d i = k := if_neg fun hc => h i (List.mem_cons_self ..) hc.2
    rw [List.foldl_cons, hfirst, ih k fun i hi => h i (List.mem_cons_of_mem _ hi)]

/-- R90: of impressions with different selects, each is raised by its own error at most once. -/
theorem Impression.foldl_raisedOver {d : Nat} {plan l : List Impression} (hl : l.Sublist plan)
    (hnodup : (plan.map (·.select)).Nodup) {k : Impression} (hk : k ∈ plan) :
    l.foldl (Impression.raisedOver d) k =
      if (k.state = .fired ∨ k.state = .deferred) ∧ k ∈ l then { k with error := capError (k.error + d) } else k := by
  have hinj : ∀ i ∈ plan, k.select = i.select → k = i := fun i hi hs => List.inj_on_of_nodup_map hnodup hk hi hs
  have hnodupl : (l.map (·.select)).Nodup := hnodup.sublist (hl.map _)
  have hsub := hl.subset
  clear hl
  induction l with
  | nil => simp
  | cons i l ih =>
    rw [List.map_cons, List.nodup_cons] at hnodupl
    rw [List.foldl_cons]
    by_cases hki : k = i
    · subst hki
      have hrest : ∀ i ∈ l, k.select ≠ i.select := fun i hi hs =>
        hnodupl.1 (List.mem_map.mpr ⟨i, hi, hs.symm⟩)
      have hself : k.raisedOver d k = if k.state = .fired ∨ k.state = .deferred
          then { k with error := capError (k.error + d) } else k := by simp [Impression.raisedOver]
      rw [Impression.foldl_raisedOver_of_ne d l _ (by rw [k.raisedOver_select]; exact hrest), hself]
      simp
    · have hother : k.raisedOver d i = k := if_neg fun hc => hki (hinj i (hsub (List.mem_cons_self ..)) hc.2)
      rw [hother, ih hnodupl.2 fun i hi => hsub (List.mem_cons_of_mem _ hi)]
      simp [hki]

end Sys2Proof.Machine


namespace Sys2Proof.Machine

/-! ### A forward snap (R89) -/

/-- Of a plan whose selects differ, the impression found by a select is the one that has it. -/
theorem HeadController.impState_of_mem {h : HeadController} (hnodup : (h.plan.map (·.select)).Nodup)
    {k : Impression} (hk : k ∈ h.plan) : h.impState k.select = some k.state := by
  cases hfind : h.plan.find? (fun i => decide (i.select = k.select)) with
  | none => exact absurd (List.find?_eq_none.mp hfind k hk) (by simp)
  | some i =>
    have hi := List.mem_of_find?_eq_some hfind
    have hs : i.select = k.select := by simpa using List.find?_some hfind
    rw [HeadController.impState, hfind, Option.map_some, List.inj_on_of_nodup_map hnodup hi hk hs]

theorem HeadController.giveUp_plan (h : HeadController) (j : Nat) : (h.giveUp j).plan = h.plan := by
  unfold HeadController.giveUp
  split
  · split <;> rfl
  · rfl
  · rfl

/-- What a closed form leaves of the ply: a spoil takes entries and a loaded image at most. -/
theorem State.ply_closeForm (s : State) (p : Ply) (f : HeadController → HeadController) (print : PrintState)
    (reason : Reason) : ∃ q l, (s.closeForm p f print reason).ply p = { s.ply p with
      head := { f (s.ply p).head.dropUnfired with queue := q, load := l } }
    ∧ (f (s.ply p).head.dropUnfired).Lessened { f (s.ply p).head.dropUnfired with queue := q, load := l } := by
  have hply : ((s.modHead p fun h => f h.dropUnfired).modSub (s.ply p).unit.headSlot p fun r =>
      { r with print := print }).ply p = { s.ply p with head := f (s.ply p).head.dropUnfired } := by
    rw [State.ply, State.modSub_plies]
    exact (State.ply_modPly ..).trans (if_pos rfl)
  have hless := State.lessened_takeSpoil ((s.modHead p fun h => f h.dropUnfired).modSub (s.ply p).unit.headSlot p
    fun r => { r with print := print }) (s.ply p).unit.headSlot ⟨reason, p⟩ p
  have hframe := (State.takeSpoil_frame ((s.modHead p fun h => f h.dropUnfired).modSub (s.ply p).unit.headSlot p
    fun r => { r with print := print }) (s.ply p).unit.headSlot ⟨reason, p⟩).ply p
  rw [hframe, hply] at hless
  rw [hply] at hframe
  exact ⟨_, _, hframe, hless⟩

/-- What a firing leaves of the ply: a spoil takes entries and a loaded image at most. -/
theorem State.ply_fireImpression (s : State) (p : Ply) (sel : Select) : ∃ q l,
    (s.fireImpression p sel).ply p = { s.ply p with
      head := { (s.ply p).headAfterFiring sel with queue := q, load := l } }
    ∧ ((s.ply p).headAfterFiring sel).Lessened { (s.ply p).headAfterFiring sel with queue := q, load := l } := by
  have hply := (s.firedState_head p sel).1
  rw [State.fireImpression_eq]
  split
  · have hless := State.lessened_takeSpoil (s.firedState p sel) (s.ply p).unit.headSlot ⟨.misplace, p⟩ p
    have hframe := (State.takeSpoil_frame (s.firedState p sel) (s.ply p).unit.headSlot ⟨.misplace, p⟩).ply p
    rw [hframe, hply] at hless
    rw [hply] at hframe
    exact ⟨_, _, hframe, hless⟩
  · exact ⟨_, _, hply, .refl _⟩

theorem PlyState.headAfterFiring_plan (ps : PlyState) (sel : Select) :
    (ps.headAfterFiring sel).plan = (ps.head.modImp sel fun i => { i with state := .fired }).plan := by
  unfold PlyState.headAfterFiring
  split
  · rw [HeadController.giveUp_plan]; rfl
  · rfl

/-- R85: a form closed leaves no impression but those FIRED and those dropped. -/
theorem State.closeForm_plan {s : State} {p : Ply} {f : HeadController → HeadController} {print : PrintState}
    {reason : Reason} (hf : ∀ h, (f h).plan = h.plan) :
    ∀ i ∈ ((s.closeForm p f print reason).ply p).head.plan, i.state = .fired ∨ i.state = .dropped := by
  intro i hi
  obtain ⟨q, l, hply, -⟩ := s.ply_closeForm p f print reason
  rw [hply] at hi
  dsimp only at hi
  rw [hf] at hi
  obtain ⟨k, -, rfl⟩ := List.mem_map.mp hi
  split
  · exact .inl ‹_›
  · exact .inr rfl

/-- R85: every test that an impression may meet takes it out of WAITING. -/
theorem State.impressionDue_not_waiting (s : State) (p : Ply) (sel : Select) :
    ∀ k ∈ ((s.impressionDue p sel).ply p).head.plan, k.select = sel → k.state ≠ .waiting := by
  have hmod : ∀ (h : HeadController) (f : Impression → Impression), (∀ i, (f i).state ≠ .waiting) →
      ∀ k ∈ (h.modImp sel f).plan, k.select = sel → k.state ≠ .waiting := by
    intro h f hf k hk hs
    obtain ⟨i, -, rfl⟩ := List.mem_map.mp hk
    by_cases hi : i.select = sel
    · rw [if_pos hi]; exact hf i
    · rw [if_neg hi] at hs; exact absurd hs hi
  have hclosed : ∀ {k : Impression}, k.state = .fired ∨ k.state = .dropped → k.state ≠ .waiting := by
    rintro k (h | h) <;> simp [h]
  unfold State.impressionDue
  dsimp only
  split
  · rw [State.modHead, State.ply_modPly, if_pos rfl]
    dsimp only
    rw [HeadController.giveUp_plan]
    exact hmod _ _ fun i => by simp
  split
  · exact fun k hk _ => hclosed (State.closeForm_plan (fun h => h.giveUp_plan _) k hk)
  split
  · exact fun k hk _ => hclosed (State.closeForm_plan (fun h => h.giveUp_plan _) k hk)
  split
  · exact fun k hk _ => hclosed (State.closeForm_plan (f := (·.closeUnready _)) (fun _ => rfl) k hk)
  split
  · rw [State.modHead, State.ply_modPly, if_pos rfl]
    exact hmod _ _ fun i => by simp
  · obtain ⟨q, l, hply, -⟩ := s.ply_fireImpression p sel
    rw [hply]
    dsimp only
    rw [PlyState.headAfterFiring_plan]
    exact hmod _ _ fun i => by simp

theorem State.fallDue_not_waiting {s : State} {p : Ply} (hnodup : ((s.ply p).head.plan.map (·.select)).Nodup)
    (sel : Select) : ∀ k ∈ ((s.fallDue p sel).ply p).head.plan, k.select = sel → k.state ≠ .waiting := by
  unfold State.fallDue
  split
  · exact s.impressionDue_not_waiting p sel
  · rintro k hk rfl hw
    exact ‹¬ _› (by rw [HeadController.impState_of_mem hnodup hk, hw])

theorem HeadController.Worked.selects {h k : HeadController} (hk : h.Worked k) :
    k.plan.map (·.select) = h.plan.map (·.select) := by
  have hplan := hk.plan
  generalize h.plan = l, k.plan = m at hplan
  induction hplan with
  | nil => rfl
  | cons hi _ ih => rw [List.map_cons, List.map_cons, ih, hi.1]

theorem HeadController.Worked.mem {h l : HeadController} (hl : h.Worked l) {k : Impression} (hk : k ∈ l.plan) :
    ∃ i ∈ h.plan, i.Later k := by
  have hplan := hl.plan
  generalize h.plan = m, l.plan = n at hplan hk
  induction hplan with
  | nil => cases hk
  | cons hi _ ih =>
    obtain rfl | hk := List.mem_cons.mp hk
    · exact ⟨_, List.mem_cons_self .., hi⟩
    · obtain ⟨i, hmem, hlater⟩ := ih hk
      exact ⟨i, List.mem_cons_of_mem _ hmem, hlater⟩

/-- R84: what has fallen due is WAITING no longer. -/
theorem State.fallDueAll_not_waiting {p : Ply} (sels : List Select) {s : State}
    (hnodup : ((s.ply p).head.plan.map (·.select)).Nodup) :
    ∀ k ∈ ((s.fallDueAll p sels).ply p).head.plan, k.select ∈ sels → k.state ≠ .waiting := by
  induction sels generalizing s with
  | nil => intro k _ hs; cases hs
  | cons sel sels ih =>
    intro k hk hs hw
    have hfirst := State.HeadWork.fallDue s p sel
    have hrest := State.HeadWork.fallDueAll sels (s.fallDue p sel) p
    by_cases hmem : k.select ∈ sels
    · exact ih (by rw [hfirst.head.selects]; exact hnodup) k hk hmem hw
    · obtain hsel | hsel := List.mem_cons.mp hs
      · obtain ⟨i, hi, hselect, -, -, hwait⟩ := hrest.head.mem hk
        exact State.fallDue_not_waiting hnodup sel i hi (hselect.symm.trans hsel) (hwait hw)
      · exact hmem hsel

end Sys2Proof.Machine


namespace Sys2Proof.Machine

/-! ### The pulse -/

/-- R62: a pulse is ignored with the mark taken, in LOST, and outside the window. -/
theorem PlyState.acceptsMark_of_ignored {ps : PlyState} {v : RunValues} (hv : ps.run = some v)
    (h : ps.unit.markTaken = true ∨ ps.unit.registration = .lost
      ∨ ((ps.unit.registration = .locked ∨ ps.unit.registration = .coast)
        ∧ (ps.unit.position + v.window < ps.record.markPhase ∨ ps.record.markPhase + v.window < ps.unit.position))) :
    ps.acceptsMark = false := by
  obtain h | h | ⟨h | h, hout⟩ := h
  · simp [PlyState.acceptsMark, h]
  · simp [PlyState.acceptsMark, h]
  all_goals
    simp only [PlyState.acceptsMark, PlyState.acceptsMark.inWindow, h, hv, Option.map_some, Option.getD_some]
    split
    · rfl
    · rw [← Bool.not_eq_true, Bool.and_eq_true, decide_eq_true_eq, decide_eq_true_eq]
      omega

/-- R62: a pulse is accepted in SEARCH, and inside the window in LOCKED and COAST. -/
theorem PlyState.acceptsMark_of_accepted {ps : PlyState} {v : RunValues} (hv : ps.run = some v)
    (htaken : ps.unit.markTaken = false) (h : ps.unit.registration = .search
      ∨ ((ps.unit.registration = .locked ∨ ps.unit.registration = .coast)
        ∧ ps.record.markPhase ≤ ps.unit.position + v.window
        ∧ ps.unit.position ≤ ps.record.markPhase + v.window)) : ps.acceptsMark = true := by
  obtain h | ⟨h | h, hlow, hhigh⟩ := h
  · simp [PlyState.acceptsMark, h, htaken]
  all_goals simp [PlyState.acceptsMark, PlyState.acceptsMark.inWindow, h, htaken, hv, hlow, hhigh]

theorem exec_markPulse {s : State} {p : Ply} (hrun : s.inRun = true) (hp : s.active p = true) :
    exec (.markPulse p) s = .next (if (s.ply p).acceptsMark then s.snap p else s) := by
  change execMarkPulse p s = _
  simp [execMarkPulse, hrun, hp]

/-- R63: the unit that an accepted mark leaves. -/
def PlyState.snapped (ps : PlyState) : PositionUnit :=
  { position := ps.record.markPhase, owed := 0, registration := .locked, headSlot := ps.unit.headSlot
    markTaken := true, spliceWatch := ps.unit.spliceWatch }

/-- The state with the ply's position snapped, before its impressions are dealt with. -/
def State.snappedTo (s : State) (p : Ply) : State := s.modUnit p fun _ => (s.ply p).snapped

theorem State.snap_eq (s : State) (p : Ply) : s.snap p =
    if (s.ply p).unit.position < (s.ply p).record.markPhase then
      (s.snappedTo p).forwardSnap p (s.ply p).unit.position (s.ply p).record.markPhase
    else if (s.ply p).record.markPhase < (s.ply p).unit.position then
      (s.snappedTo p).backwardSnap p (s.ply p).unit.position (s.ply p).record.markPhase
    else s.snappedTo p := by
  have hunit : (s.modUnit p fun u =>
      { u with position := (s.ply p).record.markPhase, owed := 0, registration := .locked, markTaken := true })
      = s.snappedTo p := State.modPly_congr rfl
  rw [State.snap, hunit]

theorem State.ply_snappedTo (s : State) (p q : Ply) : (s.snappedTo p).ply q =
    if q = p then { s.ply p with unit := (s.ply p).snapped } else s.ply q := State.ply_modPly ..

/-- R89: the impressions that a forward snap passes over, with the distance to E as their error. -/
def Impression.passedOver (sels : List Select) (e : Nat) (i : Impression) : Impression :=
  if sels.contains i.select then { i with error := capError (e - i.phase) } else i

theorem Impression.passedOver_select (sels : List Select) (e : Nat) (i : Impression) :
    (i.passedOver sels e).select = i.select ∧ (i.passedOver sels e).phase = i.phase
    ∧ (i.passedOver sels e).state = i.state := by
  unfold Impression.passedOver
  split <;> exact ⟨rfl, rfl, rfl⟩

/-- R89: the state before the impressions passed over fall due. -/
def State.passedTo (s : State) (p : Ply) (x e : Nat) : State :=
  s.modHead p fun h => { h with
    plan := h.plan.map (Impression.passedOver ((s.ply p).head.waitingIn (x + 1) e) e) }

theorem State.forwardSnap_eq (s : State) (p : Ply) (x e : Nat) :
    s.forwardSnap p x e = (s.passedTo p x e).fallDueAll p ((s.ply p).head.waitingIn (x + 1) e) := rfl

theorem State.passedTo_of_none {s : State} {p : Ply} {x e : Nat} (h : (s.ply p).head.waitingIn (x + 1) e = []) :
    s.passedTo p x e = s := by
  have hid : (s.ply p).head.plan.map (Impression.passedOver [] e) = (s.ply p).head.plan :=
    (List.map_congr_left fun i _ => rfl).trans (List.map_id _)
  rw [State.passedTo, State.modHead, h]
  exact State.modPly_id (by rw [hid])

theorem HeadController.mem_waitingIn {h : HeadController} {a b : Nat} {i : Impression} (hi : i ∈ h.plan)
    (hw : i.state = .waiting) (ha : a ≤ i.phase) (hb : i.phase ≤ b) : i.select ∈ h.waitingIn a b :=
  List.mem_map.mpr ⟨i, List.mem_filter.mpr ⟨hi, by simp [hw, ha, hb]⟩, rfl⟩

/-- The first impression with a select is found in a plan whose selects are kept. -/
theorem HeadController.impState_map {h : HeadController} {f : Impression → Impression}
    (hf : ∀ i, (f i).select = i.select ∧ (f i).state = i.state) (sel : Select) :
    ({ h with plan := h.plan.map f } : HeadController).impState sel = h.impState sel := by
  unfold HeadController.impState
  dsimp only
  generalize h.plan = l
  induction l with
  | nil => rfl
  | cons i l ih =>
    rw [List.map_cons, List.find?_cons, List.find?_cons, (hf i).1]
    cases decide (i.select = sel) with
    | true => exact congrArg some (hf i).2
    | false => exact ih


/-- Where the position is E already, no impression lies between. -/
theorem HeadController.waitingIn_empty (h : HeadController) (x : Nat) : h.waitingIn (x + 1) x = [] := by
  rw [HeadController.waitingIn, List.map_eq_nil_iff, List.filter_eq_nil_iff]
  intro i _
  simp only [Bool.and_eq_true, decide_eq_true_eq]
  omega

theorem State.snap_of_le {s : State} {p : Ply} (h : (s.ply p).unit.position ≤ (s.ply p).record.markPhase) :
    s.snap p = (s.snappedTo p).forwardSnap p (s.ply p).unit.position (s.ply p).record.markPhase := by
  rw [State.snap_eq]
  obtain hlt | heq := Nat.lt_or_eq_of_le h
  · rw [if_pos hlt]
  · rw [heq, if_neg (Nat.lt_irrefl _), if_neg (Nat.lt_irrefl _), State.forwardSnap_eq, HeadController.waitingIn_empty,
      State.passedTo_of_none (HeadController.waitingIn_empty ..)]
    rfl

theorem State.snap_of_lt {s : State} {p : Ply} (h : (s.ply p).record.markPhase < (s.ply p).unit.position) :
    s.snap p = (s.snappedTo p).backwardSnap p (s.ply p).unit.position (s.ply p).record.markPhase := by
  rw [State.snap_eq, if_neg (Nat.lt_asymm h), if_pos h]

/-- What a snap of either kind leaves: the unit snapped, the other units, and the slots below. -/
theorem State.snap_kept (s : State) (p : Ply) : ((s.snap p).ply p).unit = (s.ply p).snapped
    ∧ (∀ q, q ≠ p → ((s.snap p).ply q).unit = (s.ply q).unit)
    ∧ (∀ i, i < (s.ply p).unit.headSlot → (s.snap p).slotAt i = s.slotAt i)
    ∧ (s.snap p).marriageSlot = s.marriageSlot ∧ (s.snap p).slots.length = s.slots.length := by
  have hunit : ∀ q, ((s.snappedTo p).ply q).unit = if q = p then (s.ply p).snapped else (s.ply q).unit := fun q => by
    rw [s.ply_snappedTo]; split <;> rfl
  have hpassed : ∀ q x e, (((s.snappedTo p).passedTo p x e).ply q).unit = ((s.snappedTo p).ply q).unit :=
    fun q x e => by rw [State.passedTo, State.modHead, State.ply_modPly]; split <;> simp_all
  have hhead : ((s.snappedTo p).ply p).unit.headSlot = (s.ply p).unit.headSlot := by
    rw [hunit, if_pos rfl]; rfl
  obtain ⟨t, ht, hu, hbelow, hm, hl⟩ : ∃ t, t = s.snap p ∧ (∀ q, (t.ply q).unit = ((s.snappedTo p).ply q).unit)
      ∧ (∀ i, i < (s.ply p).unit.headSlot → t.slotAt i = s.slotAt i) ∧ t.marriageSlot = s.marriageSlot
      ∧ t.slots.length = s.slots.length := by
    obtain h | h := Nat.lt_or_ge (s.ply p).record.markPhase (s.ply p).unit.position
    · have hkept : (s.snappedTo p).SnapKept p (s.snap p) := by
        rw [State.snap_of_lt h]; exact .foldl p _ _ _
      exact ⟨_, rfl, hkept.unit, fun i hi => hkept.below i (by rw [hhead]; exact hi), hkept.marriageSlot, hkept.length⟩
    · have hwork := State.HeadWork.fallDueAll (((s.snappedTo p).ply p).head.waitingIn ((s.ply p).unit.position + 1)
        (s.ply p).record.markPhase)
        ((s.snappedTo p).passedTo p (s.ply p).unit.position (s.ply p).record.markPhase) p
      rw [← State.forwardSnap_eq, ← State.snap_of_le h] at hwork
      exact ⟨_, rfl, fun q => (hwork.unit q).trans (hpassed q _ _),
        fun i hi => hwork.below i (by rw [hpassed, hhead]; exact hi), hwork.marriageSlot, hwork.length⟩
  rw [← ht]
  exact ⟨by rw [hu, hunit, if_pos rfl], fun q hq => by rw [hu, hunit, if_neg hq], hbelow, hm, hl⟩

end Sys2Proof.Machine


namespace Sys2Proof.Machine

/-- R89, R84: each impression that a forward snap passes over has its distance to E as its error, and is WAITING no
longer. -/
theorem State.forwardSnap_passed {s : State} {p : Ply} {x e : Nat} (hnodup : ((s.ply p).head.plan.map (·.select)).Nodup)
    {i : Impression} (hi : i ∈ (s.ply p).head.plan) (hw : i.state = .waiting) (hx : x < i.phase) (he : i.phase ≤ e)
    {k : Impression} (hk : k ∈ ((s.forwardSnap p x e).ply p).head.plan) (hs : k.select = i.select) :
    k.phase = i.phase ∧ k.error = min (e - i.phase) 65535 ∧ k.state ≠ .waiting := by
  have hplan : ((s.passedTo p x e).ply p).head.plan
      = (s.ply p).head.plan.map (Impression.passedOver ((s.ply p).head.waitingIn (x + 1) e) e) := by
    rw [State.passedTo, State.modHead, State.ply_modPly, if_pos rfl]
  have hnodup' : (((s.passedTo p x e).ply p).head.plan.map (·.select)).Nodup := by
    rw [hplan, List.map_map]
    exact (congrArg List.Nodup (List.map_congr_left fun k _ => (k.passedOver_select _ e).1)).mpr hnodup
  have hsel : i.select ∈ (s.ply p).head.waitingIn (x + 1) e := HeadController.mem_waitingIn hi hw hx he
  rw [State.forwardSnap_eq] at hk
  have hwaits := State.fallDueAll_not_waiting _ hnodup' k hk (by rw [hs]; exact hsel)
  obtain ⟨l, hl, hselect, hphase, herror, -⟩ := (State.HeadWork.fallDueAll _ (s.passedTo p x e) p).head.mem hk
  rw [hplan] at hl
  obtain ⟨m, hm, rfl⟩ := List.mem_map.mp hl
  have hmi : m = i := List.inj_on_of_nodup_map hnodup hm hi
    ((m.passedOver_select _ e).1.symm.trans (hselect.symm.trans hs))
  subst hmi
  have hpassed : m.passedOver ((s.ply p).head.waitingIn (x + 1) e) e = { m with error := capError (e - m.phase) } :=
    if_pos (List.contains_iff_mem.mpr hsel)
  rw [hpassed] at hphase herror
  exact ⟨hphase, herror, hwaits⟩

/-- R89, R85: one impression passed over on a bound form with a ready head fires, or is deferred. -/
theorem State.forwardSnap_single {s : State} {p : Ply} {x e : Nat} {sel : Select}
    (hsels : (s.ply p).head.waitingIn (x + 1) e = [sel]) (hstate : (s.ply p).head.impState sel = some .waiting)
    (hbound : s.boundAt (s.ply p).unit.headSlot ≠ none) (hin : (s.ply p).head.inhibit = false)
    (htrusted : (s.ply p).unit.registration.trusted = true) (hready : s.readyToFire p = true) :
    ((s.ply p).head.guardCount = 0 → (s.forwardSnap p x e).out = .fire p sel :: s.out)
    ∧ (0 < (s.ply p).head.guardCount → (s.forwardSnap p x e).out = s.out
      ∧ ((s.forwardSnap p x e).ply p).head.deferred = (s.ply p).head.deferred ++ [sel]) := by
  have hply : (s.passedTo p x e).ply p = { s.ply p with head := { (s.ply p).head with
      plan := (s.ply p).head.plan.map (Impression.passedOver ((s.ply p).head.waitingIn (x + 1) e) e) } } := by
    rw [State.passedTo, State.modHead, State.ply_modPly, if_pos rfl]
  have hfall : s.forwardSnap p x e = (s.passedTo p x e).impressionDue p sel := by
    rw [State.forwardSnap_eq, hsels]
    refine if_pos ?_
    rw [hply]
    exact (HeadController.impState_map (fun i => ⟨(i.passedOver_select _ e).1, (i.passedOver_select _ e).2.2⟩) sel).trans
      hstate
  have hbound' : (s.passedTo p x e).boundAt ((s.passedTo p x e).ply p).unit.headSlot ≠ none := by
    rw [hply, State.boundAt_congr (s := s) (t := s.passedTo p x e) rfl rfl]; exact hbound
  have hin' : ((s.passedTo p x e).ply p).head.inhibit = false := by rw [hply]; exact hin
  have htrusted' : ((s.passedTo p x e).ply p).unit.registration.trusted = true := by rw [hply]; exact htrusted
  have hready' : (s.passedTo p x e).readyToFire p = true := by
    rw [State.readyToFire_congr (s := s) (t := s.passedTo p x e) rfl rfl (by rw [hply]) (by rw [hply])]; exact hready
  rw [hfall]
  refine ⟨fun hguard => ?_, fun hguard => ?_⟩
  · rw [State.impressionDue_of_free hbound' hin' htrusted' hready' (by rw [hply]; exact hguard),
      (State.fireImpression_fires _ p sel).1]
    rfl
  · rw [State.impressionDue_of_guard hbound' hin' htrusted' hready' (by rw [hply]; exact hguard)]
    refine ⟨rfl, ?_⟩
    rw [State.modHead, State.ply_modPly, if_pos rfl, hply]

/-- R90: what a backward snap leaves of the plan. -/
theorem State.backwardSnap_plan {s : State} {p : Ply} {x e : Nat} (hnodup : ((s.ply p).head.plan.map (·.select)).Nodup) :
    ((s.backwardSnap p x e).ply p).head.plan = (s.ply p).head.plan.map fun i =>
      if (i.state = .fired ∨ i.state = .deferred) ∧ e < i.phase ∧ i.phase ≤ x then
        { i with error := min (i.error + (x - e)) 65535 } else i := by
  rw [State.backwardSnap, State.plan_foldl_backwardOver]
  refine List.map_congr_left fun k hk => ?_
  rw [Impression.foldl_raisedOver List.filter_sublist hnodup hk]
  have hmem : k ∈ (s.ply p).head.plan.filter (fun i => decide (e < i.phase) && decide (i.phase ≤ x))
      ↔ e < k.phase ∧ k.phase ≤ x := by
    rw [List.mem_filter]
    simp [hk]
  simp only [hmem]
  rfl

/-- Settles O12: the pulse is accepted or ignored; a snap either brings the impressions between due, or raises the
errors of those it goes back over. -/
theorem markPulseSnapsOrIsIgnored : Obligations.MarkPulseSnapsOrIsIgnored := by
  unfold Obligations.MarkPulseSnapsOrIsIgnored
  intro p v s hrun hp hv u e snapped
  have hexec := exec_markPulse hrun hp
  refine ⟨fun hignored => by rw [hexec, PlyState.acceptsMark_of_ignored hv hignored]; rfl, fun htaken haccepted => ?_⟩
  rw [PlyState.acceptsMark_of_accepted hv htaken haccepted, if_pos rfl] at hexec
  obtain ⟨hunit, hothers, hbelow, hmarriage, hlength⟩ := s.snap_kept p
  have hply : (s.snappedTo p).ply p = { s.ply p with unit := (s.ply p).snapped } := by
    rw [s.ply_snappedTo, if_pos rfl]
  have hhead : ((s.snappedTo p).ply p).head = (s.ply p).head := by rw [hply]
  refine ⟨s.snap p, hexec, hunit, hothers, hbelow, hmarriage, hlength, (PressAct.snap s p).frame, fun hle => ?_,
    fun hlt => ?_⟩
  · rw [State.snap_of_le hle]
    refine ⟨fun hnone => ?_, fun hnodup i hi hw hx he k hk hs => ?_, fun sel hsels hstate hbound hin hready => ?_⟩
    · rw [State.forwardSnap_eq, State.passedTo_of_none (by rw [hhead]; exact hnone), hhead, hnone]
      rfl
    · exact State.forwardSnap_passed (by rw [hhead]; exact hnodup) (by rw [hhead]; exact hi) hw hx he hk hs
    · have hsingle := State.forwardSnap_single (s := s.snappedTo p) (p := p) (x := u.position) (e := e) (sel := sel)
        (by rw [hhead]; exact hsels) (by rw [hhead]; exact hstate) (by rw [hply]; exact hbound)
        (by rw [hhead]; exact hin) (by rw [hply]; rfl)
        (by rw [State.readyToFire_congr (s := s) (t := s.snappedTo p) rfl rfl (by rw [hhead]) (by rw [hply]; rfl)]
            exact hready)
      rw [hhead] at hsingle
      exact hsingle
  · rw [State.snap_of_lt hlt]
    refine ⟨(State.SnapKept.foldl p _ _ (s.snappedTo p)).out, fun hnodup => ⟨?_, ?_⟩⟩
    · rw [State.backwardSnap_plan (by rw [hhead]; exact hnodup), hhead]
    · intro i hi hf he hx slot b r lay hslot hd hr hlay error
      have hsetup : s.SetupKept (s.snappedTo p) := ⟨rfl, rfl, rfl, fun q => by
        rw [s.ply_snappedTo]; split <;> simp_all, rfl, rfl, rfl, rfl, rfl, rfl, rfl⟩
      have hstart : s.Records u.headSlot p b lay.tolerance [] (s.snappedTo p) :=
        ⟨slot, r, ⟨hslot, hr, .inl hd⟩, hsetup, by rw [hply]; rfl, fun e he => by cases he⟩
      obtain ⟨errs, ⟨y, k, hform, -, -, herrs⟩, -, hmem⟩ := hstart.foldl hlay rfl (u.position - e)
        (((s.snappedTo p).ply p).head.plan.filter fun i => decide (e < i.phase) && decide (i.phase ≤ u.position))
      obtain ⟨w, hw, hle, hmis⟩ := herrs error (hmem i (List.mem_filter.mpr ⟨by rw [hhead]; exact hi, by simp [he, hx]⟩) hf)
      refine ⟨⟨k, w, hform.subAt, hw, hle, fun hlt => (hmis hlt).1⟩, fun hlt => ?_⟩
      have hslot' := hform.slot
      rw [State.backwardSnap, hslot', Option.map_some, (hmis hlt).2]

end Sys2Proof.Machine


/-! ## An impression at its phase (section 4.5) -/

namespace Sys2Proof.Machine

/-! ### The plan as its impressions change -/

theorem HeadController.waitingIn_map {h k : HeadController} {f : Impression → Impression} (hk : k.plan = h.plan.map f)
    (hf : ∀ i, (f i).select = i.select ∧ (f i).phase = i.phase ∧ (f i).state = i.state) (a b : Nat) :
    k.waitingIn a b = h.waitingIn a b := by
  rw [HeadController.waitingIn, HeadController.waitingIn, hk, List.filter_map, List.map_map]
  refine congrArg₂ List.map (funext fun i => (hf i).1) (List.filter_congr fun i _ => ?_)
  simp only [Function.comp, (hf i).2.1, (hf i).2.2]

theorem HeadController.find?_map {h k : HeadController} {f : Impression → Impression} (hk : k.plan = h.plan.map f)
    (hf : ∀ i, (f i).select = i.select) (sel : Select) :
    k.plan.find? (fun i => decide (i.select = sel)) = (h.plan.find? fun i => decide (i.select = sel)).map f := by
  rw [hk, List.find?_map]
  simp only [Function.comp_def, hf]

theorem HeadController.find?_select {h : HeadController} {sel : Select} {i : Impression}
    (hi : h.plan.find? (fun i => decide (i.select = sel)) = some i) : i.select = sel := by
  simpa using List.find?_some hi

/-- The state of the impression that is changed. -/
theorem HeadController.impState_modImp {h : HeadController} {sel : Select} {st : ImpressionState}
    (hs : (h.impState sel).isSome = true) : (h.modImp sel fun i => { i with state := st }).impState sel = some st := by
  obtain ⟨old, hold⟩ := Option.isSome_iff_exists.mp hs
  obtain ⟨i, hi, -⟩ := Option.map_eq_some_iff.mp hold
  have hfind := HeadController.find?_map (h := h) (k := h.modImp sel fun i => { i with state := st })
    (f := fun i => if i.select = sel then { i with state := st } else i) rfl (fun i => by split <;> rfl) sel
  rw [HeadController.impState, hfind, hi, Option.map_some, Option.map_some, if_pos (HeadController.find?_select hi)]

/-- R87: the plan as an advance leaves it. -/
def Impression.advanced (i : Impression) : Impression :=
  if i.state = .deferred then { i with error := capError (i.error + 1) } else i

theorem Impression.advanced_select (i : Impression) : i.advanced.select = i.select ∧ i.advanced.phase = i.phase
    ∧ i.advanced.state = i.state := by
  unfold Impression.advanced
  split <;> exact ⟨rfl, rfl, rfl⟩

/-! ### A spoil decided already (R9) -/

theorem State.takeSpoil_of_pending {s : State} {j : Nat} {x : Slot} {b : Binding} {m : SpoilMark}
    (hx : s.slotAt j = some x) (hd : x.disp = .bound b (some m)) (mark : SpoilMark) :
    s.takeSpoil j mark = s.secondReason j mark := by
  rw [State.takeSpoil, hx]
  dsimp only
  rw [hd]

/-! ### A form closed (R85 tests 2 to 4) -/

/-- What a closed form is: the impressions dropped, the print state written, and the spoil decided. -/
theorem State.closeForm_closed {s : State} {p : Ply} {f : HeadController → HeadController} {print : PrintState}
    (reason : Reason) (hplan : ∀ h, (f h).plan = h.plan) (hdeferred : ∀ h, (f h).deferred = h.deferred)
    (hprint : print ≠ .pending) :
    let t := s.closeForm p f print reason
    t.out = s.out
    ∧ (∀ i ∈ (t.ply p).head.plan, i.state = .fired ∨ i.state = .dropped)
    ∧ (t.ply p).head.deferred = []
    ∧ (∀ r, s.subAt (s.ply p).unit.headSlot p = some r →
      (t.subAt (s.ply p).unit.headSlot p).map (·.print) = some print
      ∧ (t.subAt (s.ply p).unit.headSlot p).map (·.fired) = some r.fired
      ∧ (t.subAt (s.ply p).unit.headSlot p).map (·.error) = some r.error)
    ∧ (∀ slot b, s.slotAt (s.ply p).unit.headSlot = some slot → slot.disp = .bound b none →
      (t.slotAt (s.ply p).unit.headSlot).map (·.disp) = some (s.spoiled b ⟨reason, p⟩)) := by
  intro t
  obtain ⟨q, l, hply, -⟩ := s.ply_closeForm p f print reason
  let u := (s.modHead p fun h => f h.dropUnfired).modSub (s.ply p).unit.headSlot p fun r => { r with print := print }
  have hslotAt : ∀ {x : Slot}, s.slotAt (s.ply p).unit.headSlot = some x →
      u.slotAt (s.ply p).unit.headSlot = some (x.modSub p fun r => { r with print := print }) := fun hx =>
    State.slotAt_modSlot_self (s := s.modHead p fun h => f h.dropUnfired) hx _
  refine ⟨?_, State.closeForm_plan hplan, ?_, fun r hr => ?_, fun slot b hslot hd => ?_⟩
  · exact ((u.takeSpoil_frame _ _).out.trans (State.modSub_out ..)).trans rfl
  · rw [hply]; exact hdeferred _
  · obtain ⟨x, hx, hxr⟩ := Option.bind_eq_some_iff.mp hr
    have hu : u.subAt (s.ply p).unit.headSlot p = some { r with print := print } := by
      rw [State.subAt, hslotAt hx, Option.bind_some, Slot.subs_modSub, if_pos rfl, hxr, Option.map_some]
    obtain ⟨k, hk, hfired, herror, -, -, hkprint⟩ := State.sameForm_takeSpoil hu ⟨reason, p⟩
    have hk' : t.subAt (s.ply p).unit.headSlot p = some k := hk
    rw [hk', Option.map_some, Option.map_some, Option.map_some, hkprint hprint, hfired, herror]
    exact ⟨rfl, rfl, rfl⟩
  · obtain ⟨y, hy, hyd, -⟩ := State.takeSpoil_decides (hslotAt hslot) hd ⟨reason, p⟩
    have hy' : t.slotAt (s.ply p).unit.headSlot = some y := hy
    rw [hy', Option.map_some, hyd, State.spoiled, State.modSub_policy]
    rfl

end Sys2Proof.Machine


namespace Sys2Proof.Machine

/-! ### What a firing writes (R86, R91) -/

theorem PlyState.allFired_iff (ps : PlyState) (sel : Select) : (ps.firedHead sel).allFired = true ↔
    ∀ k ∈ ps.head.plan, k.select = sel ∨ k.state = .fired := by
  have hplan : (ps.firedHead sel).plan = ps.head.plan.map fun i => if i.select = sel then { i with state := .fired } else i :=
    rfl
  simp only [HeadController.allFired, hplan, List.all_map, List.all_eq_true, Function.comp, decide_eq_true_eq]
  refine forall₂_congr fun k _ => ?_
  by_cases hs : k.select = sel <;> simp [hs]

theorem HeadController.errorOf_of_find {h : HeadController} {sel : Select} {i : Impression}
    (hi : h.plan.find? (fun i => decide (i.select = sel)) = some i) : h.errorOf sel = i.error := by
  rw [HeadController.errorOf, hi, Option.map_some, Option.getD_some]

theorem recordError_getD (old : Option Nat) (e : Nat) : recordError old e = some (max (old.getD 0) e) := by
  cases old with
  | none => rw [recordError, Option.getD_none, Nat.zero_max]
  | some o => rfl

theorem State.slotAt_firedState {s : State} {p : Ply} {x : Slot} (hx : s.slotAt (s.ply p).unit.headSlot = some x)
    (sel : Select) : (s.firedState p sel).slotAt (s.ply p).unit.headSlot = some (x.modSub p fun r =>
      r.fire ((s.ply p).head.errorOf sel)
        (s.exceedsTolerance (s.ply p).unit.headSlot ((s.ply p).head.errorOf sel))
        ((s.ply p).firedHead sel).allFired) :=
  State.slotAt_modSlot_self (s := (s.modHead p fun _ => (s.ply p).headAfterFiring sel).emit (.fire p sel)) hx _

/-- R86: the sub-record of a form after a firing, spoiled or not. -/
theorem State.subAt_fireImpression {s : State} {p : Ply} {sel : Select} {r : SubRecord}
    (hr : s.subAt (s.ply p).unit.headSlot p = some r) :
    ∃ k, (s.fireImpression p sel).subAt (s.ply p).unit.headSlot p = some k
      ∧ k.fired = min (r.fired + 1) 4
      ∧ k.error = recordError r.error ((s.ply p).head.errorOf sel)
      ∧ k.misplaced = (r.misplaced || s.exceedsTolerance (s.ply p).unit.headSlot ((s.ply p).head.errorOf sel))
      ∧ (((s.ply p).firedHead sel).allFired = true → k.print = .printed)
      ∧ (((s.ply p).firedHead sel).allFired = false →
        s.exceedsTolerance (s.ply p).unit.headSlot ((s.ply p).head.errorOf sel) = false → k.print = r.print) := by
  obtain ⟨x, hx, hxr⟩ := Option.bind_eq_some_iff.mp hr
  generalize hexceeds : s.exceedsTolerance (s.ply p).unit.headSlot ((s.ply p).head.errorOf sel) = exceeds
  generalize hlast : ((s.ply p).firedHead sel).allFired = last
  have hfired : (s.firedState p sel).subAt (s.ply p).unit.headSlot p
      = some (r.fire ((s.ply p).head.errorOf sel) exceeds last) := by
    rw [State.subAt, State.slotAt_firedState hx, Option.bind_some, Slot.subs_modSub, if_pos rfl, hxr, Option.map_some,
      hexceeds, hlast]
  rw [State.fireImpression_eq, hexceeds]
  cases exceeds with
  | false => exact ⟨_, hfired, rfl, rfl, rfl, fun h => if_pos h, fun h _ => if_neg (by simp [h])⟩
  | true =>
    obtain ⟨k, hk, h1, h2, h3, -, h5⟩ := State.sameForm_takeSpoil hfired ⟨.misplace, p⟩
    refine ⟨k, hk, h1, h2, h3, fun h => ?_, fun _ h => by cases h⟩
    have hprint : (r.fire ((s.ply p).head.errorOf sel) true last).print = .printed := if_pos h
    rw [h5 (by rw [hprint]; decide), hprint]

/-- R91: an error within the tolerance leaves the disposition; one above it spoils the slot, or is the second reason
of a slot that is spoiled. -/
theorem State.disp_fireImpression {s : State} {p : Ply} {sel : Select} {x : Slot} {b : Binding}
    {m : Option SpoilMark} (hx : s.slotAt (s.ply p).unit.headSlot = some x) (hd : x.disp = .bound b m) :
    (s.exceedsTolerance (s.ply p).unit.headSlot ((s.ply p).head.errorOf sel) = false →
      ((s.fireImpression p sel).slotAt (s.ply p).unit.headSlot).map (·.disp) = some x.disp)
    ∧ (s.exceedsTolerance (s.ply p).unit.headSlot ((s.ply p).head.errorOf sel) = true →
      (m = none → ((s.fireImpression p sel).slotAt (s.ply p).unit.headSlot).map (·.disp)
        = some (s.spoiled b ⟨.misplace, p⟩))
      ∧ (m ≠ none → ((s.fireImpression p sel).slotAt (s.ply p).unit.headSlot).map (·.disp) = some x.disp
        ∧ ∀ r, x.subs.get p = some r →
          ((s.fireImpression p sel).subAt (s.ply p).unit.headSlot p).map (·.second) = some (some .misplace))) := by
  have hfired := State.slotAt_firedState hx sel
  have hspoiled : (s.firedState p sel).spoiled b ⟨.misplace, p⟩ = s.spoiled b ⟨.misplace, p⟩ := by
    have hpolicy : (s.firedState p sel).policy = s.policy := State.modSub_policy ..
    rw [State.spoiled, State.spoiled, hpolicy]
  rw [State.fireImpression_eq]
  refine ⟨fun hno => ?_, fun hyes => ?_⟩
  · rw [hno, if_neg (by decide), hfired]
    rfl
  · rw [hyes, if_pos rfl]
    refine ⟨fun hm => ?_, fun hm => ?_⟩
    · subst hm
      obtain ⟨y, hy, hyd, -⟩ := State.takeSpoil_decides hfired hd ⟨.misplace, p⟩
      rw [hy, Option.map_some, hyd, hspoiled]
    · obtain ⟨mark, rfl⟩ := Option.ne_none_iff_exists'.mp hm
      rw [State.takeSpoil_of_pending hfired hd]
      have hsecond := State.slotAt_modSlot_self hfired fun y => y.modSub p fun k =>
        { k with second := some Reason.misplace }
      have hslot : ((s.firedState p sel).secondReason (s.ply p).unit.headSlot ⟨.misplace, p⟩).slotAt
          (s.ply p).unit.headSlot = _ := hsecond
      refine ⟨by rw [hslot]; rfl, fun r hr => ?_⟩
      rw [State.subAt, hslot, Option.bind_some, Slot.subs_modSub, if_pos rfl, Slot.subs_modSub, if_pos rfl, hr]
      rfl

/-- R86: the head after a firing: a loaded image for the slot goes with the last impression. -/
theorem State.load_fireImpression {s : State} {p : Ply} {sel : Select} (hready : s.readyToFire p = true) :
    (((s.ply p).firedHead sel).allFired = true → ((s.fireImpression p sel).ply p).head.load = .empty)
    ∧ (((s.ply p).firedHead sel).allFired = false →
      s.exceedsTolerance (s.ply p).unit.headSlot ((s.ply p).head.errorOf sel) = false →
      ((s.fireImpression p sel).ply p).head.load = (s.ply p).head.load) := by
  obtain ⟨img, hload, hslot⟩ : ∃ img, (s.ply p).head.load = .loaded img ∧ img.slot = (s.ply p).unit.headSlot := by
    unfold State.readyToFire at hready
    split at hready
    · rw [Bool.and_eq_true, decide_eq_true_eq] at hready
      exact ⟨_, ‹_›, hready.1⟩
    · cases hready
    · cases hready
  refine ⟨fun hlast => ?_, fun hlast hno => ?_⟩
  · have hempty : ((s.ply p).headAfterFiring sel).load = .empty := by
      have hfired : ((s.ply p).firedHead sel).load = .loaded img := hload
      rw [PlyState.headAfterFiring, if_pos hlast, HeadController.giveUp, hfired]
      exact congrArg HeadController.load (if_pos hslot)
    obtain ⟨q, l, hply, -, hl⟩ := s.ply_fireImpression p sel
    rw [hply]
    obtain hl | ⟨-, hl⟩ := hl
    · exact hl.trans hempty
    · exact hl
  · rw [State.fireImpression_eq, hno, if_neg (by decide), (s.firedState_head p sel).1]
    dsimp only
    rw [PlyState.headAfterFiring, hlast]
    rfl

end Sys2Proof.Machine


namespace Sys2Proof.Machine

/-- R58, R84: the count that brings one impression due. -/
theorem exec_forwardCount_due {e : Edge} {p : Ply} {sel : Select} {s : State} (hcount : s.countingPlies e = [p])
    (howed : (s.ply p).unit.owed = 0) (hguard : (s.ply p).head.guardCount ≠ 1)
    (hform : (s.ply p).unit.position + 1 < s.cutoff)
    (hsels : (s.ply p).head.waitingIn ((s.ply p).unit.position + 1) ((s.ply p).unit.position + 1) = [sel])
    (hwait : (s.ply p).head.impState sel = some .waiting) : exec (.forwardCount e) s =
      .next ((s.modPly p fun ps => ps.advanced ((s.ply p).unit.position + 1)).impressionDue p sel) := by
  have hply : (s.modPly p fun ps => ps.advanced ((s.ply p).unit.position + 1)).ply p
      = (s.ply p).advanced ((s.ply p).unit.position + 1) := by rw [State.ply_modPly, if_pos rfl]
  have hwaiting : ((s.ply p).advanced ((s.ply p).unit.position + 1)).head.waitingIn ((s.ply p).unit.position + 1)
      ((s.ply p).unit.position + 1) = [sel] :=
    (HeadController.waitingIn_map (f := Impression.advanced) rfl (fun i => i.advanced_select) _ _).trans hsels
  have hstate : ((s.ply p).advanced ((s.ply p).unit.position + 1)).head.impState sel = some .waiting :=
    Eq.trans (HeadController.impState_map (h := { (s.ply p).head with guardCount := (s.ply p).head.guardCount - 1 })
      (f := Impression.advanced) (fun i => ⟨i.advanced_select.1, i.advanced_select.2.2⟩) sel) hwait
  rw [exec_forwardCount_single hcount, State.forwardCount, if_neg (by omega), State.forwardAdvance_eq,
    if_neg (Nat.not_le.mpr hform), State.advancedTo_eq, if_neg hguard, State.reachPhase, hply, hwaiting,
    State.fallDueAll, List.foldl_cons, List.foldl_nil, State.fallDue, hply, if_pos hstate]

theorem HeadController.giveUp_load (h : HeadController) (j : Nat) : ∀ img, (h.giveUp j).load = .loaded img → img.slot ≠ j := by
  intro img hl hj
  cases hload : h.load with
  | empty => simp [HeadController.giveUp, hload] at hl
  | loading other => simp [HeadController.giveUp, hload] at hl
  | loaded other =>
    by_cases ho : other.slot = j
    · simp [HeadController.giveUp, hload, ho] at hl
    · simp only [HeadController.giveUp, hload, ho, if_false] at hl
      cases hl
      exact ho hj

theorem HeadController.giveUp_deferred (h : HeadController) (j : Nat) : (h.giveUp j).deferred = h.deferred := by
  unfold HeadController.giveUp
  split
  · split <;> rfl
  · rfl
  · rfl

/-- R85 test 4: what is kept of the loaded image and of the entries of the form closed. -/
theorem HeadController.closeUnready_kept (h : HeadController) (j : Nat) :
    (∀ img, (h.closeUnready j).load = .loaded img → j < img.slot)
    ∧ ∀ img, Entry.image img false ∈ (h.closeUnready j).queue → img.slot ≠ j := by
  refine ⟨fun img hl => ?_, fun img hq hj => ?_⟩
  · unfold HeadController.closeUnready at hl
    cases hload : h.load with
    | empty => simp [hload] at hl
    | loading other => simp [hload] at hl
    | loaded other =>
      by_cases ho : j < other.slot
      · simp only [hload, ho, if_true] at hl
        cases hl
        exact ho
      · simp [hload, ho] at hl
  · obtain ⟨x, -, hx⟩ := List.mem_map.mp hq
    cases x with
    | blank k => cases hx
    | image other taken =>
      by_cases ho : other.slot = j
      · simp [ho] at hx
      · simp only [ho, if_false] at hx
        cases hx
        exact ho hj

/-- A head that has only lost images holds none that it had not. -/
theorem HeadController.Lessened.loaded {h k : HeadController} (hk : h.Lessened k) {img : Image}
    (hl : k.load = .loaded img) : h.load = .loaded img := by
  obtain ⟨-, heq | ⟨-, hempty⟩⟩ := hk
  · rw [← heq, hl]
  · rw [hempty] at hl; cases hl

/-- Settles O6: each test of R85 in turn, and the firing. -/
theorem impressionFiresAtItsPhase : Obligations.ImpressionFiresAtItsPhase := by
  unfold Obligations.ImpressionFiresAtItsPhase
  intro e p sel s hcount howed hguard hform hsels hwait ps j givenUp closed ready
  have hexec := exec_forwardCount_due hcount howed hguard hform hsels hwait
  have hframe : ∀ t, exec (.forwardCount e) s = .next t → s.PressFrame t := fun t ht => by
    have hp : s.active p = true := State.active_of_countingPlies (by rw [hcount]; exact List.mem_singleton_self p)
    rw [exec_forwardCount_single hcount] at ht
    injection ht with ht
    rw [← ht]
    exact (PressAct.forwardCount hp).frame
  generalize hw : (s.modPly p fun ps => ps.advanced ((s.ply p).unit.position + 1)) = w at hexec
  have hply : w.ply p = ps.advanced (ps.unit.position + 1) := by rw [← hw, State.ply_modPly, if_pos rfl]
  have hothers : ∀ q, q ≠ p → w.ply q = s.ply q := fun q hq => by rw [← hw, State.ply_modPly, if_neg hq]
  have hslotAt : ∀ i, w.slotAt i = s.slotAt i := fun i => by rw [← hw]; rfl
  have hsubAt : w.subAt j p = s.subAt j p := by rw [← hw]; rfl
  have hspoiled : ∀ b mark, w.spoiled b mark = s.spoiled b mark := fun b mark => by rw [← hw]; rfl
  have hlayouts : w.segmentLayout = s.segmentLayout := by rw [← hw]; rfl
  have hout : w.out = s.out := by rw [← hw]; rfl
  have hmarriage : w.marriageSlot = s.marriageSlot := by rw [← hw]; rfl
  have hhead : (w.ply p).unit.headSlot = j := by rw [hply]; rfl
  have hboundAt : w.boundAt (w.ply p).unit.headSlot = s.boundAt j := by rw [hhead, ← hw]; rfl
  have hin : (w.ply p).head.inhibit = ps.head.inhibit := by rw [hply]; rfl
  have htrusted : (w.ply p).unit.registration.trusted = ps.unit.registration.trusted := by rw [hply]; rfl
  have hready : w.readyToFire p = s.readyToFire p := State.readyToFire_congr (by rw [← hw]; rfl) hmarriage
    (by rw [hply]; rfl) (by rw [hhead])
  have hguardW : (w.ply p).head.guardCount = ps.head.guardCount - 1 := by rw [hply]; rfl
  have hwaitW : ((w.ply p).head.impState sel).isSome = true := by
    rw [hply, show (ps.advanced (ps.unit.position + 1)).head.impState sel = some .waiting from
      Eq.trans (HeadController.impState_map (h := { ps.head with guardCount := ps.head.guardCount - 1 })
        (f := Impression.advanced) (fun i => ⟨i.advanced_select.1, i.advanced_select.2.2⟩) sel) hwait]
    rfl
  have hclosed : ∀ (f : HeadController → HeadController) print reason, (∀ h, (f h).plan = h.plan) →
      (∀ h, (f h).deferred = h.deferred) → print ≠ .pending →
      exec (.forwardCount e) s = .next (w.closeForm p f print reason) →
      closed (w.closeForm p f print reason) print reason := by
    intro f print reason hplan hdeferred hprint hx
    obtain ⟨h1, h2, h3, h4, h5⟩ := State.closeForm_closed (s := w) (p := p) reason hplan hdeferred hprint
    rw [hhead] at h4 h5
    refine ⟨h1.trans hout, h2, h3, fun r hr => h4 r (hsubAt.trans hr), fun slot b hslot hd => ?_, hframe _ hx⟩
    rw [h5 slot b ((hslotAt j).trans hslot) hd, hspoiled]
  have hgiven : ∀ print reason, givenUp (w.closeForm p (·.giveUp j) print reason) := by
    intro print reason img himg
    obtain ⟨q, l, hp, hless⟩ := w.ply_closeForm p (·.giveUp j) print reason
    rw [hp] at himg
    exact HeadController.giveUp_load _ j img (hless.loaded himg)
  refine ⟨fun hunbound => ?unbound, fun hbound => ⟨fun hinhibit => ?inhibit, fun hfree hreg => ?untrusted,
    fun hfree htrust hno => ?unready, fun hall hrunning => ?guard, fun hall hzero => ?fire⟩⟩
  case unbound =>
    rw [State.impressionDue_of_unbound (by rw [hboundAt]; exact hunbound), hhead] at hexec
    refine ⟨_, hexec, by rw [← hw]; rfl, by rw [← hw]; rfl, ?_, ?_, hframe _ hexec⟩
    · rw [State.modHead, State.ply_modPly, if_pos rfl]
      dsimp only
      rw [HeadController.impState, HeadController.giveUp_plan]
      exact HeadController.impState_modImp hwaitW
    · intro img himg
      rw [State.modHead, State.ply_modPly, if_pos rfl] at himg
      exact HeadController.giveUp_load _ j img himg
  case inhibit =>
    rw [State.impressionDue_of_inhibit (by rw [hboundAt]; exact hbound) (hin.trans hinhibit), hhead] at hexec
    exact ⟨_, hexec, hclosed _ _ _ (fun h => h.giveUp_plan _) (fun h => h.giveUp_deferred _) (by decide) hexec, hgiven _ _⟩
  case untrusted =>
    have hno : ps.unit.registration.trusted = false := by
      obtain h | h := hreg <;> rw [h] <;> rfl
    rw [State.impressionDue_of_untrusted (by rw [hboundAt]; exact hbound) (hin.trans hfree) (htrusted.trans hno),
      hhead] at hexec
    exact ⟨_, hexec, hclosed _ _ _ (fun h => h.giveUp_plan _) (fun h => h.giveUp_deferred _) (by decide) hexec, hgiven _ _⟩
  case unready =>
    rw [State.impressionDue_of_unready (by rw [hboundAt]; exact hbound) (hin.trans hfree) (htrusted.trans htrust)
      (hready.trans hno), hhead] at hexec
    obtain ⟨q, l, hp, hless⟩ := w.ply_closeForm p (·.closeUnready j) .missed .miss
    refine ⟨_, hexec, hclosed _ _ _ (fun _ => rfl) (fun _ => rfl) (by decide) hexec, fun img himg => ?_,
      fun img himg => ?_⟩
    · rw [hp] at himg
      exact (HeadController.closeUnready_kept _ j).1 img (hless.loaded himg)
    · rw [hp] at himg
      exact (HeadController.closeUnready_kept _ j).2 img (hless.1 _ himg)
  case guard =>
    obtain ⟨hfree, htrust, hyes⟩ := hall
    rw [hexec, State.impressionDue_of_guard (by rw [hboundAt]; exact hbound) (hin.trans hfree)
      (htrusted.trans htrust) (hready.trans hyes) 
      (by rw [hguardW]; exact Nat.sub_pos_of_lt (Nat.lt_of_le_of_ne hrunning (Ne.symm hguard))), ← hw, State.modHead, State.modPly_modPly]
    refine congrArg Host.Outcome.next (State.modPly_congr ?_)
    simp only [PlyState.advanced, HeadController.advance, HeadController.modImp, List.map_map]
    rfl
  case fire =>
    obtain ⟨hfree, htrust, hyes⟩ := hall
    rw [State.impressionDue_of_free (by rw [hboundAt]; exact hbound) (hin.trans hfree)
      (htrusted.trans htrust) (hready.trans hyes) (by rw [hguardW, hzero])] at hexec
    obtain ⟨hfires, hset⟩ := w.fireImpression_fires p sel
    have hwork := State.HeadWork.fireImpression w p sel
    refine ⟨_, hexec, hfires.trans (by rw [hout]), hset.trans (by rw [hply]; rfl), by rw [hwork.unit, hply]; rfl,
      fun r hr => ?_, fun q hq => by rw [hwork.unit, hothers q hq],
      fun i hi => (hwork.below i (by rw [hhead]; exact hi)).trans (hslotAt i), hwork.marriageSlot.trans hmarriage,
      hframe _ hexec, fun slot b m r i hslot hd hr hfind => ?_⟩
    · obtain ⟨k, hk, hkfired, -⟩ := State.subAt_fireImpression (s := w) (sel := sel)
        (by rw [hhead, hsubAt]; exact hr)
      rw [hhead] at hk
      rw [hk, Option.map_some, hkfired]
    · have hiwait : i.state = .waiting := by
        have hfound : (s.ply p).head.impState sel = some i.state := by
          rw [HeadController.impState, hfind, Option.map_some]
        exact Option.some.inj (hfound.symm.trans hwait)
      have hfindW : (w.ply p).head.plan.find? (fun i => decide (i.select = sel)) = some i := by
        have hkept : i.advanced = i := if_neg (by simp [hiwait])
        rw [hply, HeadController.find?_map (h := ps.head) (f := Impression.advanced) rfl
          (fun i => i.advanced_select.1), hfind, Option.map_some, hkept]
      have herror := HeadController.errorOf_of_find hfindW
      have hlast : ((w.ply p).firedHead sel).allFired = true ↔ ∀ k ∈ ps.head.plan, k.select = sel ∨ k.state = .fired := by
        have hplan : (w.ply p).head.plan = ps.head.plan.map Impression.advanced := by rw [hply]; rfl
        rw [PlyState.allFired_iff, hplan, List.forall_mem_map]
        simp only [fun k : Impression => k.advanced_select.1, fun k : Impression => k.advanced_select.2.2]
      have hbinding : slot.binding = some b := by rw [Slot.binding, hd]
      have hexceeds : w.exceedsTolerance j i.error = true
          ↔ ∃ lay, s.segmentLayout b.segment = some lay ∧ lay.tolerance < i.error := by
        rw [State.exceedsTolerance_iff ((hslotAt j).trans hslot) hbinding, hlayouts]
      have hsub : s.subAt j p = some r := by rw [State.subAt, hslot, Option.bind_some, hr]
      obtain ⟨k, hk, -, hkerror, hkmis, hklast, hkprint⟩ := State.subAt_fireImpression (s := w) (sel := sel)
        (by rw [hhead, hsubAt]; exact hsub)
      obtain ⟨hdno, hdyes⟩ := State.disp_fireImpression (sel := sel) (by rw [hhead, hslotAt]; exact hslot) hd
      obtain ⟨hempty, hload⟩ := State.load_fireImpression (s := w) (sel := sel) (hready.trans hyes)
      rw [herror] at hkerror hkmis hkprint hdno hdyes hload
      rw [hhead] at hk hkmis hkprint hdno hdyes hload
      obtain ⟨q, l, hpfire, -⟩ := w.ply_fireImpression p sel
      intro last exceeds
      refine ⟨?_, by rw [hk, Option.map_some, hkerror, recordError_getD], fun hl => ?_, fun hx => ?_, fun hx => ?_⟩
      · rw [hpfire]
        dsimp only
        rw [HeadController.impState, PlyState.headAfterFiring_plan]
        exact HeadController.impState_modImp hwaitW
      · rw [hk, Option.map_some, hklast (hlast.mpr hl)]
        exact ⟨rfl, hempty (hlast.mpr hl)⟩
      · have hover := hexceeds.mpr hx
        obtain ⟨hnone, hsome⟩ := hdyes hover
        rw [hover, Bool.or_true] at hkmis
        refine ⟨by rw [hk, Option.map_some, hkmis], fun hm => by rw [hnone hm, hspoiled], fun hm => ?_⟩
        obtain ⟨hkept, hsecond⟩ := hsome hm
        exact ⟨hkept, hsecond r hr⟩
      · have hover : w.exceedsTolerance j i.error = false := by
          rw [← Bool.not_eq_true, hexceeds]; exact hx
        rw [hover, Bool.or_false] at hkmis
        refine ⟨by rw [hk, Option.map_some, hkmis], hdno hover, fun hl => ?_⟩
        have hnotlast : ((w.ply p).firedHead sel).allFired = false := by
          rw [← Bool.not_eq_true, hlast]; exact hl
        refine ⟨by rw [hk, Option.map_some, hkprint hnotlast hover], ?_⟩
        rw [hload hnotlast hover, hply]
        rfl

end Sys2Proof.Machine


/-! ## START-RUN (section 8.4) -/

namespace Sys2Proof.Machine

/-! ### Its payload (R149) -/

@[simp] theorem policyOf_code (x : Policy) : policyOf (policyCode (some x)) = some x := by cases x <;> rfl

@[simp] theorem faultActionOf_code (x : FaultAction) : faultActionOf x.code = some x := by cases x <;> rfl

@[simp] theorem endMakeupsOf_code (x : EndMakeups) : endMakeupsOf (endMakeupsCode (some x)) = some x := by
  cases x <;> rfl

theorem policyCode_le (x : Policy) : policyCode (some x) ≤ 2 := by cases x <;> decide

theorem FaultAction.code_le (x : FaultAction) : x.code ≤ 1 := by cases x <;> decide

theorem endMakeupsCode_le (x : EndMakeups) : endMakeupsCode (some x) ≤ 2 := by cases x <;> decide

theorem policyOf_field {n : Nat} {x : Policy} (h : policyOf n = some x) : n = 1 ∨ n = 2 := by
  unfold policyOf at h
  split at h <;> simp_all

theorem faultActionOf_le {n : Nat} {x : FaultAction} (h : faultActionOf n = some x) : n ≤ 1 := by
  unfold faultActionOf at h
  split at h <;> simp_all

theorem endMakeupsOf_field {n : Nat} {x : EndMakeups} (h : endMakeupsOf n = some x) : n = 1 ∨ n = 2 := by
  unfold endMakeupsOf at h
  split at h <;> simp_all

/-- The wire carries every START-RUN in range. -/
theorem decodeStartRun_bytes {q : StartRequest} (h : q.InRange) : decodeStartRun q.bytes = some q := by
  obtain ⟨hsegment, ⟨hlow, hhigh⟩, hstart⟩ := h
  have hpolicy := policyCode_le q.policy
  have hfault := q.faultAction.code_le
  have hend := endMakeupsCode_le q.endMakeups
  have hpresent := q.start.isSome.toNat_le
  have hvalue : q.start.getD 0 ≤ 1048575 := by cases hs : q.start <;> simp_all
  simp (disch := omega) [decodeStartRun, StartRequest.bytes, optional, yesNo_eq_be, field_be_append,
    field_be_append_of_le, field_be, inRange_of_mem, optionalOf_isSome hstart]

/-- A payload with a field that R149 does not take is not read. -/
theorem decodeStartRun_eq_none {pl : List Byte} (hlen : pl.length = 10)
    (hbad : let b := fun i => (pl.getD i 0).toNat
      31 < b 0 ∨ field pl 1 2 < 256 ∨ (b 3 ≠ 1 ∧ b 3 ≠ 2) ∨ 1 < b 4 ∨ 1 < b 5
        ∨ (b 5 = 1 ∧ 1048575 < field pl 6 3) ∨ (b 9 ≠ 1 ∧ b 9 ≠ 2)) : decodeStartRun pl = none := by
  rw [Option.eq_none_iff_forall_ne_some]
  intro q hq
  simp only [decodeStartRun, Option.bind_eq_bind, Option.bind_eq_some_iff, inRange_eq_some_iff] at hq
  obtain ⟨_, ⟨hsegment, -⟩, _, ⟨hcutoff, -⟩, _, hpolicy, _, hfault, _, hstart, _, hend, -⟩ := hq
  have hp := policyOf_field hpolicy
  have hf := faultActionOf_le hfault
  have hs := optionalOf_fields hstart
  have he := endMakeupsOf_field hend
  simp (disch := omega) only [field_one] at hsegment hp hf hs he
  simp only at hbad
  omega

/-! ### The segments reached (R149 check 2) -/

section Chain

variable {s : State} {first : Nat}

theorem State.lt_of_segment {i : Nat} (h : s.segment i ≠ none) : i < 32 := by
  by_contra hge
  exact h (by simp [State.segment, hge])

/-- A list of segments that holds all it leads to holds all that is reached from it. -/
theorem State.mem_of_reaches {segs : List Nat} (hfirst : first ∈ segs)
    (hclosed : ∀ i ∈ segs, ∀ j, (s.segment i).bind (·.next) = some j → j ∈ segs) {k : Nat}
    (h : s.Reaches first k) : k ∈ segs := by
  induction h with
  | refl => exact hfirst
  | tail _ hnext ih => exact hclosed _ ih _ hnext

/-- What the segments seen so far, and the one come to, are in the chain from the first. -/
structure State.ChainSeen (s : State) (first : Nat) (seen : List Nat) (i : Nat) : Prop where
  nodup : seen.Nodup
  defined : ∀ k ∈ seen, s.segment k ≠ none
  reached : ∀ k ∈ seen, s.Reaches first k
  here : s.Reaches first i
  start : first ∈ seen ∨ first = i
  closed : ∀ k ∈ seen, ∀ j, (s.segment k).bind (·.next) = some j → j ∈ seen ∨ j = i

theorem State.ChainSeen.length_le {seen : List Nat} {i : Nat} (h : s.ChainSeen first seen i) : seen.length ≤ 32 := by
  have hsub : seen ⊆ List.range 32 := fun k hk => List.mem_range.mpr (State.lt_of_segment (h.defined k hk))
  have hle := (List.subperm_of_subset h.nodup hsub).length_le
  rwa [List.length_range] at hle

theorem State.ChainSeen.step {seen : List Nat} {i k : Nat} (h : s.ChainSeen first seen i) (hi : i ∉ seen)
    (hdef : s.segment i ≠ none) (hnext : (s.segment i).bind (·.next) = some k) : s.ChainSeen first (seen ++ [i]) k where
  nodup := List.nodup_append.mpr ⟨h.nodup, List.nodup_singleton i, by
    intro a ha b hb hab
    rw [List.mem_singleton] at hb
    exact hi (hb ▸ hab ▸ ha)⟩
  defined j hj := by
    obtain hj | hj := List.mem_append.mp hj
    · exact h.defined j hj
    · rw [List.mem_singleton.mp hj]; exact hdef
  reached j hj := by
    obtain hj | hj := List.mem_append.mp hj
    · exact h.reached j hj
    · rw [List.mem_singleton.mp hj]; exact h.here
  here := h.here.tail hnext
  start := .inl (by
    obtain hf | hf := h.start
    · exact List.mem_append_left _ hf
    · rw [hf]; exact List.mem_append_right _ (List.mem_singleton_self i))
  closed j hj l hl := by
    obtain hj | hj := List.mem_append.mp hj
    · obtain hm | hm := h.closed j hj l hl
      · exact .inl (List.mem_append_left _ hm)
      · rw [hm]; exact .inl (List.mem_append_right _ (List.mem_singleton_self i))
    · rw [List.mem_singleton.mp hj, hnext] at hl
      exact .inr (Option.some.inj hl).symm

/-- R149: how the walk along the chain ends. -/
theorem State.reached_spec (fuel : Nat) {seen : List Nat} {i : Nat} (h : s.ChainSeen first seen i)
    (hfuel : 33 ≤ seen.length + fuel) :
    (∃ segs, s.reached fuel seen i = (segs, none) ∧ (∀ k, k ∈ segs ↔ s.Reaches first k)
      ∧ ∀ k ∈ segs, s.segment k ≠ none)
    ∨ ∃ segs e, s.reached fuel seen i = (segs, some e) ∧ s.Reaches first e ∧ s.segment e = none := by
  induction fuel generalizing seen i with
  | zero => exact absurd h.length_le (by omega)
  | succ fuel ih =>
    unfold State.reached
    split
    · have hi : i ∈ seen := by simpa using ‹seen.contains i = true›
      have hfirst : first ∈ seen := h.start.elim id fun hf => hf ▸ hi
      refine .inl ⟨seen, rfl, fun k => ⟨h.reached k, State.mem_of_reaches hfirst fun k hk j hj => ?_⟩, h.defined⟩
      exact (h.closed k hk j hj).elim id fun hj => hj ▸ hi
    · have hi : i ∉ seen := by simpa using ‹¬ seen.contains i = true›
      split
      · exact .inr ⟨seen, i, rfl, h.here, ‹_›⟩
      · rename_i g hg
        have hdef : s.segment i ≠ none := by rw [hg]; exact Option.some_ne_none g
        split
        · have hend : (s.segment i).bind (·.next) = none := by rw [hg]; exact ‹g.next = none›
          have hmem : ∀ k, k ∈ seen ++ [i] ↔ k ∈ seen ∨ k = i := fun k => by simp
          refine .inl ⟨seen ++ [i], rfl, fun k => ⟨fun hk => ?_, State.mem_of_reaches ?_ fun k hk j hj => ?_⟩,
            fun k hk => ?_⟩
          · exact ((hmem k).mp hk).elim (h.reached k) fun hk => hk ▸ h.here
          · exact (hmem first).mpr h.start
          · obtain hk | rfl := (hmem k).mp hk
            · exact (hmem j).mpr (h.closed k hk j hj)
            · rw [hend] at hj; cases hj
          · exact ((hmem k).mp hk).elim (h.defined k) fun hk => hk ▸ hdef
        · rename_i k hk
          exact ih (h.step hi hdef (by rw [hg]; exact hk)) (by rw [List.length_append, List.length_singleton]; omega)

theorem State.chainSeen_start (s : State) (first : Nat) : s.ChainSeen first [] first :=
  ⟨List.nodup_nil, by simp, by simp, .refl, .inr rfl, by simp⟩

/-- Where every segment reached is DEFINED, the walk finds them all. -/
theorem State.reached_of_defined (h : ∀ i, s.Reaches first i → s.segment i ≠ none) :
    ∃ segs, s.reached 33 [] first = (segs, none) ∧ ∀ k, k ∈ segs ↔ s.Reaches first k := by
  obtain ⟨segs, he, hmem, -⟩ | ⟨-, e, -, he, hnone⟩ := State.reached_spec 33 (s.chainSeen_start first) (by simp)
  · exact ⟨segs, he, hmem⟩
  · exact absurd hnone (h e he)

/-- The chain from a segment ends in one EMPTY segment at most, which the walk finds. -/
theorem State.reached_of_empty {i : Nat} (hi : s.Reaches first i) (hnone : s.segment i = none) :
    ∃ segs, s.reached 33 [] first = (segs, some i) := by
  obtain ⟨segs, -, hmem, hdef⟩ | ⟨segs, e, he, hreach, hempty⟩ :=
    State.reached_spec 33 (s.chainSeen_start first) (by simp)
  · exact absurd hnone (hdef i ((hmem i).mpr hi))
  · have hends : ∀ {a b}, s.segment a = none → s.Reaches a b → a = b := fun ha hab => by
      obtain rfl | ⟨c, hc, -⟩ := hab.cases_head
      · rfl
      · rw [ha] at hc; cases hc
    have hunique : Relator.RightUnique fun i j => (s.segment i).bind (·.next) = some j :=
      fun _ _ _ h k => Option.some.inj (h.symm.trans k)
    obtain h | h := Relation.ReflTransGen.total_of_right_unique hunique hreach hi
    · exact ⟨segs, by rw [he, hends hempty h]⟩
    · exact ⟨segs, by rw [he, hends hnone h]⟩

end Chain

end Sys2Proof.Machine


namespace Sys2Proof.Machine

/-! ### The checks of section 3.1 -/

theorem Layout.phasesFit_eq_false_iff (lay : Layout) (c : Nat) : lay.phasesFit c = false ↔
    c ≤ lay.phaseA ∨ ∃ b, lay.phaseB = some b ∧ c ≤ b := by
  unfold Layout.phasesFit
  rw [Bool.and_eq_false_iff]
  cases hb : lay.phaseB <;> simp

theorem Layout.splitsFit_eq_false_iff (lay : Layout) (p : Ply) (r : PlyRecord) (c : Nat) : lay.splitsFit p r c = false ↔
    r.headClass = .narrow ∧ ((lay.maskA.get p = true ∧ 8 < lay.lengthA ∧ c ≤ lay.phaseA + r.splitPitch)
      ∨ (lay.maskB.get p = true ∧ 8 < lay.width ∧ ∃ b, lay.phaseB = some b ∧ c ≤ b + r.splitPitch)) := by
  have hA : splitOn r.headClass lay.lengthA = true ↔ _ := splitOn_iff r.headClass lay.lengthA
  have hB : splitOn r.headClass lay.width = true ↔ _ := splitOn_iff r.headClass lay.width
  unfold Layout.splitsFit
  rw [Bool.and_eq_false_iff]
  cases hb : lay.phaseB <;> simp [hA, hB] <;> tauto

section Checks

variable {s : State} {c first : Nat} {p : Ply} {segs : List Nat}
  (hsegs : ∀ k, k ∈ segs ↔ s.Reaches first k)
include hsegs

/-- The layouts of the segments reached. -/
theorem State.mem_layoutsOf (lay : Layout) : lay ∈ s.layoutsOf segs ↔ s.ReachesLayout first lay := by
  simp only [State.layoutsOf, List.mem_filterMap, hsegs, State.ReachesLayout, State.segmentLayout,
    Option.bind_eq_some_iff, exists_and_left]

/-- R55: each check as `FailsCheck` says it. -/
theorem State.failsCheck_iff :
    (s.FailsCheck c first p 1 ↔ (s.ply p).record.readerFits = false)
    ∧ (s.FailsCheck c first p 2 ↔ (s.ply p).record.spliceFits = false)
    ∧ (s.FailsCheck c first p 3 ↔ (s.ply p).record.markFits c = false)
    ∧ (s.FailsCheck c first p 4 ↔ (s.ply p).record.pitchFits c = false)
    ∧ (s.FailsCheck c first p 5 ↔ (s.layoutsOf segs).all (fun lay => lay.phasesFit c) = false)
    ∧ (s.FailsCheck c first p 6 ↔ (s.layoutsOf segs).all (fun lay => lay.splitsFit p (s.ply p).record c) = false) := by
  refine ⟨?_, ?_, ?_, ?_, ?_, ?_⟩
  · simp [State.FailsCheck, PlyRecord.readerFits]
  · cases hk : (s.ply p).record.splice <;> simp [State.FailsCheck, PlyRecord.spliceFits, hk]
  · rw [PlyRecord.markFits, Bool.and_eq_false_iff, decide_eq_false_iff_not, decide_eq_false_iff_not, Nat.not_le,
      Nat.not_le]
    exact or_congr Iff.rfl Nat.lt_succ_iff.symm
  · simp [State.FailsCheck, PlyRecord.pitchFits]
  · simp only [State.FailsCheck, List.all_eq_false, State.mem_layoutsOf hsegs, Bool.not_eq_true,
      Layout.phasesFit_eq_false_iff]
  · simp only [State.FailsCheck, List.all_eq_false, State.mem_layoutsOf hsegs, Bool.not_eq_true,
      Layout.splitsFit_eq_false_iff]
    exact ⟨fun ⟨hn, lay, hl, h⟩ => ⟨lay, hl, hn, h⟩, fun ⟨lay, hl, hn, h⟩ => ⟨hn, lay, hl, h⟩⟩

/-- R55, R149: the lowest check failed is named. -/
theorem State.failedCheck_of_fails {n : Nat} (h : s.FailsCheck c first p n) (hlow : ∀ m, m < n → ¬ s.FailsCheck c first p m) :
    (s.ply p).record.failedCheck p c (s.layoutsOf segs) = some n := by
  obtain ⟨h1, h2, h3, h4, h5, h6⟩ := State.failsCheck_iff (s := s) (c := c) (p := p) hsegs
  have hpass : ∀ {m : Nat} {b : Bool}, (s.FailsCheck c first p m ↔ b = false) → m < n → b = true := fun hm hlt => by
    rw [← Bool.not_eq_false]
    exact fun hb => hlow _ hlt (hm.mpr hb)
  unfold PlyRecord.failedCheck
  match n, h with
  | 1, h => rw [h1.mp h]; rfl
  | 2, h => rw [hpass h1 (by decide), h2.mp h]; rfl
  | 3, h => rw [hpass h1 (by decide), hpass h2 (by decide), h3.mp h]; rfl
  | 4, h => rw [hpass h1 (by decide), hpass h2 (by decide), hpass h3 (by decide), h4.mp h]; rfl
  | 5, h =>
    rw [hpass h1 (by decide), hpass h2 (by decide), hpass h3 (by decide), hpass h4 (by decide), h5.mp h]; rfl
  | 6, h =>
    rw [hpass h1 (by decide), hpass h2 (by decide), hpass h3 (by decide), hpass h4 (by decide), hpass h5 (by decide),
      h6.mp h]; rfl
  | 0, h => exact h.elim
  | _ + 7, h => exact h.elim

theorem State.failedCheck_of_passes (h : ∀ n, ¬ s.FailsCheck c first p n) :
    (s.ply p).record.failedCheck p c (s.layoutsOf segs) = none := by
  obtain ⟨h1, h2, h3, h4, h5, h6⟩ := State.failsCheck_iff (s := s) (c := c) (p := p) hsegs
  have hpass : ∀ {m : Nat} {b : Bool}, (s.FailsCheck c first p m ↔ b = false) → b = true := fun hm => by
    rw [← Bool.not_eq_false]
    exact fun hb => h _ (hm.mpr hb)
  unfold PlyRecord.failedCheck
  rw [hpass h1, hpass h2, hpass h3, hpass h4, hpass h5, hpass h6]
  rfl

/-- R149 check 5: the first ply that fails is named. -/
theorem State.badPly_of_fails {n : Nat} (hp : s.active p = true) (h : s.FailsCheck c first p n)
    (hlow : ∀ m, m < n → ¬ s.FailsCheck c first p m)
    (hbefore : ∀ q m, s.active q = true → plyNumber q < plyNumber p → ¬ s.FailsCheck c first q m) :
    s.badPly c segs = some (p, n) := by
  obtain ⟨l, r, horder, hnumber⟩ := plyOrder_split p
  have hnone : (l.filter s.active).findSome? (fun q =>
      ((s.ply q).record.failedCheck q c (s.layoutsOf segs)).map fun n => (q, n)) = none := by
    rw [List.findSome?_eq_none_iff]
    intro q hq
    obtain ⟨hmem, hactive⟩ := List.mem_filter.mp hq
    rw [State.failedCheck_of_passes hsegs fun m => hbefore q m hactive (hnumber q hmem), Option.map_none]
  rw [State.badPly, State.activePlies, horder, List.filter_append, List.filter_cons_of_pos hp, List.findSome?_append,
    hnone, Option.none_or, List.findSome?_cons, State.failedCheck_of_fails hsegs h hlow]
  rfl

theorem State.badPly_of_passes (h : ∀ q m, s.active q = true → ¬ s.FailsCheck c first q m) : s.badPly c segs = none := by
  rw [State.badPly, List.findSome?_eq_none_iff]
  intro q hq
  rw [State.failedCheck_of_passes hsegs fun m => h q m (List.mem_filter.mp hq).2, Option.map_none]

/-! ### The layouts and the blocks of the segments reached (R149 checks 3 and 4) -/

theorem State.emptyLayout_of_some (h : ∃ i g, s.Reaches first i ∧ s.segment i = some g ∧ s.layout g.layout = none) :
    ∃ i g, s.Reaches first i ∧ s.segment i = some g ∧ s.layout g.layout = none ∧ s.emptyLayout segs = some g.layout := by
  cases hfind : s.emptyLayout segs with
  | none =>
    obtain ⟨i, g, hi, hg, hlay⟩ := h
    have hno := List.findSome?_eq_none_iff.mp hfind i ((hsegs i).mpr hi)
    simp [hg, hlay] at hno
  | some n =>
    obtain ⟨i, hi, hsome⟩ := List.exists_of_findSome?_eq_some hfind
    obtain ⟨g, hg, hn⟩ := Option.bind_eq_some_iff.mp hsome
    by_cases hlay : s.layout g.layout = none
    · simp only [hlay, Option.isNone_none, if_true, Option.some.injEq] at hn
      exact ⟨i, g, (hsegs i).mp hi, hg, hlay, by rw [hn]⟩
    · simp [hlay] at hn

theorem State.emptyLayout_of_none (h : ∀ i, ¬ ∃ g, s.Reaches first i ∧ s.segment i = some g ∧ s.layout g.layout = none) :
    s.emptyLayout segs = none := by
  rw [State.emptyLayout, List.findSome?_eq_none_iff]
  intro i hi
  cases hg : s.segment i with
  | none => rfl
  | some g =>
    have hlay : s.layout g.layout ≠ none := fun hlay => h i ⟨g, (hsegs i).mp hi, hg, hlay⟩
    simp [hlay]

/-- A segment with an explicit start whose block is ABSENT. -/
def State.NoBlock (s : State) (i : Nat) : Prop :=
  ∃ g v, s.segment i = some g ∧ g.start = some v ∧ s.block (v / 16384) = none

omit hsegs in
theorem State.badStart_eq_none_iff : s.badStart segs = none ↔ ∀ i ∈ segs, ¬ s.NoBlock i := by
  have hsize : Config.blockSize = 16384 := rfl
  rw [State.badStart, List.find?_eq_none]
  refine forall₂_congr fun i _ => not_congr ?_
  unfold State.NoBlock
  cases hg : s.segment i with
  | none => simp
  | some g => cases hv : g.start <;> simp [hv, hsize]

omit hsegs in
theorem State.noBlock_of_badStart {i : Nat} (h : s.badStart segs = some i) : i ∈ segs ∧ s.NoBlock i := by
  have hsize : Config.blockSize = 16384 := rfl
  have hmem := List.mem_of_find?_eq_some h
  have htest := List.find?_some h
  refine ⟨hmem, ?_⟩
  unfold State.NoBlock
  cases hg : s.segment i with
  | none => simp [hg] at htest
  | some g =>
    cases hv : g.start with
    | none => simp [hg, hv] at htest
    | some v => exact ⟨g, v, rfl, hv, by simpa [hg, hv, hsize] using htest⟩

end Checks

end Sys2Proof.Machine


namespace Sys2Proof.Machine

/-! ### The decision (R149) -/

section Decision

variable {s : State} {q : StartRequest}

theorem State.startDecision_of_inactive (h : ∀ p, s.active p = false) : s.startDecision q = .config 1 0 := by
  have hnone : s.activePlies = [] := List.filter_eq_nil_iff.mpr fun p _ => by simp [h p]
  rw [State.startDecision, hnone]
  rfl

section Active

variable (h : ∃ p, s.active p = true)
include h

theorem State.activePlies_isEmpty : s.activePlies.isEmpty = false := by
  obtain ⟨p, hp⟩ := h
  rw [← Bool.not_eq_true, List.isEmpty_iff]
  exact List.ne_nil_of_mem (List.mem_filter.mpr ⟨mem_plyOrder p, hp⟩)

theorem State.startDecision_of_segment {segs : List Nat} {i : Nat}
    (hreached : s.reached 33 [] q.segment = (segs, some i)) : s.startDecision q = .config 2 i := by
  simp [State.startDecision, State.activePlies_isEmpty h, hreached]

variable {segs : List Nat} (hreached : s.reached 33 [] q.segment = (segs, none))
include hreached

theorem State.startDecision_of_layout {i : Nat} (hlay : s.emptyLayout segs = some i) :
    s.startDecision q = .config 3 i := by
  simp [State.startDecision, State.activePlies_isEmpty h, hreached, hlay]

variable (hlay : s.emptyLayout segs = none)
include hlay

theorem State.startDecision_of_block {i : Nat} (hblock : s.badStart segs = some i) :
    s.startDecision q = .config 4 i := by
  simp [State.startDecision, State.activePlies_isEmpty h, hreached, hlay, hblock]

variable (hblock : s.badStart segs = none)
include hblock

theorem State.startDecision_of_ply {p : Ply} {n : Nat} (hply : s.badPly q.cutoff segs = some (p, n)) :
    s.startDecision q = .config (0x20 + n) (plyNumber p) := by
  simp [State.startDecision, State.activePlies_isEmpty h, hreached, hlay, hblock, hply]

theorem State.startDecision_of_value (hply : s.badPly q.cutoff segs = none) : s.startDecision q = s.firstValue q := by
  simp [State.startDecision, State.activePlies_isEmpty h, hreached, hlay, hblock, hply]

end Active

theorem State.firstValue_of_found {v k : Nat}
    (h : normalise s.blocks (s.segmentLayout q.segment) (s.startCandidate q) = .found v k) :
    s.firstValue q = .start v k := by rw [State.firstValue, h]

theorem State.firstValue_of_exhausted {r k : Nat}
    (h : normalise s.blocks (s.segmentLayout q.segment) (s.startCandidate q) = .exhausted r k) :
    s.firstValue q = .config 6 q.segment := by rw [State.firstValue, h]

end Decision

/-! ### The start state (R150) -/

section Start

variable (s : State) (q : StartRequest) (v k : Nat)

theorem State.activePlies_startBlocks : (s.startBlocks q v).activePlies = s.activePlies := by
  rw [State.activePlies, State.activePlies]
  exact congrArg (fun f => plyOrder.filter f) (funext fun p => s.active_startBlocks q v p)

theorem State.dmax_startBlocks : (s.startBlocks q v).dmax = s.dmax := by
  have hlength : ∀ p, ((s.startBlocks q v).ply p).record.pathLength = (s.ply p).record.pathLength := fun p => by
    rw [State.ply_startBlocks, PlyState.atStart_record]
  rw [State.dmax, State.dmax, s.activePlies_startBlocks]
  simp only [hlength]

/-- R150: the state as the run is entered, its run state and causes apart. -/
def State.entering : State := (s.startBlocks q v).buildLeadIn.countSkips k

theorem State.startRun_only : s.startRun q v k = { s.entering q v k with
    runState := (s.startRun q v k).runState, causes := (s.startRun q v k).causes
    notices := (s.startRun q v k).notices, withheld := (s.startRun q v k).withheld } := by
  obtain ⟨r, c, -, -, -, he⟩ := (s.entering q v k).enterRun_eq
  have hstart : s.startRun q v k = (s.entering q v k).enterRun.notifyRunState := rfl
  rw [hstart, he, State.notifyRunState, State.notify_only]

theorem State.startRun_of_high (h : 128 ≤ s.makeups.length) : (s.startRun q v k).runState = .held
    ∧ (s.startRun q v k).causes = { HoldCauses.empty with makeups := true } := by
  have hstart : s.startRun q v k = (s.entering q v k).enterRun.notifyRunState := rfl
  have henter : (s.entering q v k).enterRun
      = { s.entering q v k with runState := .held, causes := HoldCauses.empty.join .makeups } := if_pos h
  rw [hstart, henter]
  exact ⟨State.notifyRunState_runState _, State.notifyRunState_causes _⟩

theorem State.startRun_of_low (h : s.makeups.length < 128) : (s.startRun q v k).runState = .running
    ∧ (s.startRun q v k).causes = HoldCauses.empty := by
  have hstart : s.startRun q v k = (s.entering q v k).enterRun.notifyRunState := rfl
  have henter : (s.entering q v k).enterRun
      = { s.entering q v k with runState := .running, causes := HoldCauses.empty } := if_neg (Nat.not_le.mpr h)
  rw [hstart, henter]
  exact ⟨State.notifyRunState_runState _, State.notifyRunState_causes _⟩

/-- R150: RUN-STATE is sent. -/
theorem State.startRun_notices (h : s.notices.length < 48) : (s.startRun q v k).notices = s.notices
    ++ [⟨.runState (s.startRun q v k).runState (s.startRun q v k).causes none, .owner⟩] := by
  have hstart : s.startRun q v k = (s.entering q v k).enterRun.notifyRunState := rfl
  obtain ⟨r, c, -, -, -, he⟩ := (s.entering q v k).enterRun_eq
  rw [hstart, he, State.notifyRunState_runState, State.notifyRunState_causes, State.notifyRunState,
    State.notify_notices (by exact h)]
  rfl

theorem State.ply_startRun (p : Ply) : (s.startRun q v k).ply p = (s.ply p).atStart q.cutoff := by
  rw [s.startRun_only]
  exact s.ply_startBlocks q v p

/-- R23: the lead-in. -/
theorem State.slots_startRun : (s.startRun q v k).slots
    = (List.range (s.dmax + 1)).map (s.startBlocks q v).leadInSlot := by
  rw [s.startRun_only, ← s.dmax_startBlocks q v]
  rfl

theorem State.leadIn_sub (j : Nat) (p : Ply) : ((s.startBlocks q v).leadInSlot j).subs.get p =
    if s.active p = true then
      some ⟨.notPrinted, 0, none, false,
        if (s.ply p).record.readerDistance = 0 then .absent
        else if ((s.ply p).record.pathLength : Int) - (s.ply p).record.readerDistance + 1 ≤ j
          ∧ (j : Int) ≤ (s.ply p).record.pathLength - 1 then .await
        else .notDue, false, none⟩
    else none := by
  have hsub : ((s.startBlocks q v).leadInSlot j).subs.get p = if (s.startBlocks q v).active p = true then
      some (leadInSub ((s.startBlocks q v).ply p).record j) else none := by
    rw [State.leadInSlot, PerPly.get_map]
    rfl
  have hbetween : ((s.ply p).record.pathLength + 1 ≤ j + (s.ply p).record.readerDistance
      ∧ j + 1 ≤ (s.ply p).record.pathLength)
      ↔ (((s.ply p).record.pathLength : Int) - (s.ply p).record.readerDistance + 1 ≤ j
        ∧ (j : Int) ≤ (s.ply p).record.pathLength - 1) := by omega
  rw [hsub, s.active_startBlocks, s.ply_startBlocks, PlyState.atStart_record]
  simp only [leadInSub, hbetween]

end Start

/-- Table 1-2: Dmax is the path length of an active ply. -/
theorem State.exists_dmax {s : State} (h : ∃ p, s.active p = true) :
    ∃ p, s.active p = true ∧ s.dmax = (s.ply p).record.pathLength := by
  have hfold : ∀ (l : List Nat) (a : Nat), l.foldl max a = a ∨ l.foldl max a ∈ l := by
    intro l
    induction l with
    | nil => exact fun a => .inl rfl
    | cons x l ih =>
      intro a
      obtain h | h := ih (max a x)
      · obtain hm | hm := max_choice a x
        · exact .inl (h.trans hm)
        · exact .inr (List.mem_cons.mpr (.inl (h.trans hm)))
      · exact .inr (List.mem_cons_of_mem _ h)
  obtain ⟨p, hp⟩ := h
  obtain hzero | hmem := hfold (s.activePlies.map fun p => (s.ply p).record.pathLength) 0
  · exact ⟨p, hp, Nat.le_antisymm (hzero.le.trans (Nat.zero_le _)) (State.pathLength_le_dmax hp)⟩
  · obtain ⟨q, hq, hlen⟩ := List.mem_map.mp hmem
    exact ⟨q, (List.mem_filter.mp hq).2, hlen.symm⟩

theorem State.active_of_start {s : State} {q : StartRequest} {v k : Nat} (h : s.startDecision q = .start v k) :
    ∃ p, s.active p = true := by
  by_contra hnone
  have hinactive : ∀ p, s.active p = false := fun p => by
    rw [← Bool.not_eq_true]
    exact fun hp => hnone ⟨p, hp⟩
  rw [State.startDecision_of_inactive hinactive] at h
  cases h

end Sys2Proof.Machine


namespace Sys2Proof.Machine

theorem State.handle_startRun_of_run {s : State} (h : s.runState ≠ .idle) (l : Link) (pl : List Byte) :
    s.handle .startRun l pl = (.refused .wrongState 0 0, s) := by
  have hrun : s.inRun = true := by simpa [State.inRun] using h
  change s.requestStart pl = _
  rw [State.requestStart, hrun]
  rfl

section Idle

variable {s : State} (h : s.runState = .idle) (l : Link)
include h

theorem State.handle_startRun_of_bad {pl : List Byte} (hpl : decodeStartRun pl = none) :
    s.handle .startRun l pl = (.refused .badField 0 0, s) := by
  have hrun : s.inRun = false := by simp [State.inRun, h]
  change s.requestStart pl = _
  rw [State.requestStart, hrun, hpl]
  rfl

theorem State.handle_startRun_of_config {pl : List Byte} {q : StartRequest} (hpl : decodeStartRun pl = some q)
    {check detail : Nat} (hq : s.startDecision q = .config check detail) : s.handle .startRun l pl =
      (.refused .config (BitVec.ofNat 8 check) (BitVec.ofNat 8 detail), s) := by
  have hrun : s.inRun = false := by simp [State.inRun, h]
  change s.requestStart pl = _
  simp only [State.requestStart, hrun, hpl, hq]
  rfl

theorem State.handle_startRun_of_start {pl : List Byte} {q : StartRequest} (hpl : decodeStartRun pl = some q)
    {v k : Nat} (hq : s.startDecision q = .start v k) : s.handle .startRun l pl =
      (.done (be 1 (s.startRun q v k).runState.code), s.startRun q v k) := by
  have hrun : s.inRun = false := by simp [State.inRun, h]
  change s.requestStart pl = _
  simp only [State.requestStart, hrun, hpl, hq]
  rfl

end Idle

theorem PlyState.atStart_cleared (ps : PlyState) (c : Nat) : (ps.atStart c).capture = none
    ∧ (ps.atStart c).head.inhibit = false ∧ (ps.atStart c).checker = ⟨false, 0⟩ := by
  unfold PlyState.atStart
  split <;> exact ⟨rfl, rfl, rfl⟩

theorem PlyState.atStart_of_active {ps : PlyState} (h : ps.record.active = true) (c : Nat) : ps.atStart c =
    { record := ps.record
      run := some (ps.record.runValues c)
      unit := ⟨0, 0, .search, ps.record.pathLength, false, none⟩
      head := ⟨[], .empty, [], [], 0, none, false⟩
      checker := ⟨false, 0⟩
      capture := none } := if_pos h

theorem StartRequest.bytes_length (q : StartRequest) : q.bytes.length = 10 := by
  simp [StartRequest.bytes, optional_length]

/-- Settles O44: the payload, the checks in order, and the start state. -/
theorem startRunTakesTheStartState : Obligations.StartRunTakesTheStartState := by
  unfold Obligations.StartRunTakesTheStartState
  intro q l tag s hadmits hrange
  have hpl := decodeStartRun_bytes hrange
  have hexec : ∀ {pl : List Byte} {a : Answer} {t : State}, pl.length = 10 → s.handle .startRun l pl = (a, t) →
      exec (.startRun l tag pl) s = .next (t.replied l tag .startRun a) := fun hlen hh =>
    exec_of_handle hadmits hlen tag hh
  have hlen := q.bytes_length
  refine ⟨fun hrun => hexec hlen (State.handle_startRun_of_run hrun l _), fun hidle check detail hq =>
    hexec hlen (State.handle_startRun_of_config hidle l hpl hq), fun hidle v k hq => ?start, ?inactive, ?checks, ?bad⟩
  case inactive => exact State.startDecision_of_inactive
  case bad =>
    intro pl hpl10 hidle b hbad
    exact hexec hpl10 (State.handle_startRun_of_bad hidle l (decodeStartRun_eq_none hpl10 hbad))
  case checks =>
    intro hactive reaches noLayout noBlock fails first found
    have hcandidate : found = normalise s.blocks (s.segmentLayout q.segment) (s.startCandidate q) := by
      refine congrArg (normalise s.blocks (s.segmentLayout q.segment)) ?_
      dsimp only [first]
      unfold State.startCandidate
      cases q.start with
      | some v => rfl
      | none => cases s.cursor <;> rfl
    refine ⟨fun i hi hnone => ?_, fun hdefined => ?_⟩
    · obtain ⟨segs, hsegs⟩ := State.reached_of_empty hi hnone
      exact State.startDecision_of_segment hactive hsegs
    · obtain ⟨segs, hsegs, hmem⟩ := State.reached_of_defined hdefined
      refine ⟨fun hlay => ?_, fun hlays => ?_⟩
      · obtain ⟨i, hlay⟩ := hlay
        obtain ⟨j, g, hj, hg, hnone, hempty⟩ := State.emptyLayout_of_some hmem ⟨i, hlay⟩
        exact ⟨j, g, hj, hg, hnone, State.startDecision_of_layout hactive hsegs hempty⟩
      · have hlay := State.emptyLayout_of_none hmem hlays
        refine ⟨fun hblock => ?_, fun hblocks => ?_⟩
        · obtain ⟨i, g, w, hi, hblock⟩ := hblock
          cases hbad : s.badStart segs with
          | none =>
            exact absurd ⟨g, w, hblock⟩ (State.badStart_eq_none_iff.mp hbad i ((hmem i).mpr hi))
          | some j =>
            obtain ⟨hj, g', w', hj'⟩ := State.noBlock_of_badStart hbad
            exact ⟨j, ⟨g', w', (hmem j).mp hj, hj'⟩, State.startDecision_of_block hactive hsegs hlay hbad⟩
        · have hblock : s.badStart segs = none := State.badStart_eq_none_iff.mpr
            fun i hi ⟨g, w, hno⟩ => hblocks i ⟨g, w, (hmem i).mp hi, hno⟩
          refine ⟨fun p n hfails hlow hbefore => ?_, fun hpass => ?_⟩
          · obtain ⟨hp, hcheck⟩ := hfails
            exact State.startDecision_of_ply hactive hsegs hlay hblock (State.badPly_of_fails hmem hp hcheck
              (fun m hm hc => hlow m hm ⟨hp, hc⟩) fun p' m hp' hlt hc => hbefore p' m hlt ⟨hp', hc⟩)
          · have hdecision := State.startDecision_of_value hactive hsegs hlay hblock
              (State.badPly_of_passes (c := q.cutoff) hmem fun p m hp hc => hpass p m ⟨hp, hc⟩)
            rw [hcandidate]
            exact ⟨fun r k hr => hdecision.trans (State.firstValue_of_exhausted hr),
              fun v k hv => hdecision.trans (State.firstValue_of_found hv)⟩
  case start =>
    have hnext := hexec hlen (State.handle_startRun_of_start hidle l hpl hq)
    have honly := s.startRun_only q v k
    have hlinks : (s.startRun q v k).links = s.links := (congrArg State.links honly :)
    have hactive := State.active_of_start hq
    have hslots := s.slots_startRun q v k
    have hnotices := s.startRun_notices q v k
    have hplies := s.ply_startRun q v k
    have hhigh := s.startRun_of_high q v k
    have hlow := s.startRun_of_low q v k
    generalize s.startRun q v k = t at *
    have hreplied : ∀ a, (t.replied l tag .startRun a).links = (s.replied l tag .startRun a).links := fun a => by
      cases l <;> simp only [State.replied, State.pushReply, State.modLink, hlinks]
    have hlength : t.slots.length = s.dmax + 1 := by rw [hslots, List.length_map, List.length_range]
    have hmarriage : t.marriageSlot = 0 := (congrArg State.marriageSlot honly :)
    refine ⟨_, hnext, fun hm => ?_, fun hm => ?_, (congrArg State.drain honly :), (congrArg State.params honly :),
      (congrArg State.policy honly :), (congrArg State.endMakeups honly :), ?_, (congrArg State.lastMarriage honly :),
      hmarriage, hlength, ?_, ?_, ?_, ?_, hnotices, (congrArg State.cursor honly :), (congrArg State.batch honly :),
      (congrArg State.lastGranted honly :), fun p => ?_, (congrArg State.makeups honly :),
      (congrArg State.segments honly :), (congrArg State.blocks honly :), (congrArg State.layouts honly :),
      (congrArg State.owner honly :)⟩
    · obtain ⟨hheld, hcauses⟩ := hhigh hm
      exact ⟨hheld, hcauses, by rw [hheld]; exact hreplied _⟩
    · obtain ⟨hrunning, hcauses⟩ := hlow hm
      exact ⟨hrunning, hcauses, by rw [hrunning]; exact hreplied _⟩
    · refine Eq.trans (congrArg State.tallies honly :) ?_
      exact congrArg (fun n => { Tallies.zero with skipped := min n 4294967295 }) (Nat.zero_add k)
    · intro p hp
      have hlt : (s.ply p).record.pathLength < t.slots.length := by
        rw [hlength]
        exact Nat.lt_succ_of_le (State.pathLength_le_dmax hp)
      exact hlt
    · obtain ⟨p, hp, hmax⟩ := State.exists_dmax hactive
      exact ⟨p, hp, hlength.trans (by rw [hmax])⟩
    · intro slot hslot
      have hslot' : slot ∈ t.slots := hslot
      rw [hslots] at hslot'
      obtain ⟨j, -, rfl⟩ := List.mem_map.mp hslot'
      exact ⟨rfl, rfl⟩
    · intro j hj
      have hj' : j < s.dmax + 1 := by rw [← hlength]; exact hj
      refine ⟨(s.startBlocks q v).leadInSlot j, ?_, s.leadIn_sub q v j⟩
      have hat : t.slotAt j = some ((s.startBlocks q v).leadInSlot j) := by
        have hget := t.slotAt_add j
        rw [hmarriage, Nat.zero_add, hslots, List.getElem?_map, List.getElem?_range hj'] at hget
        exact hget
      exact hat
    · have hply : (t.replied l tag .startRun (.done (be 1 t.runState.code))).ply p = (s.ply p).atStart q.cutoff :=
        hplies p
      have hruns : t.runPlies.get p = s.active p := by
        rw [(congrArg State.runPlies honly :)]
        exact PerPly.get_map ..
      obtain ⟨hcapture, hinhibit, hchecker⟩ := (s.ply p).atStart_cleared q.cutoff
      rw [hply]
      refine ⟨hcapture, hinhibit, hchecker, PlyState.atStart_record _ _, hruns, fun hp => ?_⟩
      rw [PlyState.atStart_of_active hp]
      exact ⟨rfl, rfl, rfl⟩

end Sys2Proof.Machine


/-! ## The form boundary (sections 3.4 and 4.5) -/

namespace Sys2Proof.Machine

/-! ### What may become of a slot while its form is dealt with -/

/-- A disposition that the Recovery Logic may make of another; OPEN where `above` allows it. -/
def Disposition.Becomes (above : Prop) (d e : Disposition) : Prop :=
  e = d ∨ (∃ b r, e = .void b r) ∨ e = .skip ∨ (above ∧ e = .opened) ∨ ∃ b m n, d = .bound b m ∧ e = .bound b n

theorem Disposition.Becomes.refl {above : Prop} (d : Disposition) : d.Becomes above d := .inl rfl

theorem Disposition.Becomes.trans {above : Prop} {d e f : Disposition} (h : d.Becomes above e) (k : e.Becomes above f) :
    d.Becomes above f := by
  obtain rfl | k | k | k | ⟨b, m, n, rfl, rfl⟩ := k
  · exact h
  · exact .inr (.inl k)
  · exact .inr (.inr (.inl k))
  · exact .inr (.inr (.inr (.inl k)))
  · obtain rfl | ⟨c, r, hv⟩ | hs | ⟨-, ho⟩ | ⟨c, x, y, rfl, hb⟩ := h
    · exact .inr (.inr (.inr (.inr ⟨b, m, n, rfl, rfl⟩)))
    · cases hv
    · cases hs
    · cases ho
    · cases hb
      exact .inr (.inr (.inr (.inr ⟨b, x, n, rfl, rfl⟩)))

/-- The slot at an index, where it is held, was held before and has become no more than that. -/
def State.Becomes (above : Prop) (i : Nat) (s t : State) : Prop :=
  ∀ y, t.slotAt i = some y → ∃ x, s.slotAt i = some x ∧ x.disp.Becomes above y.disp

namespace State.Becomes

variable {above : Prop} {i : Nat} {s t u : State}

theorem trans (h : Becomes above i s t) (k : Becomes above i t u) : Becomes above i s u := fun z hz => by
  obtain ⟨y, hy, hyz⟩ := k z hz
  obtain ⟨x, hx, hxy⟩ := h y hy
  exact ⟨x, hx, hxy.trans hyz⟩

theorem of_slotAt (h : t.slotAt i = s.slotAt i) : Becomes above i s t := fun y hy => ⟨y, h ▸ hy, .refl _⟩

theorem refl (s : State) : Becomes above i s s := of_slotAt rfl

/-- A slot that was not BOUND is not. -/
theorem not_bound (h : Becomes above i s t) (hs : ∀ x b m, s.slotAt i = some x → x.disp ≠ .bound b m) :
    ∀ y b m, t.slotAt i = some y → y.disp ≠ .bound b m := by
  intro y b m hy hd
  obtain ⟨x, hx, he | ⟨c, r, he⟩ | he | ⟨-, he⟩ | ⟨c, k, n, hb, -⟩⟩ := h y hy
  · exact hs x b m hx (he.symm.trans hd)
  · rw [hd] at he; cases he
  · rw [hd] at he; cases he
  · rw [hd] at he; cases he
  · exact hs x c k hx hb

/-- A slot that was not OPEN is not, where none may be made so. -/
theorem not_opened (h : Becomes False i s t) (hs : ∀ x, s.slotAt i = some x → x.disp ≠ .opened) :
    ∀ y, t.slotAt i = some y → y.disp ≠ .opened := by
  intro y hy hd
  obtain ⟨x, hx, he | ⟨c, r, he⟩ | he | ⟨hno, -⟩ | ⟨c, k, n, -, he⟩⟩ := h y hy
  · exact hs x hx (he.symm.trans hd)
  · rw [hd] at he; cases he
  · rw [hd] at he; cases he
  · exact hno
  · rw [hd] at he; cases he

theorem modSlot (s : State) (j : Nat) {f : Slot → Slot} (hf : ∀ x : Slot, x.disp.Becomes above (f x).disp) :
    Becomes above i s (s.modSlot j f) := by
  by_cases hi : i = j
  · subst hi
    intro y hy
    cases hx : s.slotAt i with
    | none => rw [State.modSlot_of_not_held hx, hx] at hy; cases hy
    | some x =>
      rw [State.slotAt_modSlot_self hx] at hy
      cases hy
      exact ⟨x, rfl, hf x⟩
  · exact of_slotAt (s.slotAt_modSlot_ne hi f)

theorem modSub (s : State) (j : Nat) (p : Ply) (f : SubRecord → SubRecord) : Becomes above i s (s.modSub j p f) :=
  modSlot s j fun _ => .refl _

theorem slot_makeVoid (x : Slot) (r : VoidReason) :
    x.disp.Becomes above (x.makeVoid r).disp := by
  cases hb : x.isBound with
  | false => rw [Slot.makeVoid_of_not_bound hb]; exact .refl _
  | true =>
    obtain ⟨b, m, hd⟩ := x.isBound_iff.mp hb
    exact .inr (.inl ⟨b, r, Slot.makeVoid_disp hd r⟩)

theorem slot_setSpoilPending (x : Slot) (mark : SpoilMark) : x.disp.Becomes above (x.setSpoilPending mark).disp := by
  unfold Slot.setSpoilPending
  cases hd : x.disp with
  | bound b m => exact .inr (.inr (.inr (.inr ⟨b, m, some mark, rfl, rfl⟩)))
  | opened => simp only [hd]; exact .refl _
  | skip => simp only [hd]; exact .refl _
  | void b r => simp only [hd]; exact .refl _

theorem slot_rewound (x : Slot) {flag : Bool} (hflag : flag = true → above) : x.disp.Becomes above (x.rewound flag).disp := by
  obtain ⟨-, he⟩ | ⟨-, -, he⟩ | ⟨-, -, ha, he⟩ | ⟨-, -, -, he⟩ := x.rewound_cases flag <;> rw [he]
  · exact .refl _
  · exact slot_makeVoid x _
  · exact .inr (.inr (.inr (.inl ⟨hflag ha, rfl⟩)))
  · exact .inr (.inr (.inl rfl))

theorem rewind (s : State) (u : Nat) (init : Option Undone) (h : u ≤ i → s.aboveHeads i = true → above) :
    Becomes above i s (s.rewind u init).1 := by
  intro y hy
  rw [State.slotAt_rewind] at hy
  obtain ⟨x, hx, rfl⟩ := Option.map_eq_some_iff.mp hy
  refine ⟨x, hx, ?_⟩
  split
  · exact slot_rewound x (h ‹_›)
  · exact .refl _

/-- A spoil of slot `j`: only a slot above it, and above every active head slot, may be made OPEN. -/
theorem takeSpoil (s : State) (j : Nat) (mark : SpoilMark) (h : j < i → s.aboveHeads i = true → above) :
    Becomes above i s (s.takeSpoil j mark) := by
  obtain ⟨-, he⟩ | ⟨_, -, -, he⟩ | ⟨_, b, -, -, ⟨-, -, he⟩ | ⟨-, he⟩⟩ := s.takeSpoil_cases j mark <;> rw [he]
  · exact .refl s
  · exact modSub s _ _ _
  · have habove : (s.modSlot j fun slot => slot.makeVoid (.spoil mark)).aboveHeads i = s.aboveHeads i := by
      rw [Bool.eq_iff_iff, State.aboveHeads_iff, State.aboveHeads_iff]
      simp only [State.active, State.ply, State.modSlot_plies]
    have hrewind := (modSlot (above := above) (i := i) s j fun x => slot_makeVoid x (.spoil mark)).trans
      (rewind _ (j + 1) (some ⟨b, false⟩) fun hj => by rw [habove]; exact h hj)
    exact hrewind.trans (of_slotAt (State.slotAt_of_slots (by simp [State.rollbackSpoil])
      (by simp [State.rollbackSpoil]) i))
  · have hjoined := State.joinMakeup_joined (s.modSlot j fun slot => slot.setSpoilPending mark) (b.spoilEntry j)
    rw [State.deferSpoil_eq]
    exact (modSlot s j fun x => slot_setSpoilPending x mark).trans (of_slotAt (State.slotAt_of_slots
      (by rw [State.notify_slots, hjoined.slots]) (by rw [State.notify_marriageSlot, hjoined.marriageSlot]) i))

section Due

variable {p : Ply} (h : (s.ply p).unit.headSlot < i → above)
include h

theorem closeForm (f : HeadController → HeadController) (print : PrintState) (reason : Reason) :
    Becomes above i s (s.closeForm p f print reason) := by
  have hhead : Becomes above i s (s.modHead p fun h => f h.dropUnfired) := of_slotAt rfl
  exact (hhead.trans (modSub _ _ _ _)).trans (takeSpoil _ _ _ fun hj _ => h hj)

theorem impressionDue (sel : Select) : Becomes above i s (s.impressionDue p sel) := by
  have hhead : ∀ f : HeadController → HeadController, Becomes above i s (s.modHead p f) := fun f => of_slotAt rfl
  unfold State.impressionDue
  dsimp only
  split
  · exact hhead _
  split
  · exact closeForm h _ _ _
  split
  · exact closeForm h _ _ _
  split
  · exact closeForm h _ _ _
  split
  · exact hhead _
  · have hfired : Becomes above i s (s.firedState p sel) :=
      (of_slotAt (t := (s.modHead p fun _ => (s.ply p).headAfterFiring sel).emit (.fire p sel)) rfl).trans (modSub _ _ _ _)
    rw [State.fireImpression_eq]
    split
    · exact hfired.trans (takeSpoil _ _ _ fun hj _ => h hj)
    · exact hfired

theorem fallDue (sel : Select) : Becomes above i s (s.fallDue p sel) := by
  unfold State.fallDue
  split
  · exact impressionDue h sel
  · exact refl s

omit h in
theorem fallDueAll (sels : List Select) {s : State} (h : (s.ply p).unit.headSlot < i → above) :
    Becomes above i s (s.fallDueAll p sels) := by
  induction sels generalizing s with
  | nil => exact refl s
  | cons sel sels ih => exact (fallDue h sel).trans (ih (by rw [(State.HeadWork.fallDue s p sel).unit]; exact h))

end Due

end State.Becomes

/-! ### What leaves the verify states -/

theorem State.SameVerify.modSub (s : State) (j : Nat) (q : Ply) {f : SubRecord → SubRecord}
    (hf : ∀ r, (f r).verify = r.verify) : s.SameVerify (s.modSub j q f) :=
  .modSlot s j fun x p => by
    rw [Slot.verifyOf, Slot.verifyOf, Slot.subs_modSub]
    split
    · subst_vars
      rw [Option.map_map]
      exact congrArg (fun g => (x.subs.get p).map g) (funext hf)
    · rfl

theorem State.SameVerify.closeForm (s : State) (p : Ply) (f : HeadController → HeadController) (print : PrintState)
    (reason : Reason) : s.SameVerify (s.closeForm p f print reason) := by
  have hhead : s.SameVerify (s.modHead p fun h => f h.dropUnfired) := .of_slots rfl rfl
  exact (hhead.trans (.modSub _ _ _ (f := fun r => { r with print := print }) fun _ => rfl)).trans (.takeSpoil _ _ _)

/-- R85: an impression that is due writes no verify state. -/
theorem State.SameVerify.impressionDue (s : State) (p : Ply) (sel : Select) : s.SameVerify (s.impressionDue p sel) := by
  have hhead : ∀ f : HeadController → HeadController, s.SameVerify (s.modHead p f) := fun f => .of_slots rfl rfl
  unfold State.impressionDue
  dsimp only
  split
  · exact hhead _
  split
  · exact .closeForm s p _ _ _
  split
  · exact .closeForm s p _ _ _
  split
  · exact .closeForm s p _ _ _
  split
  · exact hhead _
  · have hdriven : s.SameVerify ((s.modHead p fun _ => (s.ply p).headAfterFiring sel).emit (.fire p sel)) :=
      .of_slots rfl rfl
    have hwritten := State.SameVerify.modSub ((s.modHead p fun _ => (s.ply p).headAfterFiring sel).emit (.fire p sel))
      (s.ply p).unit.headSlot p (f := fun r => r.fire ((s.ply p).head.errorOf sel)
        (s.exceedsTolerance (s.ply p).unit.headSlot ((s.ply p).head.errorOf sel))
        ((s.ply p).firedHead sel).allFired) fun _ => rfl
    have hfired : s.SameVerify (s.firedState p sel) := hdriven.trans hwritten
    rw [State.fireImpression_eq]
    split
    · exact hfired.trans (.takeSpoil _ _ _)
    · exact hfired

end Sys2Proof.Machine


namespace Sys2Proof.Machine

/-! ### The advance before the boundary -/

/-- What the advance that ends a form leaves: a deferred impression may have been taken up on the way. -/
structure State.Moved (p : Ply) (x : Nat) (s t : State) : Prop where
  unit : (t.ply p).unit = { (s.ply p).unit with position := x }
  others : ∀ q, q ≠ p → (t.ply q).unit = (s.ply q).unit
  run : (t.ply p).run = (s.ply p).run
  capture : (t.ply p).capture = (s.ply p).capture
  trim : (t.ply p).head.pendingTrim = (s.ply p).head.pendingTrim
  load : (t.ply p).head.load = (s.ply p).head.load
    ∨ (∃ img, (s.ply p).head.load = .loaded img) ∧ (t.ply p).head.load = .empty
  verify : s.SameVerify t
  becomes : ∀ i, (s.ply p).unit.headSlot < i → State.Becomes True i s t
  quiet : (s.ply p).head.guardCount ≠ 1 → t = s.modPly p fun ps => ps.advanced x

theorem State.advancedTo_moved (s : State) (p : Ply) (x : Nat) : s.Moved p x (s.advancedTo p x) := by
  have hmoved : ∀ f : PlyState → PlyState, (f (s.ply p)).unit = { (s.ply p).unit with position := x } →
      (f (s.ply p)).run = (s.ply p).run → (f (s.ply p)).capture = (s.ply p).capture →
      (f (s.ply p)).head.pendingTrim = (s.ply p).head.pendingTrim → (f (s.ply p)).head.load = (s.ply p).head.load →
      ∀ t, (s.modPly p f).HeadWork p t → (s.modPly p f).SameVerify t →
      (∀ i, (s.ply p).unit.headSlot < i → State.Becomes True i (s.modPly p f) t) →
      ((s.ply p).head.guardCount ≠ 1 → t = s.modPly p fun ps => ps.advanced x) → s.Moved p x t := by
    intro f hunit hrun hcapture htrim hload t hwork hverify hbecomes hquiet
    have hself : (s.modPly p f).ply p = f (s.ply p) := by rw [State.ply_modPly, if_pos rfl]
    refine ⟨?_, fun q hq => ?_, ?_, ?_, ?_, ?_, ?_, fun i hi => ?_, hquiet⟩
    · rw [hwork.unit, hself, hunit]
    · rw [hwork.unit, State.ply_modPly, if_neg hq]
    · rw [hwork.run, hself, hrun]
    · rw [hwork.capture, hself, hcapture]
    · rw [hwork.head.trim, hself, htrim]
    · have hkept := hwork.head.load
      rwa [hself, hload] at hkept
    · exact (State.SameVerify.of_slots (s := s) (t := s.modPly p f) rfl rfl).trans hverify
    · exact (State.Becomes.of_slotAt (s := s) (t := s.modPly p f) rfl).trans (hbecomes i hi)
  have hplain : s.Moved p x (s.modPly p fun ps => ps.advanced x) :=
    hmoved _ rfl rfl rfl rfl rfl _ (.refl _) (.refl _) (fun _ _ => .refl _) fun _ => rfl
  by_cases hguard : (s.ply p).head.guardCount = 1
  · cases hdeferred : (s.ply p).head.deferred with
    | nil =>
      rw [State.advancedTo_eq, if_pos hguard, State.takeUpDeferred_of_none]
      · exact hplain
      · rw [State.ply_modPly, if_pos rfl]; exact hdeferred
    | cons sel rest =>
      rw [State.advancedTo_of_deferred hguard hdeferred]
      exact hmoved _ rfl rfl rfl rfl rfl _ (.impressionDue _ p sel) (.impressionDue _ p sel)
        (fun i _ => .impressionDue (fun _ => trivial) sel) fun hno => absurd hguard hno
  · rw [State.advancedTo_eq, if_neg hguard]
    exact hplain

/-! ### Slots created and retired -/

/-- A slot that a creation adds is OPEN. -/
theorem State.slotAt_of_create {s : State} {i j : Nat} {x : Slot} (h : (s.create j).slotAt i = some x)
    (hx : x.disp ≠ .opened) : s.slotAt i = some x := by
  obtain ⟨n, hn⟩ := s.create_slots j
  rw [State.slotAt_eq_some, State.create_marriageSlot, hn, List.getElem?_append] at h
  obtain ⟨hm, hget⟩ := h
  split at hget
  · exact State.slotAt_eq_some.mpr ⟨hm, hget⟩
  · rw [List.getElem?_replicate] at hget
    split at hget
    · cases hget; exact absurd rfl hx
    · cases hget

/-- A slot held after a force-retire, but for those added, was held before. -/
theorem State.slotAt_of_forceRetire {s : State} {p : Ply} {i : Nat} {x : Slot} (h : (s.forceRetire p).slotAt i = some x)
    (hx : x.disp ≠ .opened) : s.slotAt i = some x := by
  by_cases hs : s.slots = []
  · have hsame : s.forceRetire p = s := by rw [State.forceRetire, hs]
    rwa [hsame] at h
  · obtain ⟨hslots, hmarriage⟩ := State.forceRetire_window hs p
    obtain ⟨n, hn⟩ := s.retireSlot_slots
    rw [State.slotAt_eq_some, hslots, hmarriage, hn, List.getElem?_append] at h
    obtain ⟨hm, hget⟩ := h
    split at hget
    · rw [List.getElem?_drop, show 1 + (i - (s.marriageSlot + 1)) = i - s.marriageSlot by omega] at hget
      exact State.slotAt_eq_some.mpr ⟨by omega, hget⟩
    · rw [List.getElem?_replicate] at hget
      split at hget
      · cases hget; exact absurd rfl hx
      · cases hget

/-- R18: a slot that is neither OPEN nor SKIP when the head slot is taken was held so before. -/
theorem State.slotAt_of_takeHeadSlot {s : State} {p : Ply} {i j : Nat} {x : Slot}
    (h : (s.takeHeadSlot p j).slotAt i = some x) (hopened : x.disp ≠ .opened) (hskip : x.disp ≠ .skip) :
    s.slotAt i = some x := by
  have hcreated : (s.createForHead p j).slotAt i = some x := by
    rw [State.takeHeadSlot_eq] at h
    by_cases hi : i = j
    · subst hi
      cases hy : (s.createForHead p i).slotAt i with
      | none => rw [State.modSlot_of_not_held hy, hy] at h; cases h
      | some y =>
        rw [State.slotAt_modSlot_self hy] at h
        cases h
        unfold Slot.skipIfOpen at hskip ⊢
        split
        · rw [‹y.disp = _›] at hskip; exact absurd rfl hskip
        all_goals rfl
    · rwa [State.slotAt_modSlot_ne _ hi] at h
  unfold State.createForHead at hcreated
  split at hcreated
  · exact State.slotAt_of_forceRetire (State.slotAt_of_create hcreated hopened) hopened
  · exact State.slotAt_of_create hcreated hopened

end Sys2Proof.Machine


namespace Sys2Proof.Machine

/-! ### Plan order (R82) -/

/-- Plan order as R82 says it. -/
def Impression.Before (x y : Impression) : Prop :=
  x.phase < y.phase ∨ (x.phase = y.phase ∧ selectRank x.select < selectRank y.select)

theorem planBefore_iff (x y : Impression) : planBefore x y = true ↔ x.Before y := by
  simp [planBefore, Impression.Before]

theorem Impression.Before.trans {x y z : Impression} (h : x.Before y) (k : y.Before z) : x.Before z := by
  unfold Impression.Before at *
  omega

theorem selectRank_injective {a b : Select} (h : selectRank a = selectRank b) : a = b := by
  cases a <;> cases b <;> simp [selectRank] at h ⊢

/-- Of impressions with different selects, one comes before the other. -/
theorem Impression.before_of_not {x y : Impression} (hs : x.select ≠ y.select) (h : ¬ x.Before y) : y.Before x := by
  have hrank : selectRank x.select ≠ selectRank y.select := fun he => hs (selectRank_injective he)
  unfold Impression.Before at *
  omega

theorem mem_insertImpression {x y : Impression} {l : List Impression} : y ∈ insertImpression x l ↔ y = x ∨ y ∈ l := by
  induction l with
  | nil => simp [insertImpression]
  | cons z l ih =>
    unfold insertImpression
    split
    · exact List.mem_cons
    · rw [List.mem_cons, ih, List.mem_cons]
      tauto

theorem pairwise_insertImpression {x : Impression} {l : List Impression} (hl : l.Pairwise Impression.Before)
    (hx : ∀ y ∈ l, x.select ≠ y.select) : (insertImpression x l).Pairwise Impression.Before := by
  induction l with
  | nil => exact List.pairwise_singleton _ _
  | cons z l ih =>
    obtain ⟨hz, hrest⟩ := List.pairwise_cons.mp hl
    unfold insertImpression
    split
    · have hxz := (planBefore_iff x z).mp ‹_›
      refine List.pairwise_cons.mpr ⟨fun y hy => ?_, hl⟩
      obtain rfl | hy := List.mem_cons.mp hy
      · exact hxz
      · exact hxz.trans (hz y hy)
    · have hzx : z.Before x := Impression.before_of_not (hx z (List.mem_cons_self ..))
        (by rw [← planBefore_iff]; exact ‹_›)
      refine List.pairwise_cons.mpr ⟨fun y hy => ?_, ih hrest fun y hy => hx y (List.mem_cons_of_mem _ hy)⟩
      obtain rfl | hy := mem_insertImpression.mp hy
      · exact hzx
      · exact hz y hy

theorem mem_foldr_insertImpression {y : Impression} {l : List Impression} : y ∈ l.foldr insertImpression [] ↔ y ∈ l := by
  induction l with
  | nil => simp
  | cons x l ih => rw [List.foldr_cons, mem_insertImpression, ih, List.mem_cons]

theorem pairwise_foldr_insertImpression {l : List Impression} (hl : (l.map (·.select)).Nodup) :
    (l.foldr insertImpression []).Pairwise Impression.Before := by
  induction l with
  | nil => exact List.Pairwise.nil
  | cons x l ih =>
    rw [List.map_cons, List.nodup_cons] at hl
    refine pairwise_insertImpression (ih hl.2) fun y hy hs => hl.1 ?_
    rw [mem_foldr_insertImpression] at hy
    exact List.mem_map.mpr ⟨y, hy, hs.symm⟩

theorem Layout.selects_nodup (lay : Layout) (p : Ply) (c : HeadClass) : (lay.selects p c).Nodup := by
  unfold Layout.selects
  cases lay.maskA.get p <;> cases lay.maskB.get p <;> cases splitOn c lay.lengthA <;> cases splitOn c lay.width <;> decide

theorem planFor_pairwise (lay : Layout) (p : Ply) (ps : PlyState) (c : Nat) :
    (planFor lay p ps c).Pairwise Impression.Before := by
  refine pairwise_foldr_insertImpression ?_
  rw [List.map_map]
  exact (congrArg List.Nodup (List.map_id _)).mpr (lay.selects_nodup p _)

theorem mem_planFor {lay : Layout} {p : Ply} {ps : PlyState} {c : Nat} {i : Impression} : i ∈ planFor lay p ps c ↔
    ∃ sel ∈ lay.selects p ps.record.headClass,
      i = ⟨sel, (((lay.phaseOf ps.record.splitPitch sel : Int) + ps.trimInForce) % c).toNat, .waiting, 0⟩ := by
  rw [planFor, mem_foldr_insertImpression, List.mem_map]
  exact exists_congr fun sel => and_congr_right fun _ => eq_comm

theorem State.newPlan_pairwise (s : State) (p : Ply) : (s.newPlan p).Pairwise Impression.Before := by
  unfold State.newPlan
  split
  · exact List.Pairwise.nil
  · split
    · split
      · exact planFor_pairwise _ _ _ _
      · exact List.Pairwise.nil
    · exact List.Pairwise.nil

/-- R81: a form that is not BOUND has no plan. -/
theorem State.newPlan_of_unbound {s : State} {p : Ply} (h : s.boundAt (s.ply p).unit.headSlot = none) :
    s.newPlan p = [] := by rw [State.newPlan, h]

/-- R81: the plan of a BOUND form. -/
theorem State.newPlan_of_bound {s : State} {p : Ply} {slot : Slot} {b : Binding} {m : Option SpoilMark} {r : SubRecord}
    {lay : Layout} (hslot : s.slotAt (s.ply p).unit.headSlot = some slot) (hd : slot.disp = .bound b m)
    (hr : slot.subs.get p = some r) (hlay : s.segmentLayout b.segment = some lay) :
    s.newPlan p = if r.print = .pending then planFor lay p (s.ply p) s.cutoff else [] := by
  simp only [State.newPlan, State.boundAt_of_bound hslot hd, hr, hlay]

/-- Plan order is that of the phases and selects, which impressions keep. -/
theorem Impression.Later.pairwise {l m : List Impression} (h : List.Forall₂ Impression.Later l m)
    (hl : l.Pairwise Impression.Before) : m.Pairwise Impression.Before := by
  have hkeys : m.map (fun i => (i.phase, i.select)) = l.map fun i => (i.phase, i.select) := by
    clear hl
    induction h with
    | nil => rfl
    | cons hi _ ih =>
      obtain ⟨hselect, hphase, -⟩ := hi
      rw [List.map_cons, List.map_cons, ih, hselect, hphase]
  have hpairs : ∀ n : List Impression, n.Pairwise Impression.Before ↔ (n.map fun i => (i.phase, i.select)).Pairwise
      fun x y => x.1 < y.1 ∨ (x.1 = y.1 ∧ selectRank x.2 < selectRank y.2) := fun n => by rw [List.pairwise_map]; rfl
  rw [hpairs] at hl ⊢
  rwa [hkeys]

end Sys2Proof.Machine


namespace Sys2Proof.Machine

/-! ### The force-retire (R19) -/

/-- The fault of a force-retire. -/
def State.retireReport (s : State) (p : Ply) (slot : Slot) : FaultReport :=
  { kind := .alignment, index := s.marriageSlot, position := (s.ply p).unit.position, cause := none
    retired := some (slot.disp, slot.touched) }

/-- R19: the marriage slot retired without marriage, before its value joins the list. -/
def State.retiredBy (s : State) (p : Ply) (slot : Slot) : State :=
  let u := s.retireSlot.raiseFault p (s.retireReport p slot)
  { u with tallies := u.tallies.retireVoid }

section ForceRetire

variable {s : State} {p : Ply} {slot : Slot} {rest : List Slot} (hs : s.slots = slot :: rest)
include hs

theorem State.forceRetire_of_owed {b : Binding} (hd : slot.disp = .bound b none) :
    s.forceRetire p = ((s.retiredBy p slot).joinMakeup ⟨b.value, b.segment, b.pass, none⟩).2 := by
  simp only [State.forceRetire, hs, hd]
  rw [State.retiredBy, State.retireReport, hd]

theorem State.forceRetire_of_not (hd : ∀ b, slot.disp ≠ .bound b none) : s.forceRetire p = s.retiredBy p slot := by
  cases h : slot.disp with
  | bound b m =>
    cases m with
    | none => exact absurd h (hd b)
    | some m => simp only [State.forceRetire, hs, h]; rw [State.retiredBy, State.retireReport, h]
  | opened => simp only [State.forceRetire, hs, h]; rw [State.retiredBy, State.retireReport, h]
  | skip => simp only [State.forceRetire, hs, h]; rw [State.retiredBy, State.retireReport, h]
  | void b r => simp only [State.forceRetire, hs, h]; rw [State.retiredBy, State.retireReport, h]

/-- A force-retire but for its join: what the join changes is the list and what reports it. -/
theorem State.forceRetire_joined : (s.retiredBy p slot).Joined (s.forceRetire p) := by
  by_cases h : ∃ b, slot.disp = .bound b none
  · obtain ⟨b, hd⟩ := h
    rw [State.forceRetire_of_owed hs hd]
    exact State.joinMakeup_joined _ _
  · rw [State.forceRetire_of_not hs fun b hd => h ⟨b, hd⟩]
    exact .refl _

end ForceRetire

theorem State.retiredBy_only (s : State) (p : Ply) (slot : Slot) :
    ((s.retiredBy p slot).ply p = { s.ply p with
      capture := some (recordCapture (s.ply p).capture (s.retireReport p slot))
      head := { (s.ply p).head with
        inhibit := (s.ply p).head.inhibit || (s.ply p).record.inhibitSet.has .alignment } })
    ∧ (∀ q, q ≠ p → (s.retiredBy p slot).ply q = s.ply q)
    ∧ (s.retiredBy p slot).makeups = s.makeups
    ∧ (s.retiredBy p slot).tallies = s.tallies.retireVoid
    ∧ (s.retiredBy p slot).marriageSlot = s.marriageSlot + 1 := by
  have hply : ∀ q, s.retireSlot.ply q = s.ply q := fun q => by simp [State.ply]
  refine ⟨?_, fun q hq => ?_, ?_, ?_, ?_⟩
  · exact (State.ply_raiseFault_self s.retireSlot p _).trans (by rw [hply]; rfl)
  · exact (State.ply_raiseFault_ne s.retireSlot _ hq).trans (hply q)
  · simp [State.retiredBy]
  · simp [State.retiredBy]
  · simp [State.retiredBy]

theorem State.raiseFault_notices {s : State} (h : s.notices.length < 48) (p : Ply) (r : FaultReport) :
    ∃ more, (s.raiseFault p r).notices = s.notices ++ ⟨.plyFault p r (decide ((s.ply p).capture = none))
      ((s.ply p).record.inhibitSet.has r.kind), .owner⟩ :: more := by
  rw [State.raiseFault_eq]
  split
  · obtain ⟨more, hmore⟩ := (s.faultNoted p r).giveCause_notices_append .fault
    exact ⟨more, by rw [hmore, State.faultNoted_notices h, List.append_assoc, List.singleton_append]⟩
  · exact ⟨[], State.faultNoted_notices h p r⟩

theorem State.notify_notices_append (s : State) (n : Notice) : ∃ more, (s.notify n).notices = s.notices ++ more := by
  obtain ⟨-, he⟩ | ⟨-, he⟩ := s.queueNotice_cases n .owner
  · exact ⟨_, by rw [State.notify, he]⟩
  · exact ⟨[], by rw [State.notify, he, List.append_nil]⟩

/-- A join only adds notices. -/
theorem State.joinMakeup_notices_append (s : State) (e : MakeupEntry) :
    ∃ more, (s.joinMakeup e).2.notices = s.notices ++ more := by
  have hafter : ∀ u : State, ∃ more, u.afterJoin.notices = u.notices ++ more := fun u => by
    have hcause : ∃ more, (if decide (Config.makeupHigh ≤ u.makeups.length) && !u.batch then u.giveCause .makeups
        else u).notices = u.notices ++ more := by
      split
      · exact u.giveCause_notices_append _
      · exact ⟨[], (List.append_nil _).symm⟩
    obtain ⟨more, hmore⟩ := hcause
    unfold State.afterJoin
    dsimp only
    split
    · obtain ⟨last, hlast⟩ := State.notify_notices_append
        (if decide (Config.makeupHigh ≤ u.makeups.length) && !u.batch then u.giveCause .makeups else u)
        (.makeupHigh u.makeups.length
          (if decide (Config.makeupHigh ≤ u.makeups.length) && !u.batch then u.giveCause .makeups else u).batch)
      exact ⟨more ++ last, by rw [hlast, hmore, List.append_assoc]⟩
    · exact ⟨more, hmore⟩
  have hbatch : ∀ u : State, u.batchAtJoin.notices = u.notices := fun u => by
    unfold State.batchAtJoin
    split <;> rfl
  obtain ⟨-, he⟩ | ⟨-, -, he⟩ | ⟨-, -, he⟩ := s.joinMakeup_cases e <;> rw [he]
  · exact ⟨[], (List.append_nil _).symm⟩
  · exact ⟨[], (List.append_nil _).symm⟩
  · obtain ⟨more, hmore⟩ := hafter { s with makeups := insertEntry e s.makeups }
    exact ⟨more, (hbatch _).trans hmore⟩

/-- R19: what a force-retire does, its slot apart. -/
theorem State.forceRetire_spec {s : State} {p : Ply} {slot : Slot} {rest : List Slot} (hs : s.slots = slot :: rest) :
    let t := s.forceRetire p
    t.ply p = { s.ply p with
      capture := some (recordCapture (s.ply p).capture (s.retireReport p slot))
      head := { (s.ply p).head with
        inhibit := (s.ply p).head.inhibit || (s.ply p).record.inhibitSet.has .alignment } }
    ∧ (∀ q, q ≠ p → t.ply q = s.ply q)
    ∧ t.marriageSlot = s.marriageSlot + 1
    ∧ t.tallies = s.tallies.retireVoid
    ∧ (s.notices.length < 48 → ∃ more, t.notices = s.notices
      ++ ⟨.plyFault p (s.retireReport p slot) (decide ((s.ply p).capture = none))
        ((s.ply p).record.inhibitSet.has .alignment), .owner⟩ :: more)
    ∧ (∀ b, slot.disp = .bound b none → t.makeups = joinEntry s.makeups ⟨b.value, b.segment, b.pass, none⟩)
    ∧ ((∀ b, slot.disp ≠ .bound b none) → t.makeups = s.makeups) := by
  intro t
  have hjoined := State.forceRetire_joined (p := p) hs
  have hplies : t.plies = (s.retiredBy p slot).plies := (congrArg State.plies hjoined.rest :)
  obtain ⟨hself, hothers, hmakeups, htallies, hmarriage⟩ := s.retiredBy_only p slot
  refine ⟨?_, fun q hq => ?_, hjoined.marriageSlot.trans hmarriage, hjoined.tallies.trans htallies, fun hroom => ?_,
    fun b hd => ?_, fun hd => ?_⟩
  · rw [State.ply, hplies]; exact hself
  · rw [State.ply, hplies]; exact hothers q hq
  · obtain ⟨more, hmore⟩ := State.raiseFault_notices (s := s.retireSlot) (by simpa using hroom) p (s.retireReport p slot)
    have hretired : (s.retiredBy p slot).notices = s.notices
        ++ ⟨.plyFault p (s.retireReport p slot) (decide ((s.ply p).capture = none))
          ((s.ply p).record.inhibitSet.has .alignment), .owner⟩ :: more := by
      have hply : s.retireSlot.ply p = s.ply p := by simp [State.ply]
      rw [hply, State.retireSlot_notices] at hmore
      exact hmore
    by_cases h : ∃ b, slot.disp = .bound b none
    · obtain ⟨b, hd⟩ := h
      obtain ⟨last, hlast⟩ := (s.retiredBy p slot).joinMakeup_notices_append ⟨b.value, b.segment, b.pass, none⟩
      exact ⟨more ++ last, (congrArg State.notices (State.forceRetire_of_owed hs hd)).trans
        (by rw [hlast, hretired, List.append_assoc, List.cons_append])⟩
    · exact ⟨more, (congrArg State.notices (State.forceRetire_of_not hs fun b hd => h ⟨b, hd⟩)).trans hretired⟩
  · have heq : t = _ := State.forceRetire_of_owed hs hd
    rw [heq, State.joinMakeup_makeups, hmakeups]
  · have heq : t = _ := State.forceRetire_of_not hs hd
    rw [heq, hmakeups]

/-! ### Mark supervision (R64, R65) -/

/-- R60 step 1: the unit after mark supervision. -/
def PositionUnit.superviseMark (u : PositionUnit) : PositionUnit :=
  { u with registration := u.registration.supervised u.markTaken, markTaken := false }

theorem State.superviseMark_of_not_coast {s : State} {p : Ply} (h : (s.ply p).unit.registration ≠ .coast) :
    s.superviseMark p = s.modUnit p PositionUnit.superviseMark := if_neg h

theorem State.superviseMark_of_coast {s : State} {p : Ply} (h : (s.ply p).unit.registration = .coast) :
    s.superviseMark p = (s.modUnit p PositionUnit.superviseMark).raiseFault p
      { kind := .markLoss, index := (s.ply p).unit.headSlot, position := 0, cause := none, retired := none } := if_pos h

/-- What mark supervision leaves, with the fault of a ply that enters LOST. -/
theorem State.superviseMark_spec (s : State) (p : Ply) : ∃ c inh, (s.superviseMark p).ply p = { s.ply p with
      unit := (s.ply p).unit.superviseMark, capture := c, head := { (s.ply p).head with inhibit := inh } }
    ∧ ((s.ply p).unit.registration = .coast → c = some (recordCapture (s.ply p).capture
      { kind := .markLoss, index := (s.ply p).unit.headSlot, position := 0, cause := none, retired := none }))
    ∧ ((s.ply p).unit.registration ≠ .coast → c = (s.ply p).capture)
    ∧ (∀ q, q ≠ p → (s.superviseMark p).ply q = s.ply q)
    ∧ (s.superviseMark p).slots = s.slots ∧ (s.superviseMark p).marriageSlot = s.marriageSlot := by
  have hself : (s.modUnit p PositionUnit.superviseMark).ply p
      = { s.ply p with unit := (s.ply p).unit.superviseMark } := by
    rw [State.modUnit, State.ply_modPly, if_pos rfl]
  have hother : ∀ q, q ≠ p → (s.modUnit p PositionUnit.superviseMark).ply q = s.ply q := fun q hq => by
    rw [State.modUnit, State.ply_modPly, if_neg hq]
  by_cases h : (s.ply p).unit.registration = .coast
  · rw [State.superviseMark_of_coast h, State.ply_raiseFault_self, hself]
    exact ⟨_, _, rfl, fun _ => rfl, fun hno => absurd h hno,
      fun q hq => (State.ply_raiseFault_ne _ _ hq).trans (hother q hq), State.raiseFault_slots .., by
        rw [State.raiseFault_marriageSlot]; rfl⟩
  · rw [State.superviseMark_of_not_coast h, hself]
    exact ⟨_, _, rfl, fun hyes => absurd hyes h, fun _ => rfl, hother, rfl, rfl⟩

end Sys2Proof.Machine


namespace Sys2Proof.Machine

/-! ### The form just ended (R88 steps 1 and 2) -/

/-- R88 step 1: a form still PENDING closed as MISSED, with its spoil. -/
def State.missForm (s : State) (p : Ply) (ended : Nat) : State :=
  ((s.modHead p HeadController.dropUnfired).modSub ended p fun r => { r with print := .missed }).takeSpoil ended ⟨.miss, p⟩

/-- R88 steps 1 and 2: the form just ended left behind. -/
def State.leaveForm (s : State) (p : Ply) (ended : Nat) : State := (s.closeEnded p ended).awaitEnded p ended

section Ended

variable {s : State} {p : Ply} {ended : Nat}

theorem State.closeEnded_of_pending {slot : Slot} {b : Binding} {m : Option SpoilMark} {r : SubRecord}
    (hslot : s.slotAt ended = some slot) (hd : slot.disp = .bound b m) (hr : slot.subs.get p = some r)
    (hpending : r.print = .pending) : s.closeEnded p ended = s.missForm p ended := by
  simp only [State.closeEnded, State.boundAt_of_bound hslot hd, hr, hpending, if_true]
  rfl

theorem State.boundAt_eq_some {j : Nat} {slot : Slot} {b : Binding} (h : s.boundAt j = some (slot, b)) :
    s.slotAt j = some slot ∧ ∃ m, slot.disp = .bound b m := by
  unfold State.boundAt at h
  cases hslot : s.slotAt j with
  | none => rw [hslot] at h; cases h
  | some x =>
    rw [hslot] at h
    cases hd : x.disp with
    | bound c m =>
      simp only [hd, Option.some.injEq, Prod.mk.injEq] at h
      obtain ⟨rfl, rfl⟩ := h
      exact ⟨rfl, m, hd⟩
    | opened => simp [hd] at h
    | skip => simp [hd] at h
    | void c r => simp [hd] at h

theorem State.closeEnded_of_settled (h : ∀ slot b m r, s.slotAt ended = some slot → slot.disp = .bound b m →
    slot.subs.get p = some r → r.print ≠ .pending) : s.closeEnded p ended = s := by
  unfold State.closeEnded
  split
  · rfl
  · obtain ⟨hslot, m, hd⟩ := State.boundAt_eq_some ‹_›
    split
    · rfl
    · exact if_neg (h _ _ m _ hslot hd ‹_›)

theorem State.closeEnded_cases (s : State) (p : Ply) (ended : Nat) :
    s.closeEnded p ended = s ∨ s.closeEnded p ended = s.missForm p ended := by
  by_cases h : ∀ slot b m r, s.slotAt ended = some slot → slot.disp = .bound b m → slot.subs.get p = some r →
      r.print ≠ .pending
  · exact .inl (State.closeEnded_of_settled h)
  · push Not at h
    obtain ⟨slot, b, m, r, hslot, hd, hr, hpending⟩ := h
    exact .inr (State.closeEnded_of_pending hslot hd hr hpending)

end Ended

/-- What the form just ended takes with it: the positions, run values and captures stay, and no slot at or below
an active head becomes OPEN. -/
structure State.FormLeft (p : Ply) (s t : State) : Prop where
  marriageSlot : t.marriageSlot = s.marriageSlot
  length : t.slots.length = s.slots.length
  unit : ∀ q, (t.ply q).unit = (s.ply q).unit
  run : ∀ q, (t.ply q).run = (s.ply q).run
  capture : ∀ q, (t.ply q).capture = (s.ply q).capture
  record : ∀ q, (t.ply q).record = (s.ply q).record
  head : (s.ply p).head.Worked (t.ply p).head
  becomes : ∀ above i, (s.aboveHeads i = true → above) → State.Becomes above i s t

namespace State.FormLeft

variable {p : Ply} {s t u : State}

theorem refl (s : State) : FormLeft p s s where
  marriageSlot := rfl
  length := rfl
  unit _ := rfl
  run _ := rfl
  capture _ := rfl
  record _ := rfl
  head := .refl _
  becomes _ _ _ := .refl s

theorem heads (h : FormLeft p s t) (i : Nat) : t.aboveHeads i = s.aboveHeads i := by
  rw [Bool.eq_iff_iff, State.aboveHeads_iff, State.aboveHeads_iff]
  exact forall_congr' fun q => by rw [State.active, State.active, h.record, h.unit]

theorem trans (h : FormLeft p s t) (k : FormLeft p t u) : FormLeft p s u where
  marriageSlot := k.marriageSlot.trans h.marriageSlot
  length := k.length.trans h.length
  unit q := (k.unit q).trans (h.unit q)
  run q := (k.run q).trans (h.run q)
  capture q := (k.capture q).trans (h.capture q)
  record q := (k.record q).trans (h.record q)
  head := h.head.trans k.head
  becomes above i habove := (h.becomes above i habove).trans (k.becomes above i (by rwa [h.heads]))

theorem modHead (s : State) {f : HeadController → HeadController} (hf : (s.ply p).head.Worked (f (s.ply p).head)) :
    FormLeft p s (s.modHead p f) where
  marriageSlot := rfl
  length := rfl
  unit := (HeadWork.modHead s hf).unit
  run := (HeadWork.modHead s hf).run
  capture := (HeadWork.modHead s hf).capture
  record q := by rw [State.modHead, State.ply_modPly]; split <;> simp_all
  head := (HeadWork.modHead s hf).head
  becomes _ _ _ := .of_slotAt rfl

theorem modSub (s : State) (j : Nat) (q : Ply) (f : SubRecord → SubRecord) : FormLeft p s (s.modSub j q f) where
  marriageSlot := State.modSlot_marriageSlot ..
  length := State.slots_modSlot_length ..
  unit _ := by simp [State.modSub, State.ply]
  run _ := by simp [State.modSub, State.ply]
  capture _ := by simp [State.modSub, State.ply]
  record _ := by simp [State.modSub, State.ply]
  head := by simpa [State.modSub, State.ply] using HeadController.Worked.refl (s.ply p).head
  becomes _ _ _ := .modSub s j q f

theorem takeSpoil (s : State) (j : Nat) (mark : SpoilMark) : FormLeft p s (s.takeSpoil j mark) where
  marriageSlot := (s.takeSpoil_frame j mark).marriageSlot
  length := (s.takeSpoil_frame j mark).length
  unit q := by rw [(s.takeSpoil_frame j mark).ply]
  run q := by rw [(s.takeSpoil_frame j mark).ply]
  capture q := by rw [(s.takeSpoil_frame j mark).ply]
  record q := by rw [(s.takeSpoil_frame j mark).ply]
  head := by
    obtain ⟨hqueue, hload⟩ := s.lessened_takeSpoil j mark p
    rw [(s.takeSpoil_frame j mark).ply]
    exact { HeadController.Worked.refl (s.ply p).head with queue := fun x hx => ⟨x, hqueue x hx, rfl⟩, load := hload }
  becomes _ _ habove := .takeSpoil s j mark fun _ => habove

theorem leaveForm (s : State) (p : Ply) (ended : Nat) : FormLeft p s (s.leaveForm p ended) := by
  have hclosed : FormLeft p s (s.closeEnded p ended) := by
    obtain he | he := s.closeEnded_cases p ended <;> rw [he]
    · exact .refl s
    · exact ((modHead s (.dropUnfired _)).trans (modSub _ _ _ _)).trans (takeSpoil _ _ _)
  refine hclosed.trans ?_
  unfold State.leaveForm State.awaitEnded
  split
  · exact .refl _
  · exact modSub _ _ _ _

end State.FormLeft

theorem State.SameVerify.sub {s t : State} (h : s.SameVerify t) {j : Nat} {p : Ply} {r : SubRecord}
    (hr : s.subAt j p = some r) : ∃ k, t.subAt j p = some k ∧ k.verify = r.verify := by
  obtain ⟨x, hx, hxr⟩ := Option.bind_eq_some_iff.mp hr
  have hkept := h.verify j p
  rw [hx, Option.map_some, Slot.verifyOf, hxr, Option.map_some] at hkept
  obtain ⟨y, hy, hyr⟩ := Option.map_eq_some_iff.mp hkept
  obtain ⟨k, hk, hkr⟩ := Option.map_eq_some_iff.mp hyr
  exact ⟨k, by rw [State.subAt, hy, Option.bind_some, hk], hkr⟩

/-- R8, R106: the verify state of the form just ended. -/
theorem State.verify_leaveForm (s : State) (p : Ply) (ended : Nat) {r : SubRecord} (h : s.subAt ended p = some r) :
    ((s.leaveForm p ended).subAt ended p).map (·.verify)
      = some (if (s.ply p).record.readerDistance ≠ 0 ∧ r.verify = .notDue then .await else r.verify) := by
  have hsame : s.SameVerify (s.closeEnded p ended) := by
    obtain he | he := s.closeEnded_cases p ended <;> rw [he]
    · exact .refl s
    · have hdropped : s.SameVerify (s.modHead p HeadController.dropUnfired) := .of_slots rfl rfl
      exact (hdropped.trans (.modSub _ ended p (f := fun r => { r with print := .missed }) fun _ => rfl)).trans (.takeSpoil _ _ _)
  have hrecord : ((s.closeEnded p ended).ply p).record = (s.ply p).record :=
    (PressAct.closeEnded s p ended).setup.record p
  obtain ⟨k, hk, hverify⟩ := hsame.sub h
  rw [State.leaveForm, State.awaitEnded, hrecord, ← hverify]
  by_cases hreader : (s.ply p).record.readerDistance = 0
  · rw [if_pos hreader, if_neg fun ⟨hno, _⟩ => hno hreader, hk, Option.map_some]
  · obtain ⟨y, hy, hyk⟩ := Option.bind_eq_some_iff.mp hk
    have hself : ((s.closeEnded p ended).modSub ended p SubRecord.leaveHead).subAt ended p = some k.leaveHead := by
      rw [State.subAt, State.modSub, State.slotAt_modSlot_self hy, Option.bind_some, Slot.subs_modSub, if_pos rfl, hyk,
        Option.map_some]
    rw [if_neg hreader, hself, Option.map_some]
    by_cases hdue : k.verify = .notDue
    · rw [if_pos ⟨hreader, hdue⟩, SubRecord.leaveHead, if_pos hdue]
    · rw [if_neg fun ⟨_, hyes⟩ => hdue hyes, SubRecord.leaveHead, if_neg hdue]

/-- R88 step 1: a BOUND form still PENDING is MISSED, and spoiled. -/
theorem State.spoiled_leaveForm {s : State} {p : Ply} {ended : Nat} {slot : Slot} {b : Binding} {r : SubRecord}
    (hslot : s.slotAt ended = some slot) (hd : slot.disp = .bound b none) (hr : slot.subs.get p = some r)
    (hpending : r.print = .pending) :
    ((s.leaveForm p ended).slotAt ended).map (·.disp) = some (s.spoiled b ⟨.miss, p⟩)
    ∧ ((s.leaveForm p ended).subAt ended p).map (·.print) = some .missed := by
  have hform : (s.modHead p HeadController.dropUnfired).FormOf ended p b ⟨.miss, p⟩ slot r := ⟨hslot, hr, .inl hd⟩
  obtain ⟨y, k, hy, hyd, -, -, -, -, hprint⟩ := (hform.modSub fun r => { r with print := .missed }).takeSpoil
  have hpolicy : ((s.modHead p HeadController.dropUnfired).modSub ended p fun r => { r with print := .missed }).policy
      = s.policy := State.modSub_policy ..
  rw [State.leaveForm, State.closeEnded_of_pending hslot hd hr hpending]
  have hmissed : (s.missForm p ended).FormOf ended p b ⟨.miss, p⟩ y k := hy
  have hydisp : y.disp = s.spoiled b ⟨.miss, p⟩ := by rw [hyd, State.spoiled, State.spoiled, hpolicy]
  have hkprint : k.print = .missed := hprint (by simp)
  generalize s.missForm p ended = w at *
  unfold State.awaitEnded
  split
  · rw [hmissed.slot, hmissed.subAt, Option.map_some, Option.map_some, hydisp, hkprint]
    exact ⟨rfl, rfl⟩
  · have hawait := hmissed.modSub SubRecord.leaveHead
    rw [hawait.slot, hawait.subAt, Option.map_some, Option.map_some]
    exact ⟨congrArg some hydisp, congrArg some hkprint⟩

/-! ### The form begun (R88 steps 3 to 6) -/

/-- R88 steps 3 to 5: what the head passes, and the trim it adopts. -/
def State.passForm (s : State) (p : Ply) (begun : Nat) : State :=
  (s.modHead p fun h => h.passTo begun).modPly p PlyState.adoptTrim

/-- R88 step 6: the new plan. -/
def State.planForm (s : State) (p : Ply) : State :=
  s.modHead p fun h => { h with plan := s.newPlan p, deferred := [] }

theorem State.headBoundary_eq (s : State) (p : Ply) (ended begun : Nat) : s.headBoundary p ended begun
    = (((s.leaveForm p ended).passForm p begun).planForm p).reachPhase p 0 := rfl

/-- A ply past its boundary, before its new plan. -/
def PlyState.passed (ps : PlyState) (begun : Nat) : PlyState :=
  { ps with
    run := ps.run.map fun v => { v with trim := ps.head.pendingTrim.getD v.trim }
    head := { ps.head.passTo begun with pendingTrim := none } }

theorem PlyState.adoptTrim_passTo (ps : PlyState) (begun : Nat) :
    { ps with head := ps.head.passTo begun }.adoptTrim = ps.passed begun := by
  unfold PlyState.adoptTrim PlyState.passed HeadController.passTo
  cases ps with
  | mk record run unit head checker capture =>
    cases head with
    | mk queue load plan deferred guardCount pendingTrim inhibit =>
      cases pendingTrim <;> cases run <;> rfl

theorem State.ply_passForm (s : State) (p : Ply) (begun : Nat) (q : Ply) :
    (s.passForm p begun).ply q = if q = p then (s.ply p).passed begun else s.ply q := by
  rw [State.passForm, State.modHead, State.ply_modPly, State.ply_modPly, State.ply_modPly, if_pos rfl]
  split
  · exact (s.ply p).adoptTrim_passTo begun
  · rfl

theorem State.ply_planForm (s : State) (p q : Ply) : (s.planForm p).ply q =
    if q = p then { s.ply p with head := { (s.ply p).head with plan := s.newPlan p, deferred := [] } }
    else s.ply q := by
  rw [State.planForm, State.modHead, State.ply_modPly]

end Sys2Proof.Machine


namespace Sys2Proof.Machine

/-- R88: the Head Controller with the new form under its head, before the impressions at phase 0 fall due. -/
def State.beginForm (s : State) (p : Ply) (ended begun : Nat) : State :=
  ((s.leaveForm p ended).passForm p begun).planForm p

theorem HeadController.Worked.phases {h k : HeadController} (hk : h.Worked k) :
    k.plan.map (·.phase) = h.plan.map (·.phase) := by
  have hplan := hk.plan
  generalize h.plan = l, k.plan = m at hplan
  induction hplan with
  | nil => rfl
  | cons hi _ ih => rw [List.map_cons, List.map_cons, ih, hi.2.1]

section Begun

variable {s : State} {p : Ply} {ended begun : Nat}

theorem State.headBoundary_reach : s.headBoundary p ended begun = (s.beginForm p ended begun).reachPhase p 0 := rfl

theorem State.window_beginForm : (s.beginForm p ended begun).marriageSlot = (s.leaveForm p ended).marriageSlot
    ∧ (s.beginForm p ended begun).slots = (s.leaveForm p ended).slots := by
  have hkept : ∀ u : State, ((u.passForm p begun).planForm p).marriageSlot = u.marriageSlot
      ∧ ((u.passForm p begun).planForm p).slots = u.slots := fun u => ⟨rfl, rfl⟩
  exact hkept _

theorem State.slotAt_beginForm (i : Nat) : (s.beginForm p ended begun).slotAt i = (s.leaveForm p ended).slotAt i :=
  State.slotAt_of_slots State.window_beginForm.2 State.window_beginForm.1 i

theorem State.ply_beginForm : (s.beginForm p ended begun).ply p = { ((s.leaveForm p ended).ply p).passed begun with
    head := { (((s.leaveForm p ended).ply p).passed begun).head with
      plan := ((s.leaveForm p ended).passForm p begun).newPlan p, deferred := [] } } := by
  rw [State.beginForm, State.ply_planForm, if_pos rfl, State.ply_passForm, if_pos rfl]

theorem State.ply_beginForm_ne {q : Ply} (h : q ≠ p) :
    (s.beginForm p ended begun).ply q = (s.leaveForm p ended).ply q := by
  rw [State.beginForm, State.ply_planForm, if_neg h, State.ply_passForm, if_neg h]

theorem State.unit_beginForm (q : Ply) : ((s.beginForm p ended begun).ply q).unit = (s.ply q).unit := by
  rw [← (State.FormLeft.leaveForm s p ended).unit]
  by_cases h : q = p
  · subst h; rw [State.ply_beginForm]; rfl
  · rw [State.ply_beginForm_ne h]

theorem State.capture_beginForm (q : Ply) : ((s.beginForm p ended begun).ply q).capture = (s.ply q).capture := by
  rw [← (State.FormLeft.leaveForm s p ended).capture]
  by_cases h : q = p
  · subst h; rw [State.ply_beginForm]; rfl
  · rw [State.ply_beginForm_ne h]

theorem HeadController.passTo_loaded {h : HeadController} {img : Image} (hl : (h.passTo begun).load = .loaded img) :
    begun ≤ img.slot := by
  cases hload : h.load with
  | empty => simp [HeadController.passTo, hload] at hl
  | loading i => simp [HeadController.passTo, hload] at hl
  | loaded i =>
    simp only [HeadController.passTo, hload] at hl
    split at hl
    · cases hl
    · cases hl; exact Nat.not_lt.mp ‹_›

/-- R88: what the boundary leaves of a ply, whatever the forms. -/
structure State.FormBegun (p : Ply) (begun : Nat) (s t : State) : Prop where
  marriageSlot : t.marriageSlot = s.marriageSlot
  length : t.slots.length = s.slots.length
  unit : ∀ q, (t.ply q).unit = (s.ply q).unit
  capture : ∀ q, (t.ply q).capture = (s.ply q).capture
  run : (t.ply p).run = (s.ply p).run.map fun v => { v with trim := (s.ply p).head.pendingTrim.getD v.trim }
  trim : (t.ply p).head.pendingTrim = none
  queue : ∀ x ∈ (t.ply p).head.queue, begun ≤ x.slot
  loaded : ∀ img, (t.ply p).head.load = .loaded img → begun ≤ img.slot
  loading : ∀ img, (s.ply p).head.load = .loading img → (t.ply p).head.load = .loading img
  plan : (t.ply p).head.plan.Pairwise Impression.Before

theorem State.FormBegun.of_headBoundary (s : State) (p : Ply) (ended begun : Nat) :
    FormBegun p begun s (s.headBoundary p ended begun) := by
  have hleft := State.FormLeft.leaveForm s p ended
  have hwork := State.HeadWork.reachPhase (s.beginForm p ended begun) p 0
  have hhead := hwork.head
  rw [State.ply_beginForm] at hhead
  rw [State.headBoundary_reach]
  obtain ⟨hmarriage, hslots⟩ := State.window_beginForm (s := s) (p := p) (ended := ended) (begun := begun)
  refine ⟨hwork.marriageSlot.trans (hmarriage.trans hleft.marriageSlot),
    hwork.length.trans ((congrArg List.length hslots).trans hleft.length),
    fun q => (hwork.unit q).trans (State.unit_beginForm q), fun q => (hwork.capture q).trans (State.capture_beginForm q),
    ?_, hhead.trim, fun x hx => ?_, fun img hl => ?_, fun img hl => ?_, ?_⟩
  · rw [hwork.run, State.ply_beginForm, ← hleft.run, ← hleft.head.trim]
    rfl
  · obtain ⟨y, hy, hyx⟩ := hhead.queue x hx
    rw [← hyx]
    exact of_decide_eq_true (List.mem_filter.mp hy).2
  · obtain hsame | ⟨-, hempty⟩ := hhead.load
    · exact HeadController.passTo_loaded (hsame.symm.trans hl)
    · rw [hempty] at hl; cases hl
  · have hkept : ((s.leaveForm p ended).ply p).head.load = .loading img := by
      obtain hsame | ⟨⟨i, hloaded⟩, -⟩ := hleft.head.load
      · exact hsame.trans hl
      · rw [hl] at hloaded; cases hloaded
    have hpassed : (((s.leaveForm p ended).ply p).passed begun).head.load = .loading img := by
      simp only [PlyState.passed, HeadController.passTo, hkept]
    obtain hsame | ⟨⟨i, hloaded⟩, -⟩ := hhead.load
    · exact hsame.trans hpassed
    · exact absurd (hpassed.symm.trans hloaded) (by simp)
  · exact Impression.Later.pairwise hhead.plan (State.newPlan_pairwise _ p)

variable (hhead : (s.ply p).unit.headSlot = begun)
include hhead

/-- The slots below the new head slot are as the form just ended left them. -/
theorem State.slotAt_headBoundary_below {i : Nat} (hi : i < begun) :
    (s.headBoundary p ended begun).slotAt i = (s.leaveForm p ended).slotAt i := by
  have hbelow := (State.HeadWork.reachPhase (s.beginForm p ended begun) p 0).below i
    (by rw [State.unit_beginForm, hhead]; exact hi)
  rw [State.headBoundary_reach, hbelow, State.slotAt_beginForm]

theorem State.becomes_headBoundary {above : Prop} {i : Nat} (habove : s.aboveHeads i = true → above)
    (hi : begun < i → above) : State.Becomes above i s (s.headBoundary p ended begun) := by
  refine ((State.FormLeft.leaveForm s p ended).becomes above i habove).trans ?_
  refine (State.Becomes.of_slotAt (State.slotAt_beginForm (begun := begun) i)).trans ?_
  exact .fallDueAll _ (by rw [State.unit_beginForm, hhead]; exact hi)

/-- R81: no impression is planned for a form that was not BOUND as the head slot was taken. -/
theorem State.plan_headBoundary_of_unbound (h : ∀ x b m, s.slotAt begun = some x → x.disp ≠ .bound b m) :
    ((s.beginForm p ended begun).ply p).head.plan = [] := by
  have hleft := (State.FormLeft.leaveForm s p ended).becomes True begun fun _ => trivial
  have hunbound : ((s.leaveForm p ended).passForm p begun).boundAt begun = none := by
    cases hb : ((s.leaveForm p ended).passForm p begun).boundAt begun with
    | none => rfl
    | some y =>
      obtain ⟨hslot, m, hd⟩ := State.boundAt_eq_some (slot := y.1) (b := y.2) hb
      exact absurd hd (hleft.not_bound h y.1 y.2 m hslot)
  rw [State.ply_beginForm]
  refine State.newPlan_of_unbound ?_
  rw [State.ply_passForm, if_pos rfl]
  have hunit : (((s.leaveForm p ended).ply p).passed begun).unit.headSlot = begun :=
    (congrArg PositionUnit.headSlot ((State.FormLeft.leaveForm s p ended).unit p)).trans hhead
  rw [hunit]
  exact hunbound

omit hhead in
/-- R84: with no impression planned for phase 0, none falls due at the boundary. -/
theorem State.headBoundary_of_later (h : ∀ i ∈ ((s.headBoundary p ended begun).ply p).head.plan, 0 < i.phase) :
    s.headBoundary p ended begun = s.beginForm p ended begun := by
  have hphases := (State.HeadWork.reachPhase (s.beginForm p ended begun) p 0).head.phases
  rw [State.headBoundary_reach] at h ⊢
  refine State.reachPhase_of_none fun i hi _ => ?_
  have hmem : i.phase ∈ ((s.beginForm p ended begun).ply p).head.plan.map (·.phase) := List.mem_map.mpr ⟨i, hi, rfl⟩
  rw [← hphases] at hmem
  obtain ⟨k, hk, hphase⟩ := List.mem_map.mp hmem
  exact Nat.ne_of_gt (hphase ▸ h k hk)

end Begun

end Sys2Proof.Machine


namespace Sys2Proof.Machine

/-! ### The head slot taken (R60 steps 1 and 2) -/

/-- A ply whose unit has moved on and which may have been captured and inhibited on the way. -/
structure PlyState.Noted (x y : PlyState) : Prop where
  rest : y = { x with unit := y.unit, capture := y.capture, head := { x.head with inhibit := y.head.inhibit } }
  captured : ∀ k, x.capture = some k → ∃ more, y.capture = some { k with more := more }

namespace PlyState.Noted

variable {x y z : PlyState}

theorem refl (x : PlyState) : x.Noted x := ⟨rfl, fun k hk => ⟨k.more, hk⟩⟩

theorem trans (h : x.Noted y) (k : y.Noted z) : x.Noted z := by
  refine ⟨?_, fun c hc => ?_⟩
  · have hz := k.rest
    rw [h.rest] at hz
    exact hz
  · obtain ⟨m, hm⟩ := h.captured c hc
    obtain ⟨n, hn⟩ := k.captured _ hm
    exact ⟨n, hn⟩

theorem of_fault (x : PlyState) (u : PositionUnit) (r : FaultReport) (inhibit : Bool) :
    x.Noted { x with unit := u, capture := some (recordCapture x.capture r), head := { x.head with inhibit := inhibit } } :=
  ⟨rfl, fun k hk => ⟨true, by rw [hk]; rfl⟩⟩

end PlyState.Noted

section Taken

variable (s : State) (p : Ply)

theorem State.noted_superviseMark : (s.ply p).Noted ((s.superviseMark p).ply p)
    ∧ ((s.superviseMark p).ply p).unit = (s.ply p).unit.superviseMark := by
  obtain ⟨c, inh, hply, hcoast, hsteady, -⟩ := s.superviseMark_spec p
  refine ⟨⟨by rw [hply], fun k hk => ?_⟩, by rw [hply]⟩
  rw [hply]
  by_cases h : (s.ply p).unit.registration = .coast
  · exact ⟨true, by rw [hcoast h, hk]; rfl⟩
  · exact ⟨k.more, by rw [hsteady h, hk]⟩

theorem State.noted_takeHeadSlot (j : Nat) : (s.ply p).Noted ((s.takeHeadSlot p j).ply p) := by
  have hcreate : ∀ u : State, (u.create j).ply p = u.ply p := fun u => by simp [State.ply]
  have htaken : (s.takeHeadSlot p j).ply p = (s.createForHead p j).ply p := by
    rw [State.takeHeadSlot_eq]; simp [State.ply]
  rw [htaken]
  unfold State.createForHead
  split
  · rw [hcreate]
    cases hs : s.slots with
    | nil =>
      have hsame : s.forceRetire p = s := by rw [State.forceRetire, hs]
      rw [hsame]
      exact .refl _
    | cons slot rest =>
      obtain ⟨hply, -⟩ := State.forceRetire_spec (p := p) hs
      rw [hply]
      exact .of_fault _ _ _ _
  · rw [hcreate]
    exact .refl _

/-- R60 step 2: the head slot raised. -/
theorem State.raiseHeadSlot_of_lt (h : (s.ply p).unit.headSlot < 4294967295) : s.raiseHeadSlot p =
    (s.modUnit p fun u => { u with headSlot := (s.ply p).unit.headSlot + 1 }).takeHeadSlot p
      ((s.ply p).unit.headSlot + 1) := if_pos h

theorem State.raiseHeadSlot_of_max (h : ¬ (s.ply p).unit.headSlot < 4294967295) : s.raiseHeadSlot p =
    s.raiseFault p { kind := .alignment, index := Config.maxSetIndex, position := 0, cause := none, retired := none } :=
  if_neg h

/-- R60 steps 1 and 2: the state as the new form comes under the head. -/
def State.atBoundary : State := ((s.advancedTo p 0).superviseMark p).raiseHeadSlot p

/-- The state before the head slot is taken. -/
def State.beforeTaking : State := ((s.advancedTo p 0).superviseMark p).modUnit p fun u =>
  { u with headSlot := (s.ply p).unit.headSlot + 1 }

theorem State.forwardCount_boundary (howed : (s.ply p).unit.owed = 0) (hends : s.cutoff ≤ (s.ply p).unit.position + 1) :
    s.forwardCount p = ((s.atBoundary p).headBoundary p (s.ply p).unit.headSlot
      ((s.atBoundary p).ply p).unit.headSlot).askSlot p := by
  have hheadSlot : ((s.advancedTo p 0).ply p).unit.headSlot = (s.ply p).unit.headSlot := by
    rw [(s.advancedTo_moved p 0).unit]
  rw [State.forwardCount, if_neg (by omega), State.forwardAdvance_eq, if_pos hends, ← hheadSlot]
  rfl

/-- What stays of a ply as its form ends and the new one comes under its head. -/
structure State.Arrived (c : State) : Prop where
  run : (c.ply p).run = (s.ply p).run
  trim : (c.ply p).head.pendingTrim = (s.ply p).head.pendingTrim
  load : ∀ img, (s.ply p).head.load = .loading img → (c.ply p).head.load = .loading img
  captured : ∀ k, (s.ply p).capture = some k → ∃ more, (c.ply p).capture = some { k with more := more }
  quiet : (s.ply p).head.guardCount ≠ 1 → (c.ply p).head.queue = (s.ply p).head.queue

theorem State.Arrived.of_noted {s : State} {p : Ply} {c : State} (h : ((s.advancedTo p 0).ply p).Noted (c.ply p)) :
    s.Arrived p c := by
  have hmoved := s.advancedTo_moved p 0
  have hrest := h.rest
  refine ⟨?_, ?_, fun img hl => ?_, fun k hk => h.captured k (hmoved.capture.trans hk), fun hguard => ?_⟩
  · rw [hrest]; exact hmoved.run
  · rw [hrest]; exact hmoved.trim
  · rw [hrest]
    obtain hsame | ⟨⟨i, hloaded⟩, -⟩ := hmoved.load
    · exact hsame.trans hl
    · rw [hl] at hloaded; cases hloaded
  · rw [hrest, hmoved.quiet hguard, State.ply_modPly, if_pos rfl]
    rfl

end Taken

section Below

variable {s : State} {p : Ply} (hnext : (s.ply p).unit.headSlot < 4294967295)
include hnext

theorem State.atBoundary_eq : s.atBoundary p = (s.beforeTaking p).takeHeadSlot p ((s.ply p).unit.headSlot + 1) := by
  have hheadSlot : (((s.advancedTo p 0).superviseMark p).ply p).unit.headSlot = (s.ply p).unit.headSlot := by
    rw [(State.noted_superviseMark _ p).2]
    show ((s.advancedTo p 0).ply p).unit.headSlot = _
    rw [(s.advancedTo_moved p 0).unit]
  rw [State.atBoundary, State.raiseHeadSlot_of_lt _ p (by rw [hheadSlot]; exact hnext), hheadSlot, State.beforeTaking]

omit hnext in
theorem State.ply_beforeTaking : (s.beforeTaking p).ply p = { ((s.advancedTo p 0).superviseMark p).ply p with
    unit := { (((s.advancedTo p 0).superviseMark p).ply p).unit with headSlot := (s.ply p).unit.headSlot + 1 } } := by
  rw [State.beforeTaking, State.modUnit, State.ply_modPly, if_pos rfl]

omit hnext in
theorem State.noted_beforeTaking : ((s.advancedTo p 0).ply p).Noted ((s.beforeTaking p).ply p) := by
  refine (State.noted_superviseMark _ p).1.trans ?_
  rw [State.ply_beforeTaking]
  exact ⟨rfl, fun k hk => ⟨k.more, hk⟩⟩

theorem State.arrived_atBoundary : s.Arrived p (s.atBoundary p) := by
  rw [State.atBoundary_eq hnext]
  exact .of_noted (State.noted_beforeTaking.trans (State.noted_takeHeadSlot _ p _))

theorem State.unit_atBoundary : ((s.atBoundary p).ply p).unit =
    { (s.ply p).unit.superviseMark with position := 0, headSlot := (s.ply p).unit.headSlot + 1 } := by
  rw [State.atBoundary_eq hnext, State.unit_takeHeadSlot, State.ply_beforeTaking]
  dsimp only
  rw [(State.noted_superviseMark _ p).2, (s.advancedTo_moved p 0).unit]
  rfl

theorem State.unit_atBoundary_ne {q : Ply} (h : q ≠ p) : ((s.atBoundary p).ply q).unit = (s.ply q).unit := by
  obtain ⟨_, _, -, -, -, hother, -⟩ := (s.advancedTo p 0).superviseMark_spec p
  rw [State.atBoundary_eq hnext, State.unit_takeHeadSlot, State.beforeTaking, State.modUnit, State.ply_modPly, if_neg h,
    hother q h, (s.advancedTo_moved p 0).others q h]

omit hnext in
theorem State.slotAt_beforeTaking (i : Nat) : (s.beforeTaking p).slotAt i = (s.advancedTo p 0).slotAt i := by
  obtain ⟨_, _, -, -, -, -, hslots, hmarriage⟩ := (s.advancedTo p 0).superviseMark_spec p
  exact State.slotAt_of_slots hslots hmarriage i

omit hnext in
theorem State.window_beforeTaking : (s.beforeTaking p).marriageSlot = s.marriageSlot
    ∧ (s.beforeTaking p).windowEnd = s.windowEnd := by
  obtain ⟨_, _, -, -, -, -, hslots, hmarriage⟩ := (s.advancedTo p 0).superviseMark_spec p
  have hverify := (s.advancedTo_moved p 0).verify
  have hm : (s.beforeTaking p).marriageSlot = s.marriageSlot := hmarriage.trans hverify.marriageSlot
  have hl : (s.beforeTaking p).slots.length = s.slots.length := (congrArg List.length hslots).trans hverify.length
  exact ⟨hm, by rw [State.windowEnd, State.windowEnd, hm, hl]⟩

omit hnext in
theorem State.press_beforeTaking (s : State) {p : Ply} : PressKeeps s (s.beforeTaking p) := by
  have hadvanced : PressAct s (s.advancedTo p 0) := .advancedTo fun ⟨hx, _⟩ => by omega
  have hmark := hadvanced.trans (.superviseMark _ p)
  exact hmark.toPressKeeps.trans (.modUnit id)

/-- R18: a slot neither OPEN nor SKIP as the head slot is taken was held before. -/
theorem State.slotAt_of_atBoundary {i : Nat} {x : Slot} (h : (s.atBoundary p).slotAt i = some x)
    (hopened : x.disp ≠ .opened) (hskip : x.disp ≠ .skip) : (s.advancedTo p 0).slotAt i = some x := by
  rw [State.atBoundary_eq hnext] at h
  rw [← State.slotAt_beforeTaking]
  exact State.slotAt_of_takeHeadSlot h hopened hskip

theorem State.atBoundary_not_opened {x : Slot} (h : (s.atBoundary p).slotAt ((s.ply p).unit.headSlot + 1) = some x) :
    x.disp ≠ .opened := by
  rw [State.atBoundary_eq hnext, State.takeHeadSlot_eq] at h
  exact State.slotAt_skipIfOpen h

/-- A new form is BOUND only where its slot was. -/
theorem State.atBoundary_not_bound
    (h : ∀ x b m, s.slotAt ((s.ply p).unit.headSlot + 1) = some x → x.disp ≠ .bound b m) :
    ∀ x b m, (s.atBoundary p).slotAt ((s.ply p).unit.headSlot + 1) = some x → x.disp ≠ .bound b m := by
  intro x b m hx hd
  have hbefore := State.slotAt_of_atBoundary hnext hx (by rw [hd]; simp) (by rw [hd]; simp)
  exact ((s.advancedTo_moved p 0).becomes _ (Nat.lt_succ_self _)).not_bound h x b m hbefore hd

/-- The new head slot is held, or there is no room for it. -/
theorem State.atBoundary_held : (s.ply p).unit.headSlot + 1 < (s.atBoundary p).windowEnd
    ∨ (s.atBoundary p).hasRoom ((s.ply p).unit.headSlot + 1) = false := by
  rw [State.atBoundary_eq hnext]
  generalize s.beforeTaking p = u, (s.ply p).unit.headSlot + 1 = j
  have hcreate : ∀ w : State, j < (w.create j).windowEnd ∨ (w.create j).hasRoom j = false := fun w => by
    cases hroom : w.hasRoom j with
    | true => exact .inl (State.lt_windowEnd_create hroom)
    | false => exact .inr (by rw [State.create_of_no_room hroom]; exact hroom)
  have hwindow : (u.takeHeadSlot p j).windowEnd = (u.createForHead p j).windowEnd := by
    simp [State.takeHeadSlot_eq, State.windowEnd]
  have hroom : (u.takeHeadSlot p j).hasRoom j = (u.createForHead p j).hasRoom j := by
    simp [State.takeHeadSlot_eq, State.hasRoom, State.inRun]
  rw [hwindow, hroom]
  unfold State.createForHead
  split <;> exact hcreate _

/-- R18: with room for the new head slot, the others are as they were. -/
theorem State.slotAt_atBoundary (hrun : s.inRun = true) (hroom : (s.ply p).unit.headSlot + 1 < s.windowEnd
      ∨ (s.ply p).unit.headSlot + 1 < s.marriageSlot + 128) {i : Nat} (hi : i < s.windowEnd)
    (hne : i ≠ (s.ply p).unit.headSlot + 1) : (s.atBoundary p).slotAt i = (s.advancedTo p 0).slotAt i := by
  obtain ⟨hmarriage, hend⟩ := s.window_beforeTaking (p := p)
  have hrun' : (s.beforeTaking p).inRun = true := s.press_beforeTaking.inRun.trans hrun
  rw [State.atBoundary_eq hnext, State.takeHeadSlot_eq, State.slotAt_modSlot_ne _ hne, State.createForHead, if_neg,
    State.slotAt_create _ (by rw [hend]; exact hi), State.slotAt_beforeTaking]
  rw [Bool.and_eq_true, decide_eq_true_eq, Bool.not_eq_true', ← Bool.not_eq_true, State.hasRoom_iff hrun', hend, hmarriage]
  omega

end Below

end Sys2Proof.Machine


namespace Sys2Proof.Machine

/-! ### What a boundary captures and retires -/

section Captures

variable {s : State} {p : Ply}

theorem State.press_atBoundary (hp : s.active p = true) : PressAct s (s.atBoundary p) := by
  have hadvanced : PressAct s (s.advancedTo p 0) := .advancedTo fun ⟨hx, _⟩ => by omega
  have hmark := hadvanced.trans (.superviseMark _ p)
  exact hmark.trans (.raiseHeadSlot (by rwa [hmark.setup.active]))

/-- R65: the capture of a ply that mark supervision takes to LOST, and of one it does not. -/
theorem State.capture_superviseMark : ((s.ply p).unit.registration = .coast →
      (((s.advancedTo p 0).superviseMark p).ply p).capture = some (recordCapture (s.ply p).capture
        { kind := .markLoss, index := (s.ply p).unit.headSlot, position := 0, cause := none, retired := none }))
    ∧ ((s.ply p).unit.registration ≠ .coast →
      (((s.advancedTo p 0).superviseMark p).ply p).capture = (s.ply p).capture) := by
  have hmoved := s.advancedTo_moved p 0
  obtain ⟨c, _, hply, hcoast, hsteady, -⟩ := (s.advancedTo p 0).superviseMark_spec p
  rw [hmoved.unit, hmoved.capture] at hcoast
  rw [hmoved.unit, hmoved.capture] at hsteady
  rw [hply]
  exact ⟨hcoast, hsteady⟩

/-- R60 step 2: what comes after mark supervision adds to the capture at most its more-faults flag. -/
theorem State.noted_atBoundary : (((s.advancedTo p 0).superviseMark p).ply p).Noted ((s.atBoundary p).ply p) := by
  generalize hu : (s.advancedTo p 0).superviseMark p = u
  have hraised : s.atBoundary p = u.raiseHeadSlot p := by rw [State.atBoundary, hu]
  rw [hraised]
  by_cases h : (u.ply p).unit.headSlot < 4294967295
  · rw [State.raiseHeadSlot_of_lt u p h]
    refine .trans ?_ (State.noted_takeHeadSlot _ p _)
    rw [State.modUnit, State.ply_modPly, if_pos rfl]
    exact ⟨rfl, fun k hk => ⟨k.more, hk⟩⟩
  · rw [State.raiseHeadSlot_of_max u p h, State.ply_raiseFault_self]
    exact .of_fault _ _ _ _

theorem State.capture_of_coast (hcoast : (s.ply p).unit.registration = .coast) (hnone : (s.ply p).capture = none) :
    ∃ more, ((s.atBoundary p).ply p).capture = some ⟨.markLoss, (s.ply p).unit.headSlot, 0, more⟩ := by
  obtain ⟨hcaptured, -⟩ := State.capture_superviseMark (s := s) (p := p)
  have hfirst := hcaptured hcoast
  rw [hnone] at hfirst
  exact State.noted_atBoundary.captured _ hfirst

/-- R88: at the largest set index the head slot stays, and ALIGNMENT is raised. -/
theorem State.atBoundary_of_max (hmax : (s.ply p).unit.headSlot = 4294967295) :
    ((s.atBoundary p).ply p).unit = { (s.ply p).unit.superviseMark with position := 0 }
    ∧ (∀ q, q ≠ p → ((s.atBoundary p).ply q).unit = (s.ply q).unit)
    ∧ ((s.ply p).unit.registration ≠ .coast → (s.ply p).capture = none →
      ((s.atBoundary p).ply p).capture = some ⟨.alignment, 4294967295, 0, false⟩)
    ∧ (∀ k, (s.ply p).capture = some k → ((s.atBoundary p).ply p).capture = some { k with more := true }) := by
  have hmoved := s.advancedTo_moved p 0
  obtain ⟨hnoted, hunit⟩ := (s.advancedTo p 0).noted_superviseMark p
  obtain ⟨_, _, -, -, -, hother, -⟩ := (s.advancedTo p 0).superviseMark_spec p
  obtain ⟨-, hsteady⟩ := State.capture_superviseMark (s := s) (p := p)
  generalize hu : (s.advancedTo p 0).superviseMark p = u at *
  have hheadSlot : ¬ (u.ply p).unit.headSlot < 4294967295 := by
    have hkept : (u.ply p).unit.headSlot = ((s.advancedTo p 0).ply p).unit.headSlot := by rw [hunit]; rfl
    rw [hkept, hmoved.unit]
    exact Nat.not_lt.mpr (Nat.le_of_eq hmax.symm)
  have hraised : s.atBoundary p = u.raiseFault p
      { kind := .alignment, index := Config.maxSetIndex, position := 0, cause := none, retired := none } := by
    rw [State.atBoundary, hu, State.raiseHeadSlot_of_max u p hheadSlot]
  rw [hraised]
  refine ⟨?_, fun q hq => ?_, fun hregistered hnone => ?_, fun k hk => ?_⟩
  · rw [State.ply_raiseFault_self]
    dsimp only
    rw [hunit, hmoved.unit]
    rfl
  · rw [State.ply_raiseFault_ne _ _ hq, hother q hq, hmoved.others q hq]
  · rw [State.ply_raiseFault_self, hsteady hregistered, hnone]
    rfl
  · obtain ⟨m, hm⟩ := hnoted.captured k (hmoved.capture.trans hk)
    rw [State.ply_raiseFault_self, hm]
    rfl

/-- R19: what a boundary does that finds the window full. -/
theorem State.atBoundary_full (hrun : s.inRun = true) (hnext : (s.ply p).unit.headSlot < 4294967295)
    (hend : s.windowEnd ≤ (s.ply p).unit.headSlot + 1) (hfull : s.marriageSlot + 128 ≤ (s.ply p).unit.headSlot + 1)
    (hguard : (s.ply p).head.guardCount ≠ 1) (hsteady : (s.ply p).unit.registration ≠ .coast) {slot : Slot}
    {rest : List Slot} (hs : s.slots = slot :: rest) :
    let c := s.atBoundary p
    let r : FaultReport := ⟨.alignment, s.marriageSlot, 0, none, some (slot.disp, slot.touched)⟩
    c.marriageSlot = s.marriageSlot + 1
    ∧ (c.ply p).capture = some (recordCapture (s.ply p).capture r)
    ∧ c.tallies = s.tallies.retireVoid
    ∧ (s.notices.length < 48 → ∃ more, c.notices = s.notices
      ++ ⟨.plyFault p r (decide ((s.ply p).capture = none)) (s.ply p).record.inhibitSet.alignment, .owner⟩ :: more)
    ∧ (∀ b, slot.disp = .bound b none → c.makeups = joinEntry s.makeups ⟨b.value, b.segment, b.pass, none⟩)
    ∧ ((∀ b, slot.disp ≠ .bound b none) → c.makeups = s.makeups) := by
  have hmoved := s.advancedTo_moved p 0
  have hregistered : ((s.advancedTo p 0).ply p).unit.registration ≠ .coast := by rw [hmoved.unit]; exact hsteady
  have hbefore : s.beforeTaking p = ((s.modPly p fun ps => ps.advanced 0).modUnit p PositionUnit.superviseMark).modUnit p
      fun u => { u with headSlot := (s.ply p).unit.headSlot + 1 } := by
    rw [State.beforeTaking, State.superviseMark_of_not_coast hregistered, hmoved.quiet hguard]
  have hply : (s.beforeTaking p).ply p = { (s.ply p).advanced 0 with
      unit := { ((s.ply p).advanced 0).unit.superviseMark with headSlot := (s.ply p).unit.headSlot + 1 } } := by
    rw [hbefore, State.modUnit, State.modUnit, State.ply_modPly, if_pos rfl, State.ply_modPly, if_pos rfl,
      State.ply_modPly, if_pos rfl]
  have hslots : (s.beforeTaking p).slots = s.slots := by rw [hbefore]; rfl
  have hnotices : (s.beforeTaking p).notices = s.notices := by rw [hbefore]; rfl
  have htallies : (s.beforeTaking p).tallies = s.tallies := by rw [hbefore]; rfl
  have hmakeups : (s.beforeTaking p).makeups = s.makeups := by rw [hbefore]; rfl
  obtain ⟨hmarriage, hwindow⟩ := s.window_beforeTaking (p := p)
  have hrun' := (s.press_beforeTaking (p := p)).inRun.trans hrun
  obtain ⟨hself, -, hmarriage', htallies', hnotices', howed, hnone⟩ :=
    State.forceRetire_spec (s := s.beforeTaking p) (p := p) (hslots.trans hs)
  have hreport : (s.beforeTaking p).retireReport p slot
      = ⟨.alignment, s.marriageSlot, 0, none, some (slot.disp, slot.touched)⟩ := by
    rw [State.retireReport, hmarriage, hply]; rfl
  have htaken : s.atBoundary p = (((s.beforeTaking p).forceRetire p).create ((s.ply p).unit.headSlot + 1)).modSlot
      ((s.ply p).unit.headSlot + 1) Slot.skipIfOpen := by
    rw [State.atBoundary_eq hnext, State.takeHeadSlot_eq, State.createForHead, if_pos]
    rw [Bool.and_eq_true, decide_eq_true_eq, Bool.not_eq_true', ← Bool.not_eq_true, State.hasRoom_iff hrun', hwindow,
      hmarriage]
    omega
  rw [hreport] at hself hnotices'
  rw [hply] at hself hnotices'
  intro c r
  have hc : c = _ := htaken
  generalize (s.beforeTaking p).forceRetire p = w at *
  rw [hc]
  refine ⟨?_, ?_, ?_, fun hroom => ?_, fun b hd => ?_, fun hd => ?_⟩
  · simp [hmarriage', hmarriage]
  · have hkept : ((w.create ((s.ply p).unit.headSlot + 1)).modSlot ((s.ply p).unit.headSlot + 1) Slot.skipIfOpen).ply p
        = w.ply p := by simp [State.ply]
    rw [hkept, hself]
    rfl
  · simp [htallies', htallies]
  · obtain ⟨more, hmore⟩ := hnotices' (by rw [hnotices]; exact hroom)
    refine ⟨more, ?_⟩
    simp only [State.modSlot_notices, State.create_notices, hmore, hnotices]
    rfl
  · simp [howed b hd, hmakeups]
  · simp [hnone hd, hmakeups]

end Captures

end Sys2Proof.Machine


namespace Sys2Proof.Machine

/-! ### The need asked again at the boundary's end (R17) -/

section Asked

variable {s : State} {p : Ply}

theorem State.ply_askSlot (q : Ply) : (s.askSlot p).ply q = s.ply q := by simp [State.ply]

theorem State.slotAt_askSlot {i : Nat} (hi : i < s.windowEnd) : (s.askSlot p).slotAt i = s.slotAt i := by
  obtain ⟨n, hn⟩ := s.askSlot_adds p
  exact State.slotAt_of_append (congrArg State.slots hn) (by simp) hi

theorem State.slotAt_of_askSlot {i : Nat} {x : Slot} (h : (s.askSlot p).slotAt i = some x) (hx : x.disp ≠ .opened) :
    s.slotAt i = some x := by
  unfold State.askSlot at h
  split at h
  · exact State.slotAt_of_create h hx
  · exact h

/-- A slot for which there is no room is not created by asking for one above it. -/
theorem State.askSlot_not_opened {i : Nat} (hopened : ∀ x, s.slotAt i = some x → x.disp ≠ .opened)
    (hheld : i < s.windowEnd ∨ s.hasRoom i = false) (hnext : i ≤ (s.ply p).nextNeeded) :
    ∀ x, (s.askSlot p).slotAt i = some x → x.disp ≠ .opened := by
  intro x hx
  by_cases hi : i < s.windowEnd
  · rw [State.slotAt_askSlot hi] at hx
    exact hopened x hx
  · have hfull : s.hasRoom (s.ply p).nextNeeded = false := by
      have hno := hheld.resolve_left hi
      rw [← Bool.not_eq_true] at hno ⊢
      simp only [State.hasRoom, Bool.and_eq_true, decide_eq_true_eq] at hno ⊢
      rintro ⟨⟨hrun, hmax⟩, hcap⟩
      exact hno ⟨⟨hrun, hnext.trans hmax⟩, (Nat.succ_le_succ hnext).trans hcap⟩
    rw [State.askSlot_of_not fun ⟨_, _, hroom⟩ => by rw [hfull] at hroom; cases hroom] at hx
    exact hopened x hx

/-- R17: a need that finds room is met. -/
theorem State.askSlot_meets (hrun : s.inRun = true) (hp : s.active p = true) (hqueue : (s.ply p).head.queue.length < 4)
    (hrender : ∀ r, s.render = some r → r.ply ≠ p) (hmax : (s.ply p).nextNeeded ≤ 4294967295)
    (hroom : (s.ply p).nextNeeded < s.marriageSlot + 128) : (s.ply p).nextNeeded < (s.askSlot p).windowEnd := by
  by_cases hend : s.windowEnd ≤ (s.ply p).nextNeeded
  · have hrender' : s.render.map (·.ply) ≠ some p := fun hr => by
      obtain ⟨r, hr, hply⟩ := Option.map_eq_some_iff.mp hr
      exact hrender r hr hply
    have hdepth : (s.ply p).head.queue.length < Config.stagingDepth := hqueue
    have hstages : s.stages p = true := by simp [State.stages, hrun, hp, hdepth, hrender']
    rw [State.askSlot_of_room hstages hend]
    exact State.lt_windowEnd_create ((State.hasRoom_iff hrun _).mpr ⟨hmax, hroom⟩)
  · obtain ⟨n, hn⟩ := s.askSlot_adds p
    refine Nat.lt_of_lt_of_le (Nat.not_le.mp hend) ?_
    rw [hn]
    simp [State.windowEnd]

theorem PlyState.le_nextNeeded {ps : PlyState} {n : Nat} (hhead : n ≤ ps.unit.headSlot)
    (hqueue : ∀ x ∈ ps.head.queue, n ≤ x.slot) : n ≤ ps.nextNeeded := by
  unfold PlyState.nextNeeded
  split
  · exact Nat.le_succ_of_le (hqueue _ (List.mem_of_getLast? ‹_›))
  · exact hhead

end Asked

/-! ### The boundary as a whole -/

/-- A boundary but for the need that is asked again at its end. -/
def State.pastBoundary (s : State) (p : Ply) : State :=
  (s.atBoundary p).headBoundary p (s.ply p).unit.headSlot ((s.atBoundary p).ply p).unit.headSlot

section Past

variable {s : State} {p : Ply}

variable (hnext : (s.ply p).unit.headSlot < 4294967295)
include hnext

theorem State.headSlot_atBoundary : ((s.atBoundary p).ply p).unit.headSlot = (s.ply p).unit.headSlot + 1 := by
  rw [State.unit_atBoundary hnext]

theorem State.pastBoundary_eq : s.pastBoundary p = (s.atBoundary p).headBoundary p (s.ply p).unit.headSlot
    ((s.ply p).unit.headSlot + 1) := by rw [State.pastBoundary, State.headSlot_atBoundary hnext]

theorem State.formBegun : State.FormBegun p ((s.ply p).unit.headSlot + 1) (s.atBoundary p) (s.pastBoundary p) := by
  rw [State.pastBoundary_eq hnext]
  exact .of_headBoundary _ p _ _

theorem State.pastBoundary_not_opened (hp : s.active p = true) {x : Slot}
    (h : ((s.pastBoundary p).askSlot p).slotAt ((s.ply p).unit.headSlot + 1) = some x) : x.disp ≠ .opened := by
  have hbegun := State.formBegun hnext
  have hheadSlot := State.headSlot_atBoundary hnext
  have hactive : (s.atBoundary p).active p = true := by rw [(State.press_atBoundary hp).setup.active]; exact hp
  have hbelow : (s.atBoundary p).aboveHeads ((s.ply p).unit.headSlot + 1) = true → False := fun habove => by
    have hlt := (State.aboveHeads_iff _ _).mp habove p hactive
    rw [hheadSlot] at hlt
    exact Nat.lt_irrefl _ hlt
  have hbecomes : State.Becomes False ((s.ply p).unit.headSlot + 1) (s.atBoundary p) (s.pastBoundary p) := by
    rw [State.pastBoundary_eq hnext]
    exact State.becomes_headBoundary hheadSlot hbelow (Nat.lt_irrefl _)
  have hwindow : (s.pastBoundary p).windowEnd = (s.atBoundary p).windowEnd := by
    rw [State.windowEnd, State.windowEnd, hbegun.marriageSlot, hbegun.length]
  have hrun : (s.pastBoundary p).inRun = (s.atBoundary p).inRun := by
    rw [State.pastBoundary_eq hnext]; exact (PressAct.headBoundary _ _ _ _).inRun
  refine State.askSlot_not_opened (hbecomes.not_opened fun x hx => State.atBoundary_not_opened hnext hx) ?_ ?_ x h
  · have hroom : (s.pastBoundary p).hasRoom = (s.atBoundary p).hasRoom := by
      funext j
      rw [State.hasRoom, State.hasRoom, hrun, hbegun.marriageSlot]
    rw [hwindow, hroom]
    exact State.atBoundary_held hnext
  · exact PlyState.le_nextNeeded (by rw [hbegun.unit, hheadSlot]) hbegun.queue

/-- A slot below the new head slot as the form just ended left it. -/
theorem State.slotAt_pastBoundary {i : Nat} (hi : i < (s.ply p).unit.headSlot + 1) {x : Slot}
    (hx : (s.atBoundary p).slotAt i = some x) :
    ((s.pastBoundary p).askSlot p).slotAt i = ((s.atBoundary p).leaveForm p (s.ply p).unit.headSlot).slotAt i := by
  have hbegun := State.formBegun hnext
  have hend : i < (s.pastBoundary p).windowEnd := by
    rw [State.windowEnd, hbegun.marriageSlot, hbegun.length]
    exact State.lt_windowEnd_of_slotAt hx
  rw [State.slotAt_askSlot hend, State.pastBoundary_eq hnext,
    State.slotAt_headBoundary_below (State.headSlot_atBoundary hnext) hi]

section Room

variable (hp : s.active p = true) (hrun : s.inRun = true)
  (hroom : (s.ply p).unit.headSlot + 1 < s.windowEnd ∨ (s.ply p).unit.headSlot + 1 < s.marriageSlot + 128)
include hp hrun hroom

/-- R88 step 1: a BOUND form still PENDING is MISSED and spoiled. -/
theorem State.missed_pastBoundary (hguard : (s.ply p).head.guardCount ≠ 1) {slot : Slot} {b : Binding} {r : SubRecord}
    (hslot : s.slotAt (s.ply p).unit.headSlot = some slot) (hd : slot.disp = .bound b none)
    (hr : slot.subs.get p = some r) (hpending : r.print = .pending) :
    (((s.pastBoundary p).askSlot p).slotAt (s.ply p).unit.headSlot).map (·.disp) = some (s.spoiled b ⟨.miss, p⟩)
    ∧ (((s.pastBoundary p).askSlot p).subAt (s.ply p).unit.headSlot p).map (·.print) = some .missed := by
  have hadvanced : (s.advancedTo p 0).slotAt (s.ply p).unit.headSlot = s.slotAt (s.ply p).unit.headSlot := by
    rw [(s.advancedTo_moved p 0).quiet hguard]; rfl
  have hkept : (s.atBoundary p).slotAt (s.ply p).unit.headSlot = some slot := by
    rw [State.slotAt_atBoundary hnext hrun hroom (State.lt_windowEnd_of_slotAt hslot) (Nat.ne_of_lt (Nat.lt_succ_self _)),
      hadvanced, hslot]
  rw [State.subAt, State.slotAt_pastBoundary hnext (Nat.lt_succ_self _) hkept, ← State.subAt,
    ← (State.press_atBoundary hp).setup.spoiled]
  exact State.spoiled_leaveForm hkept hd hr hpending

/-- R88 step 2: the form just ended is AWAIT where the ply has a reader. -/
theorem State.verify_pastBoundary {r : SubRecord} (hr : s.subAt (s.ply p).unit.headSlot p = some r) :
    (((s.pastBoundary p).askSlot p).subAt (s.ply p).unit.headSlot p).map (·.verify)
      = some (if (s.ply p).record.readerDistance ≠ 0 ∧ r.verify = .notDue then .await else r.verify) := by
  obtain ⟨k, hk, hverify⟩ := (s.advancedTo_moved p 0).verify.sub hr
  obtain ⟨x, hx, -⟩ := Option.bind_eq_some_iff.mp hr
  obtain ⟨y, hy, hyk⟩ := Option.bind_eq_some_iff.mp hk
  have hkept := (State.slotAt_atBoundary hnext hrun hroom (State.lt_windowEnd_of_slotAt hx)
    (Nat.ne_of_lt (Nat.lt_succ_self _))).trans hy
  have hsub : (s.atBoundary p).subAt (s.ply p).unit.headSlot p = some k := by
    rw [State.subAt, hkept, Option.bind_some, hyk]
  rw [State.subAt, State.slotAt_pastBoundary hnext (Nat.lt_succ_self _) hkept, ← State.subAt,
    State.verify_leaveForm _ _ _ hsub, (State.press_atBoundary hp).setup.record, hverify]

end Room

/-- R81: a form that is not BOUND has no plan. -/
theorem State.pastBoundary_of_unbound
    (h : ∀ x b m, s.slotAt ((s.ply p).unit.headSlot + 1) = some x → x.disp ≠ .bound b m) :
    ((s.pastBoundary p).ply p).head.plan = [] := by
  have hphases := (State.HeadWork.reachPhase ((s.atBoundary p).beginForm p (s.ply p).unit.headSlot
    ((s.ply p).unit.headSlot + 1)) p 0).head.phases
  rw [State.plan_headBoundary_of_unbound (State.headSlot_atBoundary hnext) (State.atBoundary_not_bound hnext h),
    List.map_nil, List.map_eq_nil_iff] at hphases
  rw [State.pastBoundary_eq hnext, State.headBoundary_reach, hphases]

/-- R84: with no impression planned for phase 0, the boundary ends with the new form under the head. -/
theorem State.pastBoundary_of_later (h : ∀ i ∈ ((s.pastBoundary p).ply p).head.plan, 0 < i.phase) :
    s.pastBoundary p = (s.atBoundary p).beginForm p (s.ply p).unit.headSlot ((s.ply p).unit.headSlot + 1) := by
  rw [State.pastBoundary_eq hnext] at h ⊢
  exact State.headBoundary_of_later h

/-- R88 step 1: a form that is no longer PENDING is left as it is. -/
theorem State.closeEnded_atBoundary (hguard : (s.ply p).head.guardCount ≠ 1)
    (hsettled : ∀ slot b m r, s.slotAt (s.ply p).unit.headSlot = some slot → slot.disp = .bound b m →
      slot.subs.get p = some r → r.print ≠ .pending) :
    (s.atBoundary p).closeEnded p (s.ply p).unit.headSlot = s.atBoundary p := by
  refine State.closeEnded_of_settled fun slot b m r hslot hd hr => ?_
  have hadvanced := State.slotAt_of_atBoundary hnext hslot (by rw [hd]; simp) (by rw [hd]; simp)
  rw [(s.advancedTo_moved p 0).quiet hguard] at hadvanced
  exact hsettled slot b m r hadvanced hd hr

end Past

end Sys2Proof.Machine


namespace Sys2Proof.Machine

theorem PressAct.leaveForm (s : State) (p : Ply) (ended : Nat) : PressAct s (s.leaveForm p ended) :=
  (PressAct.closeEnded s p ended).trans (.awaitEnded _ p ended)

theorem PressAct.passForm (s : State) (p : Ply) (begun : Nat) : PressAct s (s.passForm p begun) := by
  have hpass : PressAct s (s.modHead p fun h => h.passTo begun) := .modHead (List.length_filter_le _ _) id
  exact hpass.trans (.adoptTrim _ p)

theorem State.awaitEnded_kept (s : State) (p : Ply) (ended : Nat) : (s.awaitEnded p ended).plies = s.plies
    ∧ (s.awaitEnded p ended).tallies = s.tallies ∧ (s.awaitEnded p ended).notices = s.notices
    ∧ (s.awaitEnded p ended).makeups = s.makeups := by
  unfold State.awaitEnded
  split
  · exact ⟨rfl, rfl, rfl, rfl⟩
  · exact ⟨State.modSlot_plies .., State.modSlot_tallies .., State.modSlot_notices .., State.modSlot_makeups ..⟩

section Later

variable {s : State} {p : Ply} (hnext : (s.ply p).unit.headSlot < 4294967295)
  (hlater : ∀ i ∈ ((s.pastBoundary p).ply p).head.plan, 0 < i.phase)
include hnext hlater

theorem State.deferred_pastBoundary : ((s.pastBoundary p).ply p).head.deferred = [] := by
  rw [State.pastBoundary_of_later hnext hlater, State.ply_beginForm]

/-- R88 step 4: of a settled form nothing but the entries passed leaves the queue. -/
theorem State.queue_pastBoundary (hguard : (s.ply p).head.guardCount ≠ 1)
    (hsettled : ∀ slot b m r, s.slotAt (s.ply p).unit.headSlot = some slot → slot.disp = .bound b m →
      slot.subs.get p = some r → r.print ≠ .pending) :
    ((s.pastBoundary p).ply p).head.queue
      = (s.ply p).head.queue.filter fun x => decide ((s.ply p).unit.headSlot + 1 ≤ x.slot) := by
  rw [State.pastBoundary_of_later hnext hlater, State.ply_beginForm, State.leaveForm,
    State.closeEnded_atBoundary hnext hguard hsettled, State.ply,
    (State.awaitEnded_kept (s.atBoundary p) p (s.ply p).unit.headSlot).1]
  have hqueue := (State.arrived_atBoundary hnext).quiet hguard
  rw [← hqueue]
  rfl

/-- R81, R83: the plan of the new form, under the trim adopted. -/
theorem State.plan_pastBoundary (hp : s.active p = true) {slot : Slot} {b : Binding} {m : Option SpoilMark}
    {r : SubRecord} {lay : Layout} {v : RunValues}
    (hslot : ((s.pastBoundary p).askSlot p).slotAt ((s.ply p).unit.headSlot + 1) = some slot)
    (hd : slot.disp = .bound b m) (hr : slot.subs.get p = some r) (hlay : s.segmentLayout b.segment = some lay)
    (hv : ((s.pastBoundary p).ply p).run = some v) :
    (r.print ≠ .pending → ((s.pastBoundary p).ply p).head.plan = [])
    ∧ (r.print = .pending → ∀ i, i ∈ ((s.pastBoundary p).ply p).head.plan ↔
      ∃ sel ∈ lay.selects p (s.ply p).record.headClass,
        i = ⟨sel, (((lay.phaseOf (s.ply p).record.splitPitch sel : Int) + v.trim) % s.cutoff).toNat, .waiting, 0⟩) := by
  have hheld := State.slotAt_of_askSlot hslot (by rw [hd]; simp)
  rw [State.pastBoundary_of_later hnext hlater] at hheld hv ⊢
  generalize hw : ((s.atBoundary p).leaveForm p (s.ply p).unit.headSlot).passForm p ((s.ply p).unit.headSlot + 1) = w
  have hsetup : s.SetupKept w := by
    rw [← hw]
    exact (((State.press_atBoundary hp).trans (.leaveForm _ _ _)).trans (.passForm _ _ _)).setup
  have hbegin : (s.atBoundary p).beginForm p (s.ply p).unit.headSlot ((s.ply p).unit.headSlot + 1) = w.planForm p := by
    rw [State.beginForm, hw]
  have hunit := State.unit_beginForm (s := s.atBoundary p) (p := p) (ended := (s.ply p).unit.headSlot)
    (begun := (s.ply p).unit.headSlot + 1) p
  rw [hbegin, State.ply_planForm, if_pos rfl] at hunit hv ⊢
  rw [hbegin] at hheld
  have hheadSlot : (w.ply p).unit.headSlot = (s.ply p).unit.headSlot + 1 := by
    rw [← State.headSlot_atBoundary hnext, ← hunit]
  have htrim : (w.ply p).trimInForce = v.trim := by
    have hrun : (w.ply p).run = some v := hv
    rw [PlyState.trimInForce, hrun]
    rfl
  have hplan := State.newPlan_of_bound (s := w) (p := p) (by rw [hheadSlot]; exact hheld) hd hr
    (by rw [hsetup.segmentLayout]; exact hlay)
  dsimp only
  rw [hplan]
  refine ⟨fun hprint => if_neg hprint, fun hprint i => ?_⟩
  rw [if_pos hprint, mem_planFor, htrim, hsetup.record, hsetup.cutoff]

end Later

/-- A boundary of a settled form that begins one that is not BOUND changes no tally, notice or entry of the list. -/
theorem State.pastBoundary_quiet {s : State} {p : Ply} (hnext : (s.ply p).unit.headSlot < 4294967295)
    (hguard : (s.ply p).head.guardCount ≠ 1)
    (hsettled : ∀ slot b m r, s.slotAt (s.ply p).unit.headSlot = some slot → slot.disp = .bound b m →
      slot.subs.get p = some r → r.print ≠ .pending)
    (hunbound : ∀ x b m, s.slotAt ((s.ply p).unit.headSlot + 1) = some x → x.disp ≠ .bound b m) :
    (s.pastBoundary p).tallies = (s.atBoundary p).tallies ∧ (s.pastBoundary p).notices = (s.atBoundary p).notices
    ∧ (s.pastBoundary p).makeups = (s.atBoundary p).makeups := by
  have hempty := State.pastBoundary_of_unbound hnext hunbound
  obtain ⟨-, htallies, hnotices, hmakeups⟩ := (s.atBoundary p).awaitEnded_kept p (s.ply p).unit.headSlot
  have hkept : ∀ u : State, ∀ begun, ((u.passForm p begun).planForm p).tallies = u.tallies
      ∧ ((u.passForm p begun).planForm p).notices = u.notices
      ∧ ((u.passForm p begun).planForm p).makeups = u.makeups := fun u begun => ⟨rfl, rfl, rfl⟩
  rw [State.pastBoundary_of_later hnext (by rw [hempty]; simp), State.beginForm, State.leaveForm,
    State.closeEnded_atBoundary hnext hguard hsettled, ← htallies, ← hnotices, ← hmakeups]
  exact hkept _ _

theorem joinEntry_of_listed {l : List MakeupEntry} {e : MakeupEntry} (h : l.any (fun x => decide (x.value = e.value)) = true
    ∨ 256 ≤ l.length) : joinEntry l e = l := by
  rw [joinEntry, if_pos]
  rw [Bool.or_eq_true, decide_eq_true_eq]
  exact h

theorem joinEntry_of_not_listed {l : List MakeupEntry} {e : MakeupEntry}
    (h : l.any (fun x => decide (x.value = e.value)) = false) (hlen : l.length < 256) :
    joinEntry l e = insertEntry e l := by
  rw [joinEntry, h, decide_eq_false (Nat.not_le.mpr hlen)]
  rfl

theorem Tallies.retireVoid_of_lt {t : Tallies} (hr : t.retired < 4294967295) (hv : t.void < 4294967295) :
    t.retireVoid = { t with retired := t.retired + 1, void := t.void + 1 } := by
  have hraise : ∀ n k, k < 4294967295 → raiseTally n k = k + 1 := fun n k hk => if_pos hk
  rw [Tallies.retireVoid, hraise 0 _ hr, hraise 3 _ hv]

/-- R60: the unit as the boundary leaves it. -/
theorem PositionUnit.superviseMark_eq {u : PositionUnit} (howed : u.owed = 0) (headSlot : Nat) :
    { u.superviseMark with position := 0, headSlot := headSlot } =
      ({ position := 0
         owed := 0
         registration := match u.registration with
           | .locked => if u.markTaken then .locked else .coast
           | .coast => .lost
           | .off => .off
           | .search => .search
           | .lost => .lost
         headSlot := headSlot
         markTaken := false
         spliceWatch := u.spliceWatch } : PositionUnit) := by
  rw [PositionUnit.superviseMark, howed]
  cases u.registration <;> rfl

end Sys2Proof.Machine


namespace Sys2Proof.Machine

/-- Settles O5: the boundary step by step. A slot BOUND after the head slot is taken was so before, so the plan and
the closing of the form go back to the state the count found; and what falls due at phase 0 writes nothing below the
new head slot. -/
theorem forwardCountTakesTheBoundary : Obligations.ForwardCountTakesTheBoundary := by
  intro e p s hcount howed hends ps ended begun unit hasRoom settled
  have hp : s.active p = true := State.active_of_countingPlies (e := e) (by rw [hcount]; exact List.mem_singleton_self p)
  have hrun : s.inRun = true := by
    by_contra hidle
    rw [State.countingPlies, if_neg hidle] at hcount
    cases hcount
  have hframe : s.PressFrame (s.forwardCount p) := (PressAct.forwardCount hp).frame
  have hcounted : s.forwardCount p = (s.pastBoundary p).askSlot p := State.forwardCount_boundary s p howed hends
  have hpast : PressAct s (s.pastBoundary p) := (State.press_atBoundary hp).trans (.headBoundary _ _ _ _)
  rw [exec_forwardCount_single hcount]
  rw [hcounted] at hframe ⊢
  refine ⟨fun hnext => ⟨_, rfl, ?_⟩, fun hmax => ⟨_, rfl, ?_⟩⟩
  · have hbegun := State.formBegun hnext
    have harrived := State.arrived_atBoundary hnext
    simp only [State.ply_askSlot]
    refine ⟨?unit, fun q hq => ?others, fun slot hslot => State.pastBoundary_not_opened hnext hp hslot, hframe,
      fun hcoast hnone => ?coast, fun hguard hroom slot b r hslot hd hr hprint =>
        State.missed_pastBoundary hnext hp hrun hroom hguard hslot hd hr hprint,
      fun hroom r hr => State.verify_pastBoundary hnext hp hrun hroom hr, hbegun.queue, hbegun.loaded,
      fun img hl => hbegun.loading img (harrived.load img hl), hbegun.trim, fun v hv => ?run, hbegun.plan,
      fun hunbound => State.pastBoundary_of_unbound hnext hunbound, fun hlater => ?later, ?full,
      fun hqueue hrender hindex hroom => ?need⟩
    case unit => rw [hbegun.unit, State.unit_atBoundary hnext]; exact PositionUnit.superviseMark_eq howed begun
    case others => rw [hbegun.unit, State.unit_atBoundary_ne hnext hq]
    case coast => rw [hbegun.capture]; exact State.capture_of_coast hcoast hnone
    case run => rw [hbegun.run, harrived.run, harrived.trim, hv]; rfl
    case later =>
      exact ⟨State.deferred_pastBoundary hnext hlater,
        fun hguard hsettled => State.queue_pastBoundary hnext hlater hguard hsettled,
        fun slot b m r lay v hslot hd hr hlay hv => State.plan_pastBoundary hnext hlater hp hslot hd hr hlay hv⟩
    case need =>
      rw [State.askSlot_marriageSlot] at hroom
      exact State.askSlot_meets (hpast.inRun.trans hrun) (hpast.setup.active p ▸ hp) hqueue
        (by rw [State.askSlot_render] at hrender; exact hrender) hindex hroom
    case full =>
      intro hfull hguard hsteady hsettled slot rest hs
      obtain ⟨hend, hcap⟩ : s.windowEnd ≤ begun ∧ s.marriageSlot + 128 ≤ begun := by
        simp only [hasRoom, not_or, Nat.not_lt] at hfull
        exact hfull
      obtain ⟨hmarriage, hcapture, htallies, hnotices, howed', hnone⟩ :=
        State.atBoundary_full hrun hnext hend hcap hguard hsteady hs
      obtain ⟨htallies', hnotices', hmakeups'⟩ := State.pastBoundary_quiet hnext hguard hsettled
        (by rw [State.slotAt_of_windowEnd_le hend]; simp)
      simp only [State.askSlot_marriageSlot, State.askSlot_notices, State.askSlot_tallies, State.askSlot_makeups,
        hbegun.marriageSlot, hbegun.capture, htallies', hnotices', hmakeups']
      refine ⟨hmarriage, fun hclear => by rw [hcapture, hclear]; rfl, fun k hk => by rw [hcapture, hk]; rfl, hnotices,
        fun hr hv => htallies.trans (Tallies.retireVoid_of_lt hr hv),
        fun b hd hlisted hlen => (howed' b hd).trans (joinEntry_of_not_listed hlisted hlen), fun hlisted => ?_⟩
      by_cases h : ∃ b, slot.disp = .bound b none
      · obtain ⟨b, hd⟩ := h
        exact (howed' b hd).trans (joinEntry_of_listed (hlisted b hd))
      · exact hnone fun b hd => h ⟨b, hd⟩
  · obtain ⟨hunit, hothers, hclear, hheld⟩ := State.atBoundary_of_max hmax
    have hbegun : State.FormBegun p _ (s.atBoundary p) (s.pastBoundary p) := .of_headBoundary _ p _ _
    simp only [State.ply_askSlot, hbegun.unit, hbegun.capture]
    exact ⟨hunit.trans (PositionUnit.superviseMark_eq howed ended), hothers, hclear, hheld, hframe⟩

end Sys2Proof.Machine
